-- ==== Sys2Proof/Word.lean ====
section
/-! DEFINITION. The words of the TK4610: the widths the spec gives its registers, operands and unit numbers. -/

namespace Sys2Proof

/-- A 32-bit register, descriptor or memory word (R2, R11). -/
abbrev Word := BitVec 32
/-- One byte. -/
abbrev Byte := BitVec 8
/-- Instance number, 32 × host port + function (R364). -/
abbrev InstNo := BitVec 7
/-- Eweiz root port 0–15. -/
abbrev PortNo := BitVec 4
/-- Host (PCIe) port 0–3. -/
abbrev HostNo := BitVec 2
/-- Logical engine 0–1,023. -/
abbrev EngNo := BitVec 10
/-- Rope 0–31. -/
abbrev RopeNo := BitVec 5
/-- Marker 0–31. -/
abbrev MarkNo := BitVec 5
/-- Cairn 0–65,535. -/
abbrev CairnNo := BitVec 16
/-- DMA channel 0–15. -/
abbrev ChanNo := BitVec 4
/-- Work queue context 0–2,047. -/
abbrev CtxNo := BitVec 11
/-- Management core: 0–3, or 4 for the reserve (R436). -/
abbrev CoreNo := Fin 5
/-- Device time: 64-bit ns with a 16-bit fraction, as one 80-bit count of 2⁻¹⁶ ns. -/
abbrev Time80 := BitVec 80

end Sys2Proof
end

