-- ==== Sys2Proof/Syntax.lean ====
section
/-! DEFINITION. The commands the TK4610 takes: one constructor of `Instr` per row of spec/opcode_table.json, each with
the operands its rule gives it.  A register access carries the accessing function (`fn`, an instance number of R364);
an event of the part carries the unit it falls on and what the outside world supplied with it. -/

namespace Sys2Proof

/-- Size of a host access (R11, R12). -/
inductive AccSize where
  | b1 | b2 | b4 | b8
  deriving DecidableEq, Repr

/-- One software access to a register (R10–R12): by function `fn`, or by the command processor where `cp`.  `val` is what a
write writes, none for a read.  In the cycle in which the access is applied, hardware updates the bits of `upd` (the value it
loads, in an RC field) and a reset reaches the bits of `rst` (R8, R9). -/
structure RegAcc where
  cp : Bool
  fn : InstNo
  off : BitVec 26
  size : AccSize
  val : Option (BitVec 64)
  ep : Bool
  upd : BitVec 64
  rst : BitVec 64
  deriving DecidableEq, Repr

/-- What falls into the cycle of a register write: whether the command processor writes it, the bits that hardware updates and those
that a reset reaches, and the other accesses of the cycle (R8–R10). -/
structure SameCycle where
  cp : Bool
  upd : BitVec 64
  rst : BitVec 64
  same : List RegAcc
  deriving DecidableEq, Repr

/-- A read of a register: its place, its size, and whether the word read is the low word of a counter wider than 32 bits, which the
register tables do not give (R7, R11, R12; log entry 15). -/
structure RegRead where
  off : BitVec 26
  size : AccSize
  wide : Bool
  deriving DecidableEq, Repr

/-- A read of SCH_RFXMAX of a port, and the maximum that hardware loads in its cycle, 0 where it loads none (R8, R228). -/
structure RfxRead where
  p : PortNo
  load : BitVec 16
  deriving DecidableEq, Repr

/-- For how many PTU clocks a change of an encoder input has been stable, and by how much its delay from the balls differs from
(FILT + 1) × 2 ns + 10 ns, in 2⁻¹⁶ ns (R25, R28). -/
structure InputAt where
  stable : BitVec 4
  skew : BitVec 18
  deriving DecidableEq, Repr

/-- A change of the encoder inputs A and B (R24, R25): the levels it leads to, for how many PTU clocks they have been stable, and by how
much its delay from the balls differs from (FILT + 1) × 2 ns + 10 ns, in 2⁻¹⁶ ns (R28). -/
structure EncEdge where
  a : Bool
  b : Bool
  stable : BitVec 4
  skew : BitVec 18
  deriving DecidableEq, Repr

/-- A rising edge of Z of a track, and the change of A and B that is applied in the same PTU clock (R25, R27). -/
structure ZEdge where
  t : BitVec 3
  stable : BitVec 4
  skew : BitVec 18
  ab : Option EncEdge
  deriving DecidableEq, Repr

/-- A low-frequency burst that a root port hears, by its length in ns (R77). -/
structure BurstIn where
  p : PortNo
  ns : BitVec 16
  deriving DecidableEq, Repr

/-- A PRESENCE burst, by its length in ns, and the TRAIN blocks, byte 0 lowest, that the partner sends in the training that the burst
starts (R77, R79). -/
structure PresenceIn where
  p : PortNo
  ns : BitVec 16
  train : List (BitVec 64)
  deriving DecidableEq, Repr

/-- The block times that the receiver of a root port has seen, the latest last: 66 bits, or none without block lock (R71, R90). -/
structure LockIn where
  p : PortNo
  line : List (Option (BitVec 66))
  deriving DecidableEq, Repr

/-- What the receiver of a root port has taken from the lane for one packet, from its SOP block to its last (R71, R72): the 58
bits received before it, the oldest lowest, and its 66-bit blocks in order.  A block holds its sync header in [1:0] and the 64
bits that follow it in [65:2], the first received lowest. -/
structure RxLine where
  seed : BitVec 58
  line : List (BitVec 66)
  deriving DecidableEq, Repr

/-- Format R below OP (R319): [25:21] RD, [20:16] RA, [15:11] RB, [10] 0, [9:6] AUX; FN is the row's. -/
structure RFmt where
  rd : BitVec 5
  ra : BitVec 5
  rb : BitVec 5
  z : BitVec 1
  aux : BitVec 4
  deriving DecidableEq, Repr

/-- Format I below OP (R319). -/
structure IFmt where
  rd : BitVec 5
  ra : BitVec 5
  imm : BitVec 16
  deriving DecidableEq, Repr

/-- Format B below OP (R319). -/
structure BFmt where
  cond : BitVec 4
  off : BitVec 22
  deriving DecidableEq, Repr

/-- Format J below OP (R319). -/
structure JFmt where
  off : BitVec 26
  deriving DecidableEq, Repr

/-- Format Y below OP (R319): [25] T, [24] W, [23:16] WREQ, [15:11] RA, [10:6] RB, [5:0] 0. -/
structure YFmt where
  t : Bool
  w : Bool
  wreq : Byte
  ra : BitVec 5
  rb : BitVec 5
  z : BitVec 6
  deriving DecidableEq, Repr

/-- Format E below OP (R319): [25:7] 0, [6:0] CODE. -/
structure EFmt where
  z : BitVec 19
  code : BitVec 7
  deriving DecidableEq, Repr

/-- Format V below OP (R319); FN is the row's. -/
structure VFmt where
  vd : BitVec 4
  va : BitVec 4
  vb : BitVec 4
  vc : BitVec 4
  ac : BitVec 2
  rm : BitVec 2
  deriving DecidableEq, Repr

/-- Format VR below OP (R319): [25:22] VD, [21:18] 0, [17:12] SH, [11:10] 0, [9:8] AC, [7:6] RM. -/
structure VRFmt where
  vd : BitVec 4
  z1 : BitVec 4
  sh : BitVec 6
  z2 : BitVec 2
  ac : BitVec 2
  rm : BitVec 2
  deriving DecidableEq, Repr

/-- Format VG below OP (R319): [25:21] G, [20:17] V, [16:15] LANE, [14:6] 0. -/
structure VGFmt where
  g : BitVec 5
  v : BitVec 4
  lane : BitVec 2
  z : BitVec 9
  deriving DecidableEq, Repr

/-- Format VM below OP (R319): [25:22] VD, [21] 0, [20:16] RA, [15:0] IMM. -/
structure VMFmt where
  vd : BitVec 4
  z : BitVec 1
  ra : BitVec 5
  imm : BitVec 16
  deriving DecidableEq, Repr

/-- Status of a completion for a host read (R360). -/
inductive CplStatus where
  | sc | ur | ca
  /-- The request's translation returned no access (R359). -/
  | noAccess
  deriving DecidableEq, Repr

/-- What stands behind a fence: a physical engine of a rope, or a management core (R582, R592). -/
inductive FenceUnit where
  | engine (r : RopeNo) (p : Fin 33)
  | core (k : CoreNo)
  deriving DecidableEq, Repr

/-- The three ranges an ownership range write may name (R368). -/
inductive RangeKind where
  | cairn | flow | pool
  deriving DecidableEq, Repr

/-- An event vector: function vector (INST, VEC) or core vector (R527). -/
inductive VecNo where
  | fn (i : InstNo) (v : BitVec 6)
  | core (v : BitVec 6)
  deriving DecidableEq, Repr

/-- A unit that holds a power state (R557). -/
inductive PwrUnit where
  | rope (r : RopeNo)
  | port (p : PortNo)
  | engine (e : EngNo)
  deriving DecidableEq, Repr

/-- A wake source of Off (R568). -/
inductive WakeSrc where
  | wakeN
  | i2c
  | gpio (n : BitVec 4)
  deriving DecidableEq, Repr

/-- One image of the boot flash: its 128 header words (R607) and its body. -/
structure BootImage where
  header : List Word
  body : List Word
  deriving DecidableEq, Repr

/-- What a start-up meets outside the logic: the findings of BIST (R603) and of the checker test (R490), and the two
flash images, `none` where the flash does not answer (R608 order 1). -/
structure BootInput where
  soft : BitVec 16
  gfail : BitVec 4
  ropeFail : BitVec 32
  engFail : List (RopeNo × Fin 33)
  chk0 : BitVec 32
  chk1 : BitVec 4
  primary : Option BootImage
  secondary : Option BootImage
  deriving DecidableEq, Repr

/-- The commands of the part: one constructor per row of the table of operations and events. -/
inductive Instr where
  /-- REGISTER_WRITE (R3). A software write to a register field that has no row of its own, applied according to the field type. -/
  | registerWrite (fn : InstNo) (off : BitVec 26) (size : AccSize) (val : BitVec 64) (ep : Bool) (meet : SameCycle)
  /-- CNT_LOW_WORD_READ (R7). A read of the low word of a counter wider than 32 bits latches its high word for the reading function. -/
  | cntLowWordRead (fn : InstNo) (r : RegRead)
  /-- LIST_APERTURE_WRITE (R199). An atomic 32-bit write to list memory through the aperture, refused in the firmware region. -/
  | listApertureWrite (fn : InstNo) (word : BitVec 21) (val : Word) (ep : Bool)
  /-- CAIRN_APERTURE_WRITE (R230). A write through the cairn store aperture, taking effect only while the cairn is FREE, DONE or HALTED, and otherwise setting CWERR. -/
  | cairnApertureWrite (fn : InstNo) (c : CairnNo) (w : BitVec 4) (val : Word) (ep : Bool)
  /-- PTU_CLOCK_TICK (R19). On every PTU clock, device time advances by PTU_TINC and tracks, markers and predictions are evaluated. -/
  | ptuClockTick
  /-- TINC_WRITE (R20). A write to PTU_TINC, discarded when it lies outside the allowed trim range. -/
  | tincWrite (fn : InstNo) (val : Word)
  /-- TIME_LOAD (R21). PTU_CTL.TLOAD loads device time from PTU_TSET on the next PTU clock and wins over a step in the same clock. -/
  | timeLoad (fn : InstNo)
  /-- TIME_STEP (R21). PTU_CTL.TSTEP adds the signed PTU_TADJ to device time once, on the next PTU clock. -/
  | timeStep (fn : InstNo)
  /-- TIMELO_READ_LATCH (R22). A read of PTU_TIMELO latches PTU_TIMEHI and PTU_TIMEFR for the reading function. -/
  | timeloReadLatch (fn : InstNo)
  /-- ENCODER_EDGE (R24). A filtered A or B encoder edge is counted according to the mode, stamped with its time and applied to the track. -/
  | encoderEdge (t : BitVec 3) (k : InputAt) (a b : Bool)
  /-- ENCODER_Z_EDGE (R27). A rising edge of Z captures the count in ZCAP, sets ZSEEN, and clears the count when ZCLR = 1. -/
  | encoderZEdge (z : ZEdge)
  /-- TRACK_STOPPED (R33). No edge for TOUT sets STOPPED, which zeroes the fraction and the reported velocity. -/
  | trackStopped (t : BitVec 3)
  /-- TRACK_PRESET (R34). A write of PRESET loads PTU_TRKSET as the track position on the next PTU clock and restarts the history. -/
  | trackPreset (fn : InstNo) (t : BitVec 4)
  /-- TRKPOSF_READ_LATCH (R63). A read of PTU_TRKPOSF latches PTU_TRKPOSH and PTU_TRKVEL. -/
  | trkposfReadLatch (fn : InstNo) (t : BitVec 4)
  /-- POSITION_REPORT (R141). A received POSITION_REPORT is converted to device time and, when accepted, replaces the virtual track position and velocity. -/
  | positionReport (p : PortNo) (pkt : RxLine)
  /-- TRACK_STALE (R32). No accepted report for TOUT sets STALE, zeroes the velocity and holds the position. -/
  | trackStale (t : BitVec 4)
  /-- MARKER_TARGET_WRITE (R35). A write of PTU_MKTGT1 sets U and L from both target words and clears the arm bits. -/
  | markerTargetWrite (fn : InstNo) (m : MarkNo) (val : Word)
  /-- MARKER_STEP_WRITE (R35). A write of PTU_MKSTEP1 takes effect together with the held PTU_MKSTEP0. -/
  | markerStepWrite (fn : InstNo) (m : MarkNo) (val : Word)
  /-- MARKER_FIRE (R37). A marker whose armed value reaches its target fires, records the time, sets PEND and advances its targets. -/
  | markerFire (m : MarkNo)
  /-- DEFERRED_START_DUE (R49). When FMIN has just passed, a pending deferred start commits a deferred MARKER frame. -/
  | deferredStartDue (p : PortNo)
  /-- FMAX_EXPIRY (R45). When FMAX passes with no bound fire, a TIME_FILL frame is committed. -/
  | fmaxExpiry (p : PortNo)
  /-- PFRM_WRITE (R44). A write to PTU_PFRM, discarded with CFGERR for invalid limits; a change of FEN starts or ends frame starts. -/
  | pfrmWrite (fn : InstNo) (p : PortNo) (val : Word)
  /-- PFNUM_WRITE (R51). A write to PTU_PFNUM takes effect only while FEN = 0. -/
  | pfnumWrite (fn : InstNo) (p : PortNo) (val : Word)
  /-- SOF_TRANSMIT (R53). SOF leaves the root port LAT after its commit, carrying frame number, position stamp and flags. -/
  | sofTransmit (p : PortNo)
  /-- PRESENCE_PERIOD (R77). Every 100 µs in Disconnected, the port sends a PRESENCE burst. -/
  | presencePeriod (p : PortNo)
  /-- PRESENCE_BURST (R90). Partner PRESENCE in two consecutive periods starts a full link training. -/
  | presenceBurst (k : PresenceIn)
  /-- DELAY_ECHO (R81). A received DELAY_ECHO gives a round trip that is averaged into the hop delay. -/
  | delayEcho (p : PortNo) (seq turnaround roundTrip : BitVec 16)
  /-- TRAINING_COMPLETE (R78). Training reaches step 5, the link enters L0 and LINKUP is set.  The IDLE blocks
  received in step 5, and the measured LAT. -/
  | trainingComplete (p : PortNo) (idle : Byte) (lat : BitVec 16)
  /-- TRAINING_TIMEOUT (R80). A training not done by 2 ms fails, returns to Disconnected and sets TRAINFAIL. -/
  | trainingTimeout (p : PortNo)
  /-- TRAINFAIL_QUIET_END (R80). The 10 ms without PRESENCE after a failed training ends. -/
  | trainfailQuietEnd (p : PortNo)
  /-- KEEP_PERIOD (R77). Every 1 ms in L1 or L2, the port sends a KEEP burst. -/
  | keepPeriod (p : PortNo)
  /-- KEEP_BURST (R90). A KEEP burst from the partner shows that it is still attached. -/
  | keepBurst (k : BurstIn)
  /-- KEEP_TIMEOUT (R90). No KEEP for 3.5 ms in L1 or L2 detaches the link. -/
  | keepTimeout (p : PortNo)
  /-- WAKE_BURST (R90). A WAKE burst in L1 or L2 starts a resume, and a hub forwards it. -/
  | wakeBurst (k : BurstIn)
  /-- RESUME_COMPLETE (R90). The link returns to L0 after a resume, and RESUME is reported with its qualifiers. -/
  | resumeComplete (p : PortNo)
  /-- HOST_RESUME (R98). A write of EWZ_CTL.RESUME resumes the suspended root link. -/
  | hostResume (fn : InstNo) (p : PortNo)
  /-- SUSPEND_REQUEST (R93). A write of EWZ_CTL.SUSPREQ sends SUSPEND_REQ for L1 or L2. -/
  | suspendRequest (fn : InstNo) (p : PortNo) (level : BitVec 2)
  /-- SUSPEND_ACK (R90). A received SUSPEND_ACK takes the link through 64 IDLE blocks into L1 or L2. -/
  | suspendAck (p : PortNo)
  /-- SUSPEND_NAK (R90). A received SUSPEND_NAK refuses the suspend and returns the link to L0. -/
  | suspendNak (p : PortNo)
  /-- SUSPEND_ENTRY_TIMEOUT (R90). No answer within 500 ns refuses the suspend. -/
  | suspendEntryTimeout (p : PortNo)
  /-- RETRAIN_REQ (R90). A received RETRAIN_REQ starts a fast retrain. -/
  | retrainReq (p : PortNo)
  /-- MARGIN_MEASURE (R83). Every 10 µs in L0, the receiver measures eye width and height. -/
  | marginMeasure (p : PortNo) (width height : Byte)
  /-- FORCE_RETRAIN (R87). A write of FORCERT starts the pending retrain at the next GUARD. -/
  | forceRetrain (fn : InstNo) (p : PortNo)
  /-- FAST_RETRAIN_COMPLETE (R86). A fast retrain completes, LAT is re-measured and the link returns to L0. -/
  | fastRetrainComplete (p : PortNo) (lat : BitVec 16)
  /-- RETRAIN_TIMEOUT (R90). A retrain not completed in 10 µs enters Recovery. -/
  | retrainTimeout (p : PortNo)
  /-- BLOCK_LOCK_LOST (R90). Loss of block lock or invalid sync headers enters Recovery, losing packets in passage and ending outstanding transactions. -/
  | blockLockLost (k : LockIn)
  /-- RECOVERY_COMPLETE (R90). Block lock and fast retrain within 50 µs return the link to L0 and count RECOV. -/
  | recoveryComplete (p : PortNo) (lat : BitVec 16)
  /-- RECOVERY_TIMEOUT (R90). 50 µs without success drops the link to Disconnected. -/
  | recoveryTimeout (p : PortNo)
  /-- PORT_RESET_REQUEST (R90). A write of EWZ_CTL.RESET resets the tier-1 device as a LINKCMD or burst, or holds the request. -/
  | portResetRequest (fn : InstNo) (p : PortNo)
  /-- EWZ_ENABLE_WRITE (R90). A write of EWZ_CTL.EN disables the root port, which is a link drop, or restarts presence detection. -/
  | ewzEnableWrite (fn : InstNo) (p : PortNo) (en : Bool)
  /-- SKIP_INSERT (R74). The transmitter inserts a SKIP block so that none of its intervals exceeds 2,048 blocks. -/
  | skipInsert (p : PortNo)
  /-- BABBLE_TIMEOUT (R120). A device still inside a packet one segment time plus 100 ns after GUARD is cut off, and the link is Disabled. -/
  | babbleTimeout (p : PortNo)
  /-- DATA (R147). A received DATA packet is classified by sequence and taken into the buffer or an operand slot if there is room. -/
  | dataPkt (p : PortNo) (pkt : RxLine)
  /-- ACK (R149). A received ACK releases retained packets before E and grants credit for the next burst. -/
  | ack (p : PortNo) (pkt : RxLine)
  /-- NAK (R175). A received NAK ends the transaction without timeout, and it is sent again at the next opportunity. -/
  | nak (p : PortNo) (pkt : RxLine)
  /-- NOTYET (R155). A received NOTYET puts the pipe into the waiting state. -/
  | notyet (p : PortNo) (pkt : RxLine)
  /-- STALL (R161). A received STALL completes the transfer with STALLED and halts the pipe. -/
  | stallPkt (p : PortNo) (pkt : RxLine)
  /-- PROBE (R158). A received PROBE is answered with READY and credit when there is room, and otherwise NAK. -/
  | probe (p : PortNo) (pkt : RxLine)
  /-- READY (R156). A received READY ends the waiting state of an OUT pipe and allows the next burst. -/
  | ready (p : PortNo) (pkt : RxLine)
  /-- PORT_EVENT (R118). A received PORT_EVENT delivers hub port status records and sets HUBEVT. -/
  | portEvent (p : PortNo) (pkt : RxLine)
  /-- RESPONSE_TIMEOUT (R174). No valid answer by 2 × ADELAY + 4 × Tseg times out the transaction, increments TOCNT and retries by class. -/
  | responseTimeout (p : PortNo) (class0 : Bool)
  /-- BURST_GAP_TIMEOUT (R173). A burst gap longer than 2 × Tseg ends the burst. -/
  | burstGapTimeout (p : PortNo)
  /-- PROBE_INTERVAL_EXPIRY (R156). One probe interval after a NOTYET or NAK, the root port sends a PROBE or TOKEN_IN on the waiting pipe. -/
  | probeIntervalExpiry (p : PortNo) (addr : BitVec 7) (dirIn : Bool) (ep : BitVec 4)
  /-- WALKER_SERVE_BURST (R185). The walker starts the next transaction of classes 1-3 when W + GLEN fits PTU_PNEXT. -/
  | walkerServeBurst (p : PortNo)
  /-- GUARD_SEND (R188). After the close, with nothing outstanding, the walker completes class-1 leftovers and the root port sends GUARD. -/
  | guardSend (p : PortNo)
  /-- LIST_SYNC (R202). A write of SCH_CTL.LISTSYNC asks the walker to release descriptor addresses read before the write. -/
  | listSync (fn : InstNo) (p : PortNo)
  /-- LIST_SYNC_CLEAR (R202). LISTSYNC clears once the walker holds no address read before the write. -/
  | listSyncClear (p : PortNo)
  /-- DESCRIPTOR_CANCEL (R203). SCH_CANCEL.GO cancels a descriptor and reports the RESULT. -/
  | descriptorCancel (fn : InstNo) (p : PortNo) (desc : BitVec 17)
  /-- CLASS0_TOKEN_ISSUE (R220). The class-0 issuer sends the TOKEN_IN of the next reflex pair when its conditions hold, opening the pair. -/
  | class0TokenIssue (p : PortNo)
  /-- EMIT_PACKET_SEND (R222). An accepted EMIT packet is sent at the next cut point. -/
  | emitPacketSend (p : PortNo) (pair : BitVec 5) (latency : BitVec 16)
  /-- REFLEX_MAX_READ (R228). A read of SCH_RFXMAX returns the largest latency and clears it. -/
  | reflexMaxRead (fn : InstNo) (r : RfxRead)
  /-- ACTIVATE (R232). TSC_CMD ACTIVATE checks a cairn and makes it IDLE or refuses with a result. -/
  | activate (fn : InstNo) (c : CairnNo)
  /-- DEACTIVATE (R231). TSC_CMD DEACTIVATE frees a cairn, drops its operands and disarms its timers. -/
  | deactivate (fn : InstNo) (c : CairnNo)
  /-- MARKER_OPERAND_OFFER (R238). Each PTU clock that begins with PEND set, the TSC offers a MARKER operand to the routed slot. -/
  | markerOperandOffer (m : MarkNo)
  /-- TIMER_EXPIRY (R239). A periodic timer reaches its deadline, delivers a TIMER operand and advances by TPER. -/
  | timerExpiry (c : CairnNo)
  /-- YIELD_TIMEOUT (R252). A YIELD timeout expires and resolves the wait with TIMEOUT. -/
  | yieldTimeout (c : CairnNo)
  /-- DISPATCH_ASSIGN (R244). Each fabric cycle, the TSC assigns READY cairns to eligible engines' prefetch slots by priority and affinity. -/
  | dispatchAssign
  /-- THREAD_START (R247). The engine starts the prefetched thread with the registers of R280. -/
  | threadStart (e : EngNo)
  /-- RFXN_WRITE (R249). A change of RFXN moves engines into or out of the reflex set. -/
  | rfxnWrite (fn : InstNo) (r : RopeNo) (n : BitVec 3)
  /-- REFLEX_SET_ACTIVE (R249). RFXACT becomes 1 once every reflex engine holds only reflex cairns. -/
  | reflexSetActive (r : RopeNo)
  /-- DETECTOR_PASS (R253). Every 4,096 fabric cycles the cycle detector walks the wait-for edges. -/
  | detectorPass
  /-- COMPLETION_QUEUE_OFFER (R255). A held completion operand is offered again to its slot each fabric cycle. -/
  | completionQueueOffer (p : PortNo) (k : BitVec 5)
  /-- SEND_RETRY_EXPIRY (R255). After 256 engine cycles without acceptance, SEND returns BUSY. -/
  | sendRetryExpiry (e : EngNo)
  /-- COMPLETION_RECORD_MERGE (R258). The collector merges an END or YIELD record: LSTAT, belay, operands, state and log. -/
  | completionRecordMerge (e : EngNo)
  /-- CLOAD_WRITE (R284). ENG_CTL.CLOAD takes the engine out of dispatch and makes its instruction memory writable. -/
  | cloadWrite (fn : InstNo) (e : EngNo) (v : Bool)
  /-- CGRP_WRITE (R284). A change of code group returns a prefetched cairn of the old group to READY. -/
  | cgrpWrite (fn : InstNo) (e : EngNo) (v : Byte)
  /-- ACCDATA_READ (R310). A read of ENG_ACCDATA returns the named word and advances OFFSET when AUTOINC = 1. -/
  | accdataRead (fn : InstNo) (r : RopeNo)
  /-- ACCDATA_WRITE (R310). A write of ENG_ACCDATA writes the named word, subject to R272, and advances OFFSET. -/
  | accdataWrite (fn : InstNo) (r : RopeNo) (val : Word)
  /-- SOFTWARE_ATTENTION (R314). A write of ENG_LATTN.SET sets ENG_ESTAT.SWATTN. -/
  | softwareAttention (e : EngNo)
  /-- LOCAL_TIME_READ (R314). A read of ENG_LTIMELO latches ENG_LTIMEHI. -/
  | localTimeRead (e : EngNo) (rd : BitVec 5)
  /-- WATCHDOG_EXPIRY (R302). ENG_LCYC reaching LIMIT raises WATCHDOG and halts the thread. -/
  | watchdogExpiry (e : EngNo)
  /-- WAIT_TIMEOUT (R303). A WAIT timeout expires, and WAIT returns TIMEOUT. -/
  | waitTimeout (e : EngNo)
  /-- HEARTBEAT_SEND (R305). Every HBPER µs an engine or its rope sends a heartbeat to the health manager. -/
  | heartbeatSend (e : EngNo)
  /-- SELF_CHECK (R306). The engine runs its self-check sequence in cycles that issue nothing. -/
  | selfCheck (e : EngNo) (pass : Bool)
  /-- DEBUG_HALT_REQUEST (R308). HALTREQ halts the engine after the current instruction. -/
  | debugHaltRequest (fn : InstNo) (e : EngNo)
  /-- DEBUG_STEP (R308). STEP executes one instruction and halts again. -/
  | debugStep (fn : InstNo) (e : EngNo)
  /-- DEBUG_RESUME (R308). RESUME leaves the debug halt. -/
  | debugResume (fn : InstNo) (e : EngNo)
  /-- ADD (R323). rd = ra + rb, flags A. -/
  | add (e : EngNo) (f : RFmt)
  /-- SUB (R323). rd = ra − rb, flags S. -/
  | sub (e : EngNo) (f : RFmt)
  /-- ADC (R323). Add with carry. -/
  | adc (e : EngNo) (f : RFmt)
  /-- SBC (R323). Subtract with borrow. -/
  | sbc (e : EngNo) (f : RFmt)
  /-- AND (R323). Bitwise AND. -/
  | andr (e : EngNo) (f : RFmt)
  /-- OR (R323). Bitwise OR. -/
  | orr (e : EngNo) (f : RFmt)
  /-- XOR (R323). Bitwise XOR. -/
  | xorr (e : EngNo) (f : RFmt)
  /-- ANDN (R323). ra AND NOT rb. -/
  | andn (e : EngNo) (f : RFmt)
  /-- SLL (R326). Shift left logical by rb[7:0]. -/
  | sll (e : EngNo) (f : RFmt)
  /-- SRL (R326). Shift right logical by rb[7:0]. -/
  | srl (e : EngNo) (f : RFmt)
  /-- SRA (R326). Shift right arithmetic by rb[7:0]. -/
  | sra (e : EngNo) (f : RFmt)
  /-- ROR (R326). Rotate right by rb[7:0]. -/
  | ror (e : EngNo) (f : RFmt)
  /-- MIN (R323). Signed minimum. -/
  | mins (e : EngNo) (f : RFmt)
  /-- MAX (R323). Signed maximum. -/
  | maxs (e : EngNo) (f : RFmt)
  /-- MINU (R323). Unsigned minimum. -/
  | minu (e : EngNo) (f : RFmt)
  /-- MAXU (R323). Unsigned maximum. -/
  | maxu (e : EngNo) (f : RFmt)
  /-- NEG (R325). rd = 0 − ra. -/
  | neg (e : EngNo) (f : RFmt)
  /-- ABS (R325). Absolute value with V set for MIN. -/
  | abs (e : EngNo) (f : RFmt)
  /-- CLZ (R323). Count leading zeros. -/
  | clz (e : EngNo) (f : RFmt)
  /-- POPC (R323). Count one bits. -/
  | popc (e : EngNo) (f : RFmt)
  /-- BSWAP (R323). Reverse byte order. -/
  | bswap (e : EngNo) (f : RFmt)
  /-- SEXTB (R323). Sign-extend a byte. -/
  | sextb (e : EngNo) (f : RFmt)
  /-- SEXTH (R323). Sign-extend a half-word. -/
  | sexth (e : EngNo) (f : RFmt)
  /-- CMP (R323). Compare ra with rb, setting flags S. -/
  | cmp (e : EngNo) (f : RFmt)
  /-- TST (R323). Test ra AND rb, setting flags L. -/
  | tst (e : EngNo) (f : RFmt)
  /-- SEL (R323). Select ra or rb by condition AUX. -/
  | sel (e : EngNo) (f : RFmt)
  /-- MUL (R324). Low 32 bits of the product. -/
  | mul (e : EngNo) (f : RFmt)
  /-- MULH (R324). High bits of the signed product. -/
  | mulh (e : EngNo) (f : RFmt)
  /-- MULHU (R324). High bits of the unsigned product. -/
  | mulhu (e : EngNo) (f : RFmt)
  /-- DIV (R325). Signed quotient, with the edge results and DIVZERO. -/
  | div (e : EngNo) (f : RFmt)
  /-- DIVU (R325). Unsigned quotient. -/
  | divu (e : EngNo) (f : RFmt)
  /-- REM (R325). Signed remainder. -/
  | rem (e : EngNo) (f : RFmt)
  /-- REMU (R325). Unsigned remainder. -/
  | remu (e : EngNo) (f : RFmt)
  /-- ADDI (R327). Add the sign-extended immediate. -/
  | addi (e : EngNo) (f : IFmt)
  /-- CMPI (R327). Compare with the immediate. -/
  | cmpi (e : EngNo) (f : IFmt)
  /-- ANDI (R327). AND with the zero-extended immediate. -/
  | andi (e : EngNo) (f : IFmt)
  /-- ORI (R327). OR with the immediate. -/
  | ori (e : EngNo) (f : IFmt)
  /-- XORI (R327). XOR with the immediate. -/
  | xori (e : EngNo) (f : IFmt)
  /-- LUI (R327). Load the immediate into the upper half. -/
  | lui (e : EngNo) (f : IFmt)
  /-- SLLI (R327). Shift left by the immediate. -/
  | slli (e : EngNo) (f : IFmt)
  /-- SRLI (R327). Shift right logical by the immediate. -/
  | srli (e : EngNo) (f : IFmt)
  /-- SRAI (R327). Shift right arithmetic by the immediate. -/
  | srai (e : EngNo) (f : IFmt)
  /-- RORI (R327). Rotate right by the immediate. -/
  | rori (e : EngNo) (f : IFmt)
  /-- TSTI (R327). Test with the immediate. -/
  | tsti (e : EngNo) (f : IFmt)
  /-- LB (R328). Load a sign-extended byte. -/
  | lb (e : EngNo) (f : IFmt)
  /-- LBU (R328). Load a zero-extended byte. -/
  | lbu (e : EngNo) (f : IFmt)
  /-- LH (R328). Load a sign-extended half-word. -/
  | lh (e : EngNo) (f : IFmt)
  /-- LHU (R328). Load a zero-extended half-word. -/
  | lhu (e : EngNo) (f : IFmt)
  /-- LW (R328). Load a word. -/
  | lw (e : EngNo) (f : IFmt)
  /-- LD (R328). Load a register pair. -/
  | ld (e : EngNo) (f : IFmt)
  /-- SB (R328). Store a byte. -/
  | sb (e : EngNo) (f : IFmt)
  /-- SH (R328). Store a half-word. -/
  | sh (e : EngNo) (f : IFmt)
  /-- SW (R328). Store a word. -/
  | sw (e : EngNo) (f : IFmt)
  /-- SD (R328). Store a register pair. -/
  | sd (e : EngNo) (f : IFmt)
  /-- AADD_W (R330). Atomic 32-bit add. -/
  | aaddW (e : EngNo) (f : RFmt)
  /-- AAND_W (R330). Atomic 32-bit AND. -/
  | aandW (e : EngNo) (f : RFmt)
  /-- AOR_W (R330). Atomic 32-bit OR. -/
  | aorW (e : EngNo) (f : RFmt)
  /-- AXOR_W (R330). Atomic 32-bit XOR. -/
  | axorW (e : EngNo) (f : RFmt)
  /-- ASWP_W (R330). Atomic 32-bit swap. -/
  | aswpW (e : EngNo) (f : RFmt)
  /-- ACAS_W (R330). Atomic 32-bit compare and swap, setting Z. -/
  | acasW (e : EngNo) (f : RFmt)
  /-- AADD_D (R330). Atomic 64-bit add. -/
  | aaddD (e : EngNo) (f : RFmt)
  /-- AAND_D (R330). Atomic 64-bit AND. -/
  | aandD (e : EngNo) (f : RFmt)
  /-- AOR_D (R330). Atomic 64-bit OR. -/
  | aorD (e : EngNo) (f : RFmt)
  /-- AXOR_D (R330). Atomic 64-bit XOR. -/
  | axorD (e : EngNo) (f : RFmt)
  /-- ASWP_D (R330). Atomic 64-bit swap. -/
  | aswpD (e : EngNo) (f : RFmt)
  /-- ACAS_D (R330). Atomic 64-bit compare and swap. -/
  | acasD (e : EngNo) (f : RFmt)
  /-- BR (R332). Conditional relative branch. -/
  | br (e : EngNo) (f : BFmt)
  /-- J (R332). Direct jump. -/
  | j (e : EngNo) (f : JFmt)
  /-- JAL (R332). Direct call, linking in g31. -/
  | jal (e : EngNo) (f : JFmt)
  /-- JR (R332). Jump through a register. -/
  | jr (e : EngNo) (f : RFmt)
  /-- JALR (R332). Call through a register. -/
  | jalr (e : EngNo) (f : RFmt)
  /-- MFENCE (R279). Wait until every earlier global store is visible. -/
  | mfence (e : EngNo) (f : RFmt)
  /-- IFENCE (R292). Wait for instruction-memory stores and refetch. -/
  | ifence (e : EngNo) (f : RFmt)
  /-- BREAK (R308). Debug halt, or ILLEGAL while DBGEN = 0. -/
  | breakpt (e : EngNo) (f : RFmt)
  /-- XRET (R300). Leave the handler at ENG_LXPC and clear XACT. -/
  | xret (e : EngNo) (f : RFmt)
  /-- RDF (R334). Read the flags register. -/
  | rdf (e : EngNo) (f : RFmt)
  /-- WRF (R334). Write the flags register. -/
  | wrf (e : EngNo) (f : RFmt)
  /-- SEND (R335). Offer a MESSAGE operand to a cairn slot and return OK, BUSY, NOTARMED or SPOOF. -/
  | send (e : EngNo) (f : RFmt)
  /-- EMIT (R337). Request a reflex packet from the pair, checked and accepted or refused with a code. -/
  | emit (e : EngNo) (f : RFmt)
  /-- WAIT (R303). Hold the engine in Idle or Sleep until a nudge or timeout. -/
  | waitNudge (e : EngNo) (f : RFmt)
  /-- NUDGE (R340). Set the nudge latch of a logical engine, waking a WAIT. -/
  | nudge (e : EngNo) (f : RFmt)
  /-- YIELD (R341). Write a wait record and leave the engine, releasing the belay. -/
  | yieldThread (e : EngNo) (f : YFmt)
  /-- END (R342). End the thread with a code and place its END record. -/
  | endThread (e : EngNo) (f : EFmt)
  /-- VADD (R347). Lane add. -/
  | vadd (e : EngNo) (f : VFmt)
  /-- VSUB (R347). Lane subtract. -/
  | vsub (e : EngNo) (f : VFmt)
  /-- VADDS (R347). Saturating lane add. -/
  | vadds (e : EngNo) (f : VFmt)
  /-- VSUBS (R347). Saturating lane subtract. -/
  | vsubs (e : EngNo) (f : VFmt)
  /-- VAND (R347). Lane AND. -/
  | vand (e : EngNo) (f : VFmt)
  /-- VOR (R347). Lane OR. -/
  | vor (e : EngNo) (f : VFmt)
  /-- VXOR (R347). Lane XOR. -/
  | vxor (e : EngNo) (f : VFmt)
  /-- VMIN (R347). Lane signed minimum. -/
  | vmin (e : EngNo) (f : VFmt)
  /-- VMAX (R347). Lane signed maximum. -/
  | vmax (e : EngNo) (f : VFmt)
  /-- VSLL (R347). Lane shift left. -/
  | vsll (e : EngNo) (f : VFmt)
  /-- VSRL (R347). Lane shift right logical. -/
  | vsrl (e : EngNo) (f : VFmt)
  /-- VSRA (R347). Lane shift right arithmetic. -/
  | vsra (e : EngNo) (f : VFmt)
  /-- VCMPEQ (R347). Lane compare equal. -/
  | vcmpeq (e : EngNo) (f : VFmt)
  /-- VCMPGT (R347). Lane signed compare greater. -/
  | vcmpgt (e : EngNo) (f : VFmt)
  /-- VMUL (R347). Lane multiply low. -/
  | vmul (e : EngNo) (f : VFmt)
  /-- VMOV (R347). Vector move. -/
  | vmov (e : EngNo) (f : VFmt)
  /-- VSEL (R347). Bitwise lane select. -/
  | vsel (e : EngNo) (f : VFmt)
  /-- VDIV (R347). Lane signed divide. -/
  | vdiv (e : EngNo) (f : VFmt)
  /-- VDIVU (R347). Lane unsigned divide. -/
  | vdivu (e : EngNo) (f : VFmt)
  /-- FADD (R348). Binary32 add. -/
  | fadd (e : EngNo) (f : VFmt)
  /-- FSUB (R348). Binary32 subtract. -/
  | fsub (e : EngNo) (f : VFmt)
  /-- FMUL (R348). Binary32 multiply. -/
  | fmul (e : EngNo) (f : VFmt)
  /-- FMA (R348). Binary32 fused multiply-add. -/
  | fma (e : EngNo) (f : VFmt)
  /-- FDIV (R348). Binary32 divide. -/
  | fdiv (e : EngNo) (f : VFmt)
  /-- FRSQ (R348). Binary32 reciprocal square root. -/
  | frsq (e : EngNo) (f : VFmt)
  /-- FSPL (R348). Cubic spline evaluation. -/
  | fspl (e : EngNo) (f : VFmt)
  /-- FMIN (R348). Binary32 minimum. -/
  | fmin (e : EngNo) (f : VFmt)
  /-- FMAX (R348). Binary32 maximum. -/
  | fmax (e : EngNo) (f : VFmt)
  /-- FCMPLT (R348). Binary32 compare less. -/
  | fcmplt (e : EngNo) (f : VFmt)
  /-- FCMPEQ (R348). Binary32 compare equal. -/
  | fcmpeq (e : EngNo) (f : VFmt)
  /-- FABS (R348). Clear the sign. -/
  | fabs (e : EngNo) (f : VFmt)
  /-- FNEG (R348). Invert the sign. -/
  | fneg (e : EngNo) (f : VFmt)
  /-- AMAC (R350). Multiply-accumulate into an accumulator. -/
  | amac (e : EngNo) (f : VFmt)
  /-- AMSU (R350). Multiply-subtract from an accumulator. -/
  | amsu (e : EngNo) (f : VFmt)
  /-- ACLR (R350). Clear an accumulator. -/
  | aclr (e : EngNo) (f : VFmt)
  /-- ALD (R350). Load an accumulator from a vector. -/
  | ald (e : EngNo) (f : VFmt)
  /-- ARD (R350). Read an accumulator shifted, rounded and saturated. -/
  | ard (e : EngNo) (f : VRFmt)
  /-- VCVTIF (R351). Integer to binary32. -/
  | vcvtif (e : EngNo) (f : VFmt)
  /-- VCVTFI (R351). Binary32 to integer, round to nearest. -/
  | vcvtfi (e : EngNo) (f : VFmt)
  /-- VCVTFIZ (R351). Binary32 to integer, round towards zero. -/
  | vcvtfiz (e : EngNo) (f : VFmt)
  /-- VSATH (R351). Clamp to 16 bits. -/
  | vsath (e : EngNo) (f : VFmt)
  /-- VSATUB (R351). Clamp to an unsigned byte. -/
  | vsatub (e : EngNo) (f : VFmt)
  /-- VNARH (R351). Narrow to packed 16-bit halves. -/
  | vnarh (e : EngNo) (f : VFmt)
  /-- VLD (R345). Load a 16-byte vector. -/
  | vld (e : EngNo) (f : VMFmt)
  /-- VST (R345). Store a 16-byte vector. -/
  | vst (e : EngNo) (f : VMFmt)
  /-- VINS (R352). Insert a general register into a lane. -/
  | vins (e : EngNo) (f : VGFmt)
  /-- VEXT (R352). Extract a lane into a general register. -/
  | vext (e : EngNo) (f : VGFmt)
  /-- VSPLAT (R352). Copy a general register into every lane. -/
  | vsplat (e : EngNo) (f : VGFmt)
  /-- RDACP (R353). Read the ACP status after older operations complete. -/
  | rdacp (e : EngNo) (f : VGFmt)
  /-- WRACP (R353). Write the ACP status after older operations complete. -/
  | wracp (e : EngNo) (f : VGFmt)
  /-- FUNCTION_LEVEL_RESET (R379). An FLR discards the function's unaccepted beats, resets its config space and quiesces its instance. -/
  | functionLevelReset (i : InstNo)
  /-- VF_ENABLE (R373). Enabling a VF makes its instance ACTIVE. -/
  | vfEnable (i : InstNo)
  /-- VF_DISABLE (R373). Disabling a VF takes it through quiet, reset and removal to ABSENT. -/
  | vfDisable (i : InstNo)
  /-- D3HOT_TRANSITION (R363). A function entering D3hot changes only its PCIe interface and masks its messages. -/
  | d3hotTransition (i : InstNo) (enter : Bool)
  /-- ATS_INVALIDATION (R359). An ATS invalidation request is completed within 10 µs. -/
  | atsInvalidation (i : InstNo) (page : BitVec 52)
  /-- HOST_READ_COMPLETION (R360). A completion for a host read arrives; UR or CA ends the request. -/
  | hostReadCompletion (h : HostNo) (tag : Nat) (status : CplStatus) (data : List Word) (ep : Bool)
  /-- COMPLETION_TIMEOUT (R360). A host read gets no completion within the timeout. -/
  | completionTimeout (h : HostNo) (tag : Nat)
  /-- HOST_LINK_RESET (R610). A Hot Reset or link down on a host port acts as an FLR of that port's PF. -/
  | hostLinkReset (h : HostNo)
  /-- PCIE_RETRAIN (R388). HPC_PCTL.RETRAIN retrains the host link. -/
  | pcieRetrain (fn : InstNo) (h : HostNo)
  /-- INSTANCE_QUIET (R375). A QUIESCING instance becomes quiet and enters QUIESCED, or RESETTING automatically. -/
  | instanceQuiet (i : InstNo)
  /-- INSTANCE_RESET_COMPLETE (R376). The reset actions of an instance complete and it returns to ACTIVE. -/
  | instanceResetComplete (i : InstNo)
  /-- SELF_RESET (R383). VIM_FCTL.SELFRST takes a TK3200-compatible instance through its reset; in native mode it is recorded. -/
  | selfReset (i : InstNo)
  /-- OWNERSHIP_RANGE_WRITE (R368). A write to a cairn, flow or pool range, discarded with OVLERR on overlap. -/
  | ownershipRangeWrite (fn : InstNo) (i : InstNo) (kind : RangeKind) (val : Word)
  /-- LEGACY_WRITE (R384). A write to VIM_ISTATE.LEGACY takes effect only while ABSENT or QUIESCED. -/
  | legacyWrite (fn : InstNo) (i : InstNo) (v : Bool)
  /-- QUEUE_CONFIG_WRITE (R392). A write to WQ_QCFG assigns a context, discarded on duplicates or when not OFF. -/
  | queueConfigWrite (fn : InstNo) (c : CtxNo) (val : Word)
  /-- DOORBELL (R402). A doorbell write updates TAIL, optionally invalidates cached entries, and wakes fetching. -/
  | doorbell (fn : InstNo) (q : BitVec 6) (val : Word)
  /-- QUEUE_ENABLE (R401). WQ_FCTL.EN = 1 resets the indices and phase and runs the queue. -/
  | queueEnable (fn : InstNo) (q : BitVec 6) (val : Word)
  /-- QUEUE_STOP (R427). WQ_FCTL.EN = 0 starts stopping the queue, aborting undelivered jobs. -/
  | queueStop (fn : InstNo) (q : BitVec 6) (val : Word)
  /-- QUEUE_STOP_COMPLETE (R427). Once delivered jobs retire, HEAD is set, the head record written and STATE becomes OFF. -/
  | queueStopComplete (c : CtxNo)
  /-- FETCH_GRANT (R406). The host port's weighted round grants one ring read to an eligible context. -/
  | fetchGrant (h : HostNo)
  /-- RING_READ_COMPLETE (R408). A ring read completes; valid entries are staged and the rest discarded. -/
  | ringReadComplete (c : CtxNo) (data : List Word) (ep : Bool)
  /-- REPOLL_EXPIRY (R408). REPOLL µs after a discarding read, the queue reads the entry again. -/
  | repollExpiry (c : CtxNo)
  /-- JOB_OFFER (R413). A fully staged job is offered as a HOSTDESC operand to its target. -/
  | jobOffer (c : CtxNo)
  /-- HEAD_RECORD_WRITE (R417). After HEAD advances, the head record is written to host memory and HPEND is set. -/
  | headRecordWrite (c : CtxNo)
  /-- COMMAND_TAKE (R437). A free management core takes the next staged command. -/
  | commandTake (k : CoreNo)
  /-- SUMMARY (R461). Write the summit report into host memory. -/
  | summary (k : CoreNo)
  /-- IDENTIFY (R446). Return device, firmware and chip identity. -/
  | identify (k : CoreNo)
  /-- NOP (R446). Do nothing and reply OK. -/
  | nopCmd (k : CoreNo)
  /-- FWLOG_READ (R446). Copy the firmware log to host memory. -/
  | fwlogRead (k : CoreNo)
  /-- INSTANCE_QUIESCE (R447). Quiesce an instance and wait for QUIESCED. -/
  | instanceQuiesce (k : CoreNo)
  /-- INSTANCE_RESUME (R447). Return a QUIESCED instance to ACTIVE. -/
  | instanceResume (k : CoreNo)
  /-- INSTANCE_RESET (R447). Reset a QUIESCED instance. -/
  | instanceReset (k : CoreNo)
  /-- INSTANCE_REMOVE (R447). Reset a QUIESCED instance and clear its ownership. -/
  | instanceRemove (k : CoreNo)
  /-- INSTANCE_STATUS (R447). Return the state of an instance. -/
  | instanceStatus (k : CoreNo)
  /-- PORT_ENABLE (R448). Enable a port and enumerate its device. -/
  | portEnable (k : CoreNo)
  /-- PORT_DISABLE (R448). Disable a port and remove its subtree. -/
  | portDisable (k : CoreNo)
  /-- PORT_RESET (R448). Reset a device and enumerate it again. -/
  | portReset (k : CoreNo)
  /-- DEVICE_LOST (R448). Declare a device lost. -/
  | deviceLost (k : CoreNo)
  /-- PIPE_CLEAR (R161). Resynchronise a pipe with a SYNC token and release its halt. -/
  | pipeClear (k : CoreNo)
  /-- DEVICE_INFO (R448). Return a device's identity and address table entry. -/
  | deviceInfo (k : CoreNo)
  /-- LIST_WRITE (R449). Write words to list memory. -/
  | listWrite (k : CoreNo)
  /-- DESC_LINK (R449). Link a descriptor after a predecessor or at a head. -/
  | descLink (k : CoreNo)
  /-- DESC_UNLINK (R449). Unlink a descriptor and wait for LISTSYNC. -/
  | descUnlink (k : CoreNo)
  /-- DESC_CANCEL (R449). Cancel a descriptor through SCH_CANCEL. -/
  | descCancel (k : CoreNo)
  /-- SCHED_STATUS (R449). Return scheduler status of a root port. -/
  | schedStatus (k : CoreNo)
  /-- CAIRN_ACTIVATE (R450). Activate a cairn. -/
  | cairnActivate (k : CoreNo)
  /-- CAIRN_DEACTIVATE (R450). Deactivate a cairn. -/
  | cairnDeactivate (k : CoreNo)
  /-- CAIRN_WRITE (R450). Write cairn words. -/
  | cairnWrite (k : CoreNo)
  /-- CAIRN_READ (R450). Read cairn words from one fabric cycle. -/
  | cairnRead (k : CoreNo)
  /-- CODE_LOAD (R450). Load code into an engine and set its code group. -/
  | codeLoad (k : CoreNo)
  /-- ENGINE_STATUS (R450). Return engine status registers. -/
  | engineStatus (k : CoreNo)
  /-- FLOW_STATUS (R450). Return TSC_FLOW of a flow. -/
  | flowStatus (k : CoreNo)
  /-- TIME_READ (R451). Return device time. -/
  | timeRead (k : CoreNo)
  /-- TRACK_READ (R451). Return a track's position, velocity and status. -/
  | trackRead (k : CoreNo)
  /-- SCRUB_RANGE (R491). Scrub a range of a memory group under its token. -/
  | scrubRange (k : CoreNo)
  /-- MEM_REPAIR (R486). Switch a spare row or column into a macro. -/
  | memRepair (k : CoreNo)
  /-- CHECKER_TEST (R489). Run the checker test on a group. -/
  | checkerTest (k : CoreNo)
  /-- DDR_RETRAIN (R476). Retrain a DDR channel under its token. -/
  | ddrRetrain (k : CoreNo)
  /-- MAINT_RESULT (R452). Return the result of a group's last activity. -/
  | maintResult (k : CoreNo)
  /-- CLOCK_SWITCH (R454). Request a clock-source switch of a domain. -/
  | clockSwitch (k : CoreNo)
  /-- POWER_SET (R454). Set the power-state limit of a rope, port or the device. -/
  | powerSet (k : CoreNo)
  /-- WAKE_RECORD (R454). Return the last wake record. -/
  | wakeRecord (k : CoreNo)
  /-- ENGINE_RETIRE (R455). Declare an engine dead and swap in the reserve. -/
  | engineRetire (k : CoreNo)
  /-- REINSTATE (R584). Make a DEAD physical engine the rope's reserve. -/
  | reinstate (k : CoreNo)
  /-- HEALTH_STATUS (R455). Return reserve and health figures. -/
  | healthStatus (k : CoreNo)
  /-- ECHO_DMA (R456). Write a pattern into a host buffer. -/
  | echoDma (k : CoreNo)
  /-- POISON_INJECT (R495). Mark a word poisoned. -/
  | poisonInject (k : CoreNo)
  /-- MAINT_ACTIVITY_END (R460). A maintenance activity ends, releases its token and, when deferred, sets CMD_EVT.MAINT. -/
  | maintActivityEnd (g : BitVec 6) (ok : Bool) (info : Word)
  /-- DDR_CHANNEL_ENABLE (R473). MEM_DDRCFG.EN starts the idle-bus training of a channel. -/
  | ddrChannelEnable (fn : InstNo) (ch : Bool) (val : Word)
  /-- DDR_TRAINING_COMPLETE (R473). Training ends with TRAINED or TRFAIL. -/
  | ddrTrainingComplete (ch : Bool) (ok : Bool)
  /-- DDR_REFRESH (R474). An all-bank refresh is issued to a rank every 3.9 µs or 1.95 µs. -/
  | ddrRefresh (ch : Bool) (rank : Bool) (hot : Bool)
  /-- ZQ_CALIBRATION (R475). Every 128 ms, ZQ calibration runs in a refresh window. -/
  | zqCalibration (ch : Bool) (rank : Bool)
  /-- DQS_OSCILLATOR_READ (R475). Every INTVL µs the DQS oscillator is read, timing adjusted and DRIFT set. -/
  | dqsOscillatorRead (ch : Bool) (rank : Bool) (count : BitVec 16)
  /-- FIELD_REPAIR (R488). With AUTOREP, the health manager repairs a row that reached ROWTH. -/
  | fieldRepair (g : BitVec 6)
  /-- DMA_START (R509). DMA_CCTL.START runs a channel from IDX, or is refused. -/
  | dmaStart (fn : InstNo) (c : ChanNo)
  /-- DMA_KICK (R510). DMA_CCTL.KICK rereads the descriptor at IDX. -/
  | dmaKick (fn : InstNo) (c : ChanNo)
  /-- DMA_STOP (R515). DMA_CCTL.STOP stops the channel after its current descriptor. -/
  | dmaStop (fn : InstNo) (c : ChanNo)
  /-- DMA_ABORT (R515). DMA_CCTL.ABORT stops the channel at once. -/
  | dmaAbort (fn : InstNo) (c : ChanNo)
  /-- DMA_RESTART (R519). DMA_CTL.RESTART resumes halted channels and restarts or skips the failed descriptor. -/
  | dmaRestart (fn : InstNo)
  /-- DMA_ENABLE_WRITE (R523). DMA_CTL.EN allows channels to run, or stops new beats. -/
  | dmaEnableWrite (fn : InstNo) (en : Bool)
  /-- DMA_DESCRIPTOR_READ (R511). A channel reads its next descriptor, goes IDLE on OWN = 0, or checks it. -/
  | dmaDescriptorRead (c : ChanNo)
  /-- DMA_POLL_EXPIRY (R510). POLL × 100 ns after an IDLE read, the channel reads again. -/
  | dmaPollExpiry (c : ChanNo)
  /-- DMA_BEAT_ARBITRATION (R501). Each fabric cycle one read beat and one write beat go to the highest-priority eligible channels. -/
  | dmaBeatArbitration
  /-- DMA_DESCRIPTOR_COMPLETE (R512). After its writes, and arrival for BAR, a descriptor pulses, writes OWN = 0 and advances IDX. -/
  | dmaDescriptorComplete (c : ChanNo)
  /-- DMA_PULSE_OFFER (R514). A held pulse is offered again to its cairn until accepted. -/
  | dmaPulseOffer (c : ChanNo)
  /-- EVC_ENABLE (R535). EVC_CTL.EN starts delivery, with active vectors entering COLLECTING. -/
  | evcEnable (fn : InstNo)
  /-- EVENT_ROUTE_WRITE (R528). A route entry write by the manager moves a source to a vector. -/
  | eventRouteWrite (fn : InstNo) (src : BitVec 11) (val : Word)
  /-- COALESCE_TIMER_EXPIRY (R530). CTIME passes on a COLLECTING vector. -/
  | coalesceTimerExpiry (v : VecNo)
  /-- REPEAT_TIMER_EXPIRY (R530). RPT × 10 µs with the level still 1 sends the message again. -/
  | repeatTimerExpiry (v : VecNo)
  /-- MSIX_UNMASK (R532). A mask end with the level still 1 sends the pending message. -/
  | msixUnmask (i : InstNo) (v : BitVec 6)
  /-- FAULT_REPORT_TAKE (R541). The unit takes held reports and merges them into open records or opens new ones. -/
  | faultReportTake
  /-- FAULT_RECORD_CLOSE (R541). A record's merge window reaches FIRST + WIN and it closes. -/
  | faultRecordClose (n : Byte)
  /-- FAULT_RECORD_READ (R544). A read of record word 0 latches words 1-7. -/
  | faultRecordRead (fn : InstNo) (n : Byte)
  /-- PLL_CONTROL_WRITE (R551). A write to CLK_PLLCTL changes EN, N or P, or is discarded with CFGERR. -/
  | pllControlWrite (fn : InstNo) (l : BitVec 3) (val : Word)
  /-- PLL_LOCK (R551). A PLL sets LOCK after being enabled. -/
  | pllLock (l : BitVec 3)
  /-- PLL_READY (R551). LOCK held for 10 µs sets READY. -/
  | pllReady (l : BitVec 3)
  /-- PLL_LOSS_OF_LOCK (R551). A PLL loses lock, setting LOL. -/
  | pllLossOfLock (l : BitVec 3)
  /-- CLOCK_SOURCE_SWITCH (R555). A write to CLK_DSEL.SRC requests a switch, or is refused with SWREF. -/
  | clockSourceSwitch (fn : InstNo) (d : BitVec 4) (src : BitVec 4)
  /-- CLOCK_SWITCH_COMPLETE (R556). The glitch-free switch completes or is abandoned. -/
  | clockSwitchComplete (d : BitVec 4) (lost : Bool) (missed : BitVec 8)
  /-- PLANNER_EVALUATION (R561). Every 100 ns the descent planner picks and starts power-state entries and exits. -/
  | plannerEvaluation
  /-- POWER_STATE_EXIT_COMPLETE (R557). A unit completes its exit from a low-power state, writing the wake record. -/
  | powerStateExitComplete (u : PwrUnit)
  /-- OFF_ENTRY (R564). After OFFDLY ms of quiet, the device enters Off. -/
  | offEntry
  /-- OFF_WAKE (R565). An enabled wake source takes the device out of Off through a warm reset. -/
  | offWake (src : WakeSrc) (elapsed : BitVec 64) (b : BootInput)
  /-- HEARTBEAT_PERIOD_END (R576). At the end of each heartbeat period the health manager classifies it. -/
  | heartbeatPeriodEnd (e : EngNo)
  /-- SWAP_TOKEN_ACQUIRED (R579). The swap takes the rope's token and wakes the reserve for its self-check. -/
  | swapTokenAcquired (r : RopeNo)
  /-- SWAP_SELF_CHECK_DONE (R581). The reserve's self-check ends; a failure leaves the engine uncarried. -/
  | swapSelfCheckDone (r : RopeNo) (pass : Bool)
  /-- SWAP_REMAP (R579). After the copy, the logical slot is remapped to the reserve and the fence mark cleared. -/
  | swapRemap (r : RopeNo)
  /-- HEALTH_FUSE_PROGRAMMED (R593). A health fuse entry is programmed and LEFT decreases. -/
  | healthFuseProgrammed
  /-- FENCE_DROP (R582). A request from a fenced engine is dropped as zombie traffic and reported. -/
  | fenceDrop (u : FenceUnit)
  /-- AGE_MEASUREMENT (R586). Every PERIOD s the path monitors are measured. -/
  | ageMeasurement (margin : Byte) (monitor : Byte)
  /-- GUARD_BAND_STEP_APPLIED (R588). VSETTLE µs after the request, the step counts as applied. -/
  | guardBandStepApplied
  /-- CPLL0_SUSPECT (R590). CPLL0's control voltage at its range end for 1 ms makes it suspect. -/
  | cpll0Suspect
  /-- PLL_RETIRE (R591). HLT_PLL.RETIRE0 fuses the retirement of CPLL0. -/
  | pllRetire (fn : InstNo)
  /-- CORE_HEARTBEAT (R592). A management core writes its BEAT. -/
  | coreHeartbeat (k : CoreNo)
  /-- CORE_HEARTBEAT_EXPIRY (R592). A core missing 3 periods is declared dead and its commands end INTERNAL. -/
  | coreHeartbeatExpiry (k : CoreNo)
  /-- RESERVE_CORE_READY (R592). The reserve core starts taking commands. -/
  | reserveCoreReady (k : CoreNo)
  /-- POWER_ON_RESET (R601). PORST_N low holds the device in reset. -/
  | powerOnReset
  /-- PORST_RELEASE (R601). PORST_N rises and the power-on sequence starts. -/
  | porstRelease (oscDly : BitVec 3) (mgr : HostNo)
  /-- OSC_DELAY_EXPIRY (R549). The oscillator delay count ends and the PLLs start. -/
  | oscDelayExpiry (b : BootInput)
  /-- WARM_RESET_PIN (R619). WARMRST_N low starts a warm reset. -/
  | warmResetPin
  /-- WARM_RESET_REQUEST (R610). GLB_CTL.WARMRST starts a warm reset. -/
  | warmResetRequest (fn : InstNo) (b : BootInput)
  /-- FIRMWARE_RESTART (R610). GLB_CTL.FWRST restarts the management cores. -/
  | firmwareRestart (fn : InstNo) (b : BootInput)
  /-- ENGINE_RESET (R611). GLB_ENGRST.GO resets a logical engine. -/
  | engineReset (fn : InstNo) (e : EngNo)
  /-- ROOT_PORT_RESET (R612). GLB_PORTRST.GO resets a disabled root port. -/
  | rootPortReset (fn : InstNo) (p : PortNo)
  /-- ROOT_PORT_RESET_DONE (R612). GO clears once no thread holds a PACKET operand of the port. -/
  | rootPortResetDone (p : PortNo)
  /-- I2C_WRITE (R629). An I²C write sets the index. -/
  | i2cWrite (index : Byte)
  /-- I2C_READ (R629). An I²C read returns bytes from the index. -/
  | i2cRead (hottest : BitVec 16) (sensor : BitVec 3)
  /-- WARM_RESET_RELEASE (R619). WARMRST_N rises, ending a warm reset that has lasted while it was low, or releasing a power-on sequence held at the end of step 3. -/
  | warmResetRelease (b : BootInput)
  /-- COMMAND_WAIT_EXPIRY (R447). The wait given in W4 of INSTANCE_QUIESCE, PORT_ENABLE or PORT_RESET expires before its awaited event, and the command replies TIMEOUT, or OK with FOUND = 0. -/
  | commandWaitExpiry (k : CoreNo)
  /-- HOST_PORT_LINK_UP (R604). A PCIe host port finishes link training and its data link layer comes up, setting HPC_PSTAT.DLUP. -/
  | hostPortLinkUp (h : HostNo) (width speed : BitVec 3)
  /-- REFERENCE_OSCILLATOR_STOP (R548). The 50 MHz reference stops and CLK_STAT.OSCOK reads 0, which refuses switches to REF. -/
  | referenceOscillatorStop
  /-- REFERENCE_OSCILLATOR_RESTART (R548). The 50 MHz reference runs again and CLK_STAT.OSCOK returns to 1. -/
  | referenceOscillatorRestart
  deriving DecidableEq, Repr

end Sys2Proof
end

