-- ==== Sys2Proof/WellFormed.lean ====
section
/-! DEFINITION. Which commands are well formed: an engine instruction whose unused fields are 0 and whose register pairs are
even (R316, R319, R320, R326, R334, R341, R350), a boot image with a header of 128 words (R607), a received packet
with at least one block (R131). -/

namespace Sys2Proof

def isEven (n : BitVec 5) : Bool := !n.getLsbD 0
/-- Format R: bit 10 and AUX are 0. -/
def RFmt.uses3 (f : RFmt) : Bool := f.z == 0 && f.aux == 0
/-- Format V: VC, AC and RM are 0. -/
def VFmt.uses3 (f : VFmt) : Bool := f.vc == 0 && f.ac == 0 && f.rm == 0
/-- Format V in VACC: VD, VC and RM are 0. -/
def VFmt.usesAcc (f : VFmt) : Bool := f.vd == 0 && f.vc == 0 && f.rm == 0
def BootImage.wf (i : BootImage) : Bool := i.header.length == 128
def BootInput.wf (b : BootInput) : Bool := b.primary.all BootImage.wf && b.secondary.all BootImage.wf
def RxLine.wf (k : RxLine) : Bool := !k.line.isEmpty

/-- A command is well formed. -/
def Instr.wf : Instr → Bool
  | .registerWrite _ _ _ _ _ _ => true
  | .cntLowWordRead _ _ => true
  | .listApertureWrite _ _ _ _ => true
  | .cairnApertureWrite _ _ _ _ _ => true
  | .ptuClockTick => true
  | .tincWrite _ _ => true
  | .timeLoad _ => true
  | .timeStep _ => true
  | .timeloReadLatch _ => true
  | .encoderEdge _ _ _ _ => true
  | .encoderZEdge _ => true
  | .trackStopped _ => true
  | .trackPreset _ _ => true
  | .trkposfReadLatch _ _ => true
  | .positionReport _ k => k.wf
  | .trackStale _ => true
  | .markerTargetWrite _ _ _ => true
  | .markerStepWrite _ _ _ => true
  | .markerFire _ => true
  | .deferredStartDue _ => true
  | .fmaxExpiry _ => true
  | .pfrmWrite _ _ _ => true
  | .pfnumWrite _ _ _ => true
  | .sofTransmit _ => true
  | .presencePeriod _ => true
  | .presenceBurst _ => true
  | .delayEcho _ _ _ _ => true
  | .trainingComplete _ _ _ => true
  | .trainingTimeout _ => true
  | .trainfailQuietEnd _ => true
  | .keepPeriod _ => true
  | .keepBurst _ => true
  | .keepTimeout _ => true
  | .wakeBurst _ => true
  | .resumeComplete _ => true
  | .hostResume _ _ => true
  | .suspendRequest _ _ _ => true
  | .suspendAck _ => true
  | .suspendNak _ => true
  | .suspendEntryTimeout _ => true
  | .retrainReq _ => true
  | .marginMeasure _ _ _ => true
  | .forceRetrain _ _ => true
  | .fastRetrainComplete _ _ => true
  | .retrainTimeout _ => true
  | .blockLockLost _ => true
  | .recoveryComplete _ _ => true
  | .recoveryTimeout _ => true
  | .portResetRequest _ _ => true
  | .ewzEnableWrite _ _ _ => true
  | .skipInsert _ => true
  | .babbleTimeout _ => true
  | .dataPkt _ k => k.wf
  | .ack _ k => k.wf
  | .nak _ k => k.wf
  | .notyet _ k => k.wf
  | .stallPkt _ k => k.wf
  | .probe _ k => k.wf
  | .ready _ k => k.wf
  | .portEvent _ k => k.wf
  | .responseTimeout _ _ => true
  | .burstGapTimeout _ => true
  | .probeIntervalExpiry _ _ _ _ => true
  | .walkerServeBurst _ => true
  | .guardSend _ => true
  | .listSync _ _ => true
  | .listSyncClear _ => true
  | .descriptorCancel _ _ _ => true
  | .class0TokenIssue _ => true
  | .emitPacketSend _ _ _ => true
  | .reflexMaxRead _ _ => true
  | .activate _ _ => true
  | .deactivate _ _ => true
  | .markerOperandOffer _ => true
  | .timerExpiry _ => true
  | .yieldTimeout _ => true
  | .dispatchAssign => true
  | .threadStart _ => true
  | .rfxnWrite _ _ _ => true
  | .reflexSetActive _ => true
  | .detectorPass => true
  | .completionQueueOffer _ _ => true
  | .sendRetryExpiry _ => true
  | .completionRecordMerge _ => true
  | .cloadWrite _ _ _ => true
  | .cgrpWrite _ _ _ => true
  | .accdataRead _ _ => true
  | .accdataWrite _ _ _ => true
  | .softwareAttention _ => true
  | .localTimeRead _ _ => true
  | .watchdogExpiry _ => true
  | .waitTimeout _ => true
  | .heartbeatSend _ => true
  | .selfCheck _ _ => true
  | .debugHaltRequest _ _ => true
  | .debugStep _ _ => true
  | .debugResume _ _ => true
  | .add _ f => f.uses3
  | .sub _ f => f.uses3
  | .adc _ f => f.uses3
  | .sbc _ f => f.uses3
  | .andr _ f => f.uses3
  | .orr _ f => f.uses3
  | .xorr _ f => f.uses3
  | .andn _ f => f.uses3
  | .sll _ f => f.uses3
  | .srl _ f => f.uses3
  | .sra _ f => f.uses3
  | .ror _ f => f.uses3
  | .mins _ f => f.uses3
  | .maxs _ f => f.uses3
  | .minu _ f => f.uses3
  | .maxu _ f => f.uses3
  | .neg _ f => f.uses3 && f.rb == 0
  | .abs _ f => f.uses3 && f.rb == 0
  | .clz _ f => f.uses3 && f.rb == 0
  | .popc _ f => f.uses3 && f.rb == 0
  | .bswap _ f => f.uses3 && f.rb == 0
  | .sextb _ f => f.uses3 && f.rb == 0
  | .sexth _ f => f.uses3 && f.rb == 0
  | .cmp _ f => f.uses3 && f.rd == 0
  | .tst _ f => f.uses3 && f.rd == 0
  | .sel _ f => f.z == 0
  | .mul _ f => f.uses3
  | .mulh _ f => f.uses3
  | .mulhu _ f => f.uses3
  | .div _ f => f.uses3
  | .divu _ f => f.uses3
  | .rem _ f => f.uses3
  | .remu _ f => f.uses3
  | .addi _ _ => true
  | .cmpi _ f => f.rd == 0
  | .andi _ _ => true
  | .ori _ _ => true
  | .xori _ _ => true
  | .lui _ f => f.ra == 0
  | .slli _ f => decide (f.imm.toNat < 256)
  | .srli _ f => decide (f.imm.toNat < 256)
  | .srai _ f => decide (f.imm.toNat < 256)
  | .rori _ f => decide (f.imm.toNat < 256)
  | .tsti _ f => f.rd == 0
  | .lb _ _ => true
  | .lbu _ _ => true
  | .lh _ _ => true
  | .lhu _ _ => true
  | .lw _ _ => true
  | .ld _ f => isEven f.rd
  | .sb _ _ => true
  | .sh _ _ => true
  | .sw _ _ => true
  | .sd _ f => isEven f.rd
  | .aaddW _ f => f.uses3
  | .aandW _ f => f.uses3
  | .aorW _ f => f.uses3
  | .axorW _ f => f.uses3
  | .aswpW _ f => f.uses3
  | .acasW _ f => f.uses3
  | .aaddD _ f => f.uses3 && isEven f.rd && isEven f.rb
  | .aandD _ f => f.uses3 && isEven f.rd && isEven f.rb
  | .aorD _ f => f.uses3 && isEven f.rd && isEven f.rb
  | .axorD _ f => f.uses3 && isEven f.rd && isEven f.rb
  | .aswpD _ f => f.uses3 && isEven f.rd && isEven f.rb
  | .acasD _ f => f.uses3 && isEven f.rd && isEven f.rb
  | .br _ _ => true
  | .j _ _ => true
  | .jal _ _ => true
  | .jr _ f => f.uses3 && f.rd == 0 && f.rb == 0
  | .jalr _ f => f.uses3 && f.rb == 0
  | .mfence _ f => f.uses3 && f.rd == 0 && f.ra == 0 && f.rb == 0
  | .ifence _ f => f.uses3 && f.rd == 0 && f.ra == 0 && f.rb == 0
  | .breakpt _ f => f.uses3 && f.rd == 0 && f.ra == 0 && f.rb == 0
  | .xret _ f => f.uses3 && f.rd == 0 && f.ra == 0 && f.rb == 0
  | .rdf _ f => f.uses3 && f.ra == 0 && f.rb == 0
  | .wrf _ f => f.uses3 && f.rd == 0 && f.rb == 0
  | .send _ f => f.z == 0 && !f.aux.getLsbD 3
  | .emit _ f => f.uses3
  | .waitNudge _ f => f.uses3 && f.rb == 0
  | .nudge _ f => f.uses3 && f.rd == 0 && f.rb == 0
  | .yieldThread _ f => f.z == 0 && (f.t || f.ra == 0) && (f.w || f.rb == 0) && (f.t || f.wreq != 0)
  | .endThread _ f => f.z == 0
  | .vadd _ f => f.uses3
  | .vsub _ f => f.uses3
  | .vadds _ f => f.uses3
  | .vsubs _ f => f.uses3
  | .vand _ f => f.uses3
  | .vor _ f => f.uses3
  | .vxor _ f => f.uses3
  | .vmin _ f => f.uses3
  | .vmax _ f => f.uses3
  | .vsll _ f => f.uses3
  | .vsrl _ f => f.uses3
  | .vsra _ f => f.uses3
  | .vcmpeq _ f => f.uses3
  | .vcmpgt _ f => f.uses3
  | .vmul _ f => f.uses3
  | .vmov _ f => f.uses3 && f.vb == 0
  | .vsel _ f => f.ac == 0 && f.rm == 0
  | .vdiv _ f => f.uses3
  | .vdivu _ f => f.uses3
  | .fadd _ f => f.uses3
  | .fsub _ f => f.uses3
  | .fmul _ f => f.uses3
  | .fma _ f => f.ac == 0 && f.rm == 0
  | .fdiv _ f => f.uses3
  | .frsq _ f => f.uses3 && f.vb == 0
  | .fspl _ f => f.uses3
  | .fmin _ f => f.uses3
  | .fmax _ f => f.uses3
  | .fcmplt _ f => f.uses3
  | .fcmpeq _ f => f.uses3
  | .fabs _ f => f.uses3 && f.vb == 0
  | .fneg _ f => f.uses3 && f.vb == 0
  | .amac _ f => f.usesAcc
  | .amsu _ f => f.usesAcc
  | .aclr _ f => f.usesAcc && f.va == 0 && f.vb == 0
  | .ald _ f => f.usesAcc && f.vb == 0
  | .ard _ f => f.z1 == 0 && f.z2 == 0 && f.rm != 3
  | .vcvtif _ f => f.uses3 && f.vb == 0
  | .vcvtfi _ f => f.uses3 && f.vb == 0
  | .vcvtfiz _ f => f.uses3 && f.vb == 0
  | .vsath _ f => f.uses3 && f.vb == 0
  | .vsatub _ f => f.uses3 && f.vb == 0
  | .vnarh _ f => f.uses3
  | .vld _ f => f.z == 0
  | .vst _ f => f.z == 0
  | .vins _ f => f.z == 0
  | .vext _ f => f.z == 0
  | .vsplat _ f => f.z == 0 && f.lane == 0
  | .rdacp _ f => f.z == 0 && f.v == 0 && f.lane == 0
  | .wracp _ f => f.z == 0 && f.v == 0 && f.lane == 0
  | .functionLevelReset _ => true
  | .vfEnable _ => true
  | .vfDisable _ => true
  | .d3hotTransition _ _ => true
  | .atsInvalidation _ _ => true
  | .hostReadCompletion _ _ _ _ _ => true
  | .completionTimeout _ _ => true
  | .hostLinkReset _ => true
  | .pcieRetrain _ _ => true
  | .instanceQuiet _ => true
  | .instanceResetComplete _ => true
  | .selfReset _ => true
  | .ownershipRangeWrite _ _ _ _ => true
  | .legacyWrite _ _ _ => true
  | .queueConfigWrite _ _ _ => true
  | .doorbell _ _ _ => true
  | .queueEnable _ _ _ => true
  | .queueStop _ _ _ => true
  | .queueStopComplete _ => true
  | .fetchGrant _ => true
  | .ringReadComplete _ _ _ => true
  | .repollExpiry _ => true
  | .jobOffer _ => true
  | .headRecordWrite _ => true
  | .commandTake _ => true
  | .summary _ => true
  | .identify _ => true
  | .nopCmd _ => true
  | .fwlogRead _ => true
  | .instanceQuiesce _ => true
  | .instanceResume _ => true
  | .instanceReset _ => true
  | .instanceRemove _ => true
  | .instanceStatus _ => true
  | .portEnable _ => true
  | .portDisable _ => true
  | .portReset _ => true
  | .deviceLost _ => true
  | .pipeClear _ => true
  | .deviceInfo _ => true
  | .listWrite _ => true
  | .descLink _ => true
  | .descUnlink _ => true
  | .descCancel _ => true
  | .schedStatus _ => true
  | .cairnActivate _ => true
  | .cairnDeactivate _ => true
  | .cairnWrite _ => true
  | .cairnRead _ => true
  | .codeLoad _ => true
  | .engineStatus _ => true
  | .flowStatus _ => true
  | .timeRead _ => true
  | .trackRead _ => true
  | .scrubRange _ => true
  | .memRepair _ => true
  | .checkerTest _ => true
  | .ddrRetrain _ => true
  | .maintResult _ => true
  | .clockSwitch _ => true
  | .powerSet _ => true
  | .wakeRecord _ => true
  | .engineRetire _ => true
  | .reinstate _ => true
  | .healthStatus _ => true
  | .echoDma _ => true
  | .poisonInject _ => true
  | .maintActivityEnd _ _ _ => true
  | .ddrChannelEnable _ _ _ => true
  | .ddrTrainingComplete _ _ => true
  | .ddrRefresh _ _ _ => true
  | .zqCalibration _ _ => true
  | .dqsOscillatorRead _ _ _ => true
  | .fieldRepair _ => true
  | .dmaStart _ _ => true
  | .dmaKick _ _ => true
  | .dmaStop _ _ => true
  | .dmaAbort _ _ => true
  | .dmaRestart _ => true
  | .dmaEnableWrite _ _ => true
  | .dmaDescriptorRead _ => true
  | .dmaPollExpiry _ => true
  | .dmaBeatArbitration => true
  | .dmaDescriptorComplete _ => true
  | .dmaPulseOffer _ => true
  | .evcEnable _ => true
  | .eventRouteWrite _ _ _ => true
  | .coalesceTimerExpiry _ => true
  | .repeatTimerExpiry _ => true
  | .msixUnmask _ _ => true
  | .faultReportTake => true
  | .faultRecordClose _ => true
  | .faultRecordRead _ _ => true
  | .pllControlWrite _ _ _ => true
  | .pllLock _ => true
  | .pllReady _ => true
  | .pllLossOfLock _ => true
  | .clockSourceSwitch _ _ _ => true
  | .clockSwitchComplete _ _ _ => true
  | .plannerEvaluation => true
  | .powerStateExitComplete _ => true
  | .offEntry => true
  | .offWake _ _ b => b.wf
  | .heartbeatPeriodEnd _ => true
  | .swapTokenAcquired _ => true
  | .swapSelfCheckDone _ _ => true
  | .swapRemap _ => true
  | .healthFuseProgrammed => true
  | .fenceDrop _ => true
  | .ageMeasurement _ _ => true
  | .guardBandStepApplied => true
  | .cpll0Suspect => true
  | .pllRetire _ => true
  | .coreHeartbeat _ => true
  | .coreHeartbeatExpiry _ => true
  | .reserveCoreReady _ => true
  | .powerOnReset => true
  | .porstRelease _ _ => true
  | .oscDelayExpiry b => b.wf
  | .warmResetPin => true
  | .warmResetRequest _ b => b.wf
  | .firmwareRestart _ b => b.wf
  | .engineReset _ _ => true
  | .rootPortReset _ _ => true
  | .rootPortResetDone _ => true
  | .i2cWrite _ => true
  | .i2cRead _ _ => true
  | .warmResetRelease b => b.wf
  | .commandWaitExpiry _ => true
  | .hostPortLinkUp _ width speed => (width == 1 || width == 2 || width == 4) && decide (1 ≤ speed.toNat ∧ speed.toNat ≤ 5)
  | .referenceOscillatorStop => true
  | .referenceOscillatorRestart => true

end Sys2Proof
end

