-- ==== Sys2Proof/Decode.lean ====
section
/-! DEFINITION. Commands from words.  No row of spec/opcode_table.json gives bits, so `decodeTableWord` spells none.  The
engine instructions have an encoding of their own (R315, R319–R352): `decodeEngineWord` reads the command that engine e
executes from an instruction word, `encodeEngineInstr` writes the word. -/

namespace Sys2Proof

/-- No row of the table gives bits: a word spells no command. -/
def decodeTableWord (_nbits _w : Nat) : Option Instr := none

/-! ## The fields of a word (R319) -/

/-- OP, bits [31:26]. -/
def opOf (w : Word) : Nat := (w.extractLsb' 26 6).toNat
/-- FN, bits [5:0]. -/
def fnOf (w : Word) : Nat := (w.extractLsb' 0 6).toNat
def rOf (w : Word) : RFmt :=
  ⟨w.extractLsb' 21 5, w.extractLsb' 16 5, w.extractLsb' 11 5, w.extractLsb' 10 1, w.extractLsb' 6 4⟩
def iOf (w : Word) : IFmt := ⟨w.extractLsb' 21 5, w.extractLsb' 16 5, w.extractLsb' 0 16⟩
def bOf (w : Word) : BFmt := ⟨w.extractLsb' 22 4, w.extractLsb' 0 22⟩
def jOf (w : Word) : JFmt := ⟨w.extractLsb' 0 26⟩
def yOf (w : Word) : YFmt :=
  ⟨w.getLsbD 25, w.getLsbD 24, w.extractLsb' 16 8, w.extractLsb' 11 5, w.extractLsb' 6 5, w.extractLsb' 0 6⟩
def eOf (w : Word) : EFmt := ⟨w.extractLsb' 7 19, w.extractLsb' 0 7⟩
def vOf (w : Word) : VFmt :=
  ⟨w.extractLsb' 22 4, w.extractLsb' 18 4, w.extractLsb' 14 4, w.extractLsb' 10 4, w.extractLsb' 8 2, w.extractLsb' 6 2⟩
def vrOf (w : Word) : VRFmt :=
  ⟨w.extractLsb' 22 4, w.extractLsb' 18 4, w.extractLsb' 12 6, w.extractLsb' 10 2, w.extractLsb' 8 2, w.extractLsb' 6 2⟩
def vgOf (w : Word) : VGFmt :=
  ⟨w.extractLsb' 21 5, w.extractLsb' 17 4, w.extractLsb' 15 2, w.extractLsb' 6 9⟩
def vmOf (w : Word) : VMFmt := ⟨w.extractLsb' 22 4, w.extractLsb' 21 1, w.extractLsb' 16 5, w.extractLsb' 0 16⟩

def RFmt.word (f : RFmt) (op fn : BitVec 6) : Word := op ++ f.rd ++ f.ra ++ f.rb ++ f.z ++ f.aux ++ fn
def IFmt.word (f : IFmt) (op : BitVec 6) : Word := op ++ f.rd ++ f.ra ++ f.imm
def BFmt.word (f : BFmt) (op : BitVec 6) : Word := op ++ f.cond ++ f.off
def JFmt.word (f : JFmt) (op : BitVec 6) : Word := op ++ f.off
def YFmt.word (f : YFmt) (op : BitVec 6) : Word :=
  op ++ BitVec.ofBool f.t ++ BitVec.ofBool f.w ++ f.wreq ++ f.ra ++ f.rb ++ f.z
def EFmt.word (f : EFmt) (op : BitVec 6) : Word := op ++ f.z ++ f.code
def VFmt.word (f : VFmt) (op fn : BitVec 6) : Word := op ++ f.vd ++ f.va ++ f.vb ++ f.vc ++ f.ac ++ f.rm ++ fn
def VRFmt.word (f : VRFmt) (op fn : BitVec 6) : Word := op ++ f.vd ++ f.z1 ++ f.sh ++ f.z2 ++ f.ac ++ f.rm ++ fn
def VGFmt.word (f : VGFmt) (op fn : BitVec 6) : Word := op ++ f.g ++ f.v ++ f.lane ++ f.z ++ fn
def VMFmt.word (f : VMFmt) (op : BitVec 6) : Word := op ++ f.vd ++ f.z ++ f.ra ++ f.imm

/-- OP 0x00 by FN (R323). -/
def decodeAlu (e : EngNo) (w : Word) : Option Instr :=
  match fnOf w with
  | 0x00 => some (.add e (rOf w))
  | 0x01 => some (.sub e (rOf w))
  | 0x02 => some (.adc e (rOf w))
  | 0x03 => some (.sbc e (rOf w))
  | 0x04 => some (.andr e (rOf w))
  | 0x05 => some (.orr e (rOf w))
  | 0x06 => some (.xorr e (rOf w))
  | 0x07 => some (.andn e (rOf w))
  | 0x08 => some (.sll e (rOf w))
  | 0x09 => some (.srl e (rOf w))
  | 0x0A => some (.sra e (rOf w))
  | 0x0B => some (.ror e (rOf w))
  | 0x0C => some (.mins e (rOf w))
  | 0x0D => some (.maxs e (rOf w))
  | 0x0E => some (.minu e (rOf w))
  | 0x0F => some (.maxu e (rOf w))
  | 0x10 => some (.neg e (rOf w))
  | 0x11 => some (.abs e (rOf w))
  | 0x12 => some (.clz e (rOf w))
  | 0x13 => some (.popc e (rOf w))
  | 0x14 => some (.bswap e (rOf w))
  | 0x15 => some (.sextb e (rOf w))
  | 0x16 => some (.sexth e (rOf w))
  | 0x18 => some (.cmp e (rOf w))
  | 0x19 => some (.tst e (rOf w))
  | 0x1A => some (.sel e (rOf w))
  | _ => none
/-- OP 0x01 by FN (R324). -/
def decodeMulDiv (e : EngNo) (w : Word) : Option Instr :=
  match fnOf w with
  | 0x00 => some (.mul e (rOf w))
  | 0x01 => some (.mulh e (rOf w))
  | 0x02 => some (.mulhu e (rOf w))
  | 0x04 => some (.div e (rOf w))
  | 0x05 => some (.divu e (rOf w))
  | 0x06 => some (.rem e (rOf w))
  | 0x07 => some (.remu e (rOf w))
  | _ => none
/-- OP 0x02 by FN (R330). -/
def decodeAtomic (e : EngNo) (w : Word) : Option Instr :=
  match fnOf w with
  | 0x00 => some (.aaddW e (rOf w))
  | 0x01 => some (.aandW e (rOf w))
  | 0x02 => some (.aorW e (rOf w))
  | 0x03 => some (.axorW e (rOf w))
  | 0x04 => some (.aswpW e (rOf w))
  | 0x05 => some (.acasW e (rOf w))
  | 0x10 => some (.aaddD e (rOf w))
  | 0x11 => some (.aandD e (rOf w))
  | 0x12 => some (.aorD e (rOf w))
  | 0x13 => some (.axorD e (rOf w))
  | 0x14 => some (.aswpD e (rOf w))
  | 0x15 => some (.acasD e (rOf w))
  | _ => none
/-- OP 0x03 by FN (R334). -/
def decodeSys (e : EngNo) (w : Word) : Option Instr :=
  match fnOf w with
  | 0x00 => some (.mfence e (rOf w))
  | 0x01 => some (.ifence e (rOf w))
  | 0x02 => some (.breakpt e (rOf w))
  | 0x03 => some (.xret e (rOf w))
  | 0x04 => some (.rdf e (rOf w))
  | 0x05 => some (.wrf e (rOf w))
  | 0x08 => some (.send e (rOf w))
  | 0x09 => some (.emit e (rOf w))
  | 0x0A => some (.waitNudge e (rOf w))
  | 0x0B => some (.nudge e (rOf w))
  | _ => none
/-- OP 0x2A by FN (R332). -/
def decodeJreg (e : EngNo) (w : Word) : Option Instr :=
  match fnOf w with
  | 0x00 => some (.jr e (rOf w))
  | 0x01 => some (.jalr e (rOf w))
  | _ => none
/-- OP 0x38 by FN (R347). -/
def decodeVint (e : EngNo) (w : Word) : Option Instr :=
  match fnOf w with
  | 0x00 => some (.vadd e (vOf w))
  | 0x01 => some (.vsub e (vOf w))
  | 0x02 => some (.vadds e (vOf w))
  | 0x03 => some (.vsubs e (vOf w))
  | 0x04 => some (.vand e (vOf w))
  | 0x05 => some (.vor e (vOf w))
  | 0x06 => some (.vxor e (vOf w))
  | 0x07 => some (.vmin e (vOf w))
  | 0x08 => some (.vmax e (vOf w))
  | 0x09 => some (.vsll e (vOf w))
  | 0x0A => some (.vsrl e (vOf w))
  | 0x0B => some (.vsra e (vOf w))
  | 0x0C => some (.vcmpeq e (vOf w))
  | 0x0D => some (.vcmpgt e (vOf w))
  | 0x0E => some (.vmul e (vOf w))
  | 0x0F => some (.vmov e (vOf w))
  | 0x10 => some (.vsel e (vOf w))
  | 0x11 => some (.vdiv e (vOf w))
  | 0x12 => some (.vdivu e (vOf w))
  | _ => none
/-- OP 0x39 by FN (R348). -/
def decodeVfp (e : EngNo) (w : Word) : Option Instr :=
  match fnOf w with
  | 0x00 => some (.fadd e (vOf w))
  | 0x01 => some (.fsub e (vOf w))
  | 0x02 => some (.fmul e (vOf w))
  | 0x03 => some (.fma e (vOf w))
  | 0x04 => some (.fdiv e (vOf w))
  | 0x05 => some (.frsq e (vOf w))
  | 0x06 => some (.fspl e (vOf w))
  | 0x07 => some (.fmin e (vOf w))
  | 0x08 => some (.fmax e (vOf w))
  | 0x09 => some (.fcmplt e (vOf w))
  | 0x0A => some (.fcmpeq e (vOf w))
  | 0x0B => some (.fabs e (vOf w))
  | 0x0C => some (.fneg e (vOf w))
  | _ => none
/-- OP 0x3A by FN (R350). -/
def decodeVacc (e : EngNo) (w : Word) : Option Instr :=
  match fnOf w with
  | 0x00 => some (.amac e (vOf w))
  | 0x01 => some (.amsu e (vOf w))
  | 0x02 => some (.aclr e (vOf w))
  | 0x03 => some (.ald e (vOf w))
  | 0x04 => some (.ard e (vrOf w))
  | _ => none
/-- OP 0x3B by FN (R351). -/
def decodeVcvt (e : EngNo) (w : Word) : Option Instr :=
  match fnOf w with
  | 0x00 => some (.vcvtif e (vOf w))
  | 0x01 => some (.vcvtfi e (vOf w))
  | 0x02 => some (.vcvtfiz e (vOf w))
  | 0x03 => some (.vsath e (vOf w))
  | 0x04 => some (.vsatub e (vOf w))
  | 0x05 => some (.vnarh e (vOf w))
  | _ => none
/-- OP 0x3E by FN (R352). -/
def decodeVmove (e : EngNo) (w : Word) : Option Instr :=
  match fnOf w with
  | 0x00 => some (.vins e (vgOf w))
  | 0x01 => some (.vext e (vgOf w))
  | 0x02 => some (.vsplat e (vgOf w))
  | 0x03 => some (.rdacp e (vgOf w))
  | 0x04 => some (.wracp e (vgOf w))
  | _ => none

/-- The command that engine e executes for an instruction word; `none` for an undefined OP or FN, which raises ILLEGAL
(R320, R322). -/
def decodeEngineWord (e : EngNo) (w : Word) : Option Instr :=
  match opOf w with
  | 0x00 => decodeAlu e w
  | 0x01 => decodeMulDiv e w
  | 0x02 => decodeAtomic e w
  | 0x03 => decodeSys e w
  | 0x04 => some (.yieldThread e (yOf w))
  | 0x05 => some (.endThread e (eOf w))
  | 0x08 => some (.addi e (iOf w))
  | 0x09 => some (.cmpi e (iOf w))
  | 0x0A => some (.andi e (iOf w))
  | 0x0B => some (.ori e (iOf w))
  | 0x0C => some (.xori e (iOf w))
  | 0x0D => some (.lui e (iOf w))
  | 0x0E => some (.slli e (iOf w))
  | 0x0F => some (.srli e (iOf w))
  | 0x10 => some (.srai e (iOf w))
  | 0x11 => some (.rori e (iOf w))
  | 0x12 => some (.tsti e (iOf w))
  | 0x18 => some (.lb e (iOf w))
  | 0x19 => some (.lbu e (iOf w))
  | 0x1A => some (.lh e (iOf w))
  | 0x1B => some (.lhu e (iOf w))
  | 0x1C => some (.lw e (iOf w))
  | 0x1D => some (.ld e (iOf w))
  | 0x20 => some (.sb e (iOf w))
  | 0x21 => some (.sh e (iOf w))
  | 0x22 => some (.sw e (iOf w))
  | 0x23 => some (.sd e (iOf w))
  | 0x28 => some (.j e (jOf w))
  | 0x29 => some (.jal e (jOf w))
  | 0x2A => decodeJreg e w
  | 0x30 => some (.br e (bOf w))
  | 0x38 => decodeVint e w
  | 0x39 => decodeVfp e w
  | 0x3A => decodeVacc e w
  | 0x3B => decodeVcvt e w
  | 0x3C => some (.vld e (vmOf w))
  | 0x3D => some (.vst e (vmOf w))
  | 0x3E => decodeVmove e w
  | _ => none

/-- The command that engine e executes for any instruction word.  A word with an undefined OP or FN raises ILLEGAL as an encoding
does whose unused field is not 0 (R320); it stands as BREAK with such a field. -/
def engineCommand (e : EngNo) (w : Word) : Instr := (decodeEngineWord e w).getD (.breakpt e ⟨1, 0, 0, 0, 0⟩)

/-- The engine that executes an instruction and the word of that instruction; `none` for the other commands. -/
def encodeEngineInstr : Instr → Option (EngNo × Word)
  | .add e f => some (e, f.word 0x00 0x00)
  | .sub e f => some (e, f.word 0x00 0x01)
  | .adc e f => some (e, f.word 0x00 0x02)
  | .sbc e f => some (e, f.word 0x00 0x03)
  | .andr e f => some (e, f.word 0x00 0x04)
  | .orr e f => some (e, f.word 0x00 0x05)
  | .xorr e f => some (e, f.word 0x00 0x06)
  | .andn e f => some (e, f.word 0x00 0x07)
  | .sll e f => some (e, f.word 0x00 0x08)
  | .srl e f => some (e, f.word 0x00 0x09)
  | .sra e f => some (e, f.word 0x00 0x0A)
  | .ror e f => some (e, f.word 0x00 0x0B)
  | .mins e f => some (e, f.word 0x00 0x0C)
  | .maxs e f => some (e, f.word 0x00 0x0D)
  | .minu e f => some (e, f.word 0x00 0x0E)
  | .maxu e f => some (e, f.word 0x00 0x0F)
  | .neg e f => some (e, f.word 0x00 0x10)
  | .abs e f => some (e, f.word 0x00 0x11)
  | .clz e f => some (e, f.word 0x00 0x12)
  | .popc e f => some (e, f.word 0x00 0x13)
  | .bswap e f => some (e, f.word 0x00 0x14)
  | .sextb e f => some (e, f.word 0x00 0x15)
  | .sexth e f => some (e, f.word 0x00 0x16)
  | .cmp e f => some (e, f.word 0x00 0x18)
  | .tst e f => some (e, f.word 0x00 0x19)
  | .sel e f => some (e, f.word 0x00 0x1A)
  | .mul e f => some (e, f.word 0x01 0x00)
  | .mulh e f => some (e, f.word 0x01 0x01)
  | .mulhu e f => some (e, f.word 0x01 0x02)
  | .div e f => some (e, f.word 0x01 0x04)
  | .divu e f => some (e, f.word 0x01 0x05)
  | .rem e f => some (e, f.word 0x01 0x06)
  | .remu e f => some (e, f.word 0x01 0x07)
  | .aaddW e f => some (e, f.word 0x02 0x00)
  | .aandW e f => some (e, f.word 0x02 0x01)
  | .aorW e f => some (e, f.word 0x02 0x02)
  | .axorW e f => some (e, f.word 0x02 0x03)
  | .aswpW e f => some (e, f.word 0x02 0x04)
  | .acasW e f => some (e, f.word 0x02 0x05)
  | .aaddD e f => some (e, f.word 0x02 0x10)
  | .aandD e f => some (e, f.word 0x02 0x11)
  | .aorD e f => some (e, f.word 0x02 0x12)
  | .axorD e f => some (e, f.word 0x02 0x13)
  | .aswpD e f => some (e, f.word 0x02 0x14)
  | .acasD e f => some (e, f.word 0x02 0x15)
  | .mfence e f => some (e, f.word 0x03 0x00)
  | .ifence e f => some (e, f.word 0x03 0x01)
  | .breakpt e f => some (e, f.word 0x03 0x02)
  | .xret e f => some (e, f.word 0x03 0x03)
  | .rdf e f => some (e, f.word 0x03 0x04)
  | .wrf e f => some (e, f.word 0x03 0x05)
  | .send e f => some (e, f.word 0x03 0x08)
  | .emit e f => some (e, f.word 0x03 0x09)
  | .waitNudge e f => some (e, f.word 0x03 0x0A)
  | .nudge e f => some (e, f.word 0x03 0x0B)
  | .jr e f => some (e, f.word 0x2A 0x00)
  | .jalr e f => some (e, f.word 0x2A 0x01)
  | .vadd e f => some (e, f.word 0x38 0x00)
  | .vsub e f => some (e, f.word 0x38 0x01)
  | .vadds e f => some (e, f.word 0x38 0x02)
  | .vsubs e f => some (e, f.word 0x38 0x03)
  | .vand e f => some (e, f.word 0x38 0x04)
  | .vor e f => some (e, f.word 0x38 0x05)
  | .vxor e f => some (e, f.word 0x38 0x06)
  | .vmin e f => some (e, f.word 0x38 0x07)
  | .vmax e f => some (e, f.word 0x38 0x08)
  | .vsll e f => some (e, f.word 0x38 0x09)
  | .vsrl e f => some (e, f.word 0x38 0x0A)
  | .vsra e f => some (e, f.word 0x38 0x0B)
  | .vcmpeq e f => some (e, f.word 0x38 0x0C)
  | .vcmpgt e f => some (e, f.word 0x38 0x0D)
  | .vmul e f => some (e, f.word 0x38 0x0E)
  | .vmov e f => some (e, f.word 0x38 0x0F)
  | .vsel e f => some (e, f.word 0x38 0x10)
  | .vdiv e f => some (e, f.word 0x38 0x11)
  | .vdivu e f => some (e, f.word 0x38 0x12)
  | .fadd e f => some (e, f.word 0x39 0x00)
  | .fsub e f => some (e, f.word 0x39 0x01)
  | .fmul e f => some (e, f.word 0x39 0x02)
  | .fma e f => some (e, f.word 0x39 0x03)
  | .fdiv e f => some (e, f.word 0x39 0x04)
  | .frsq e f => some (e, f.word 0x39 0x05)
  | .fspl e f => some (e, f.word 0x39 0x06)
  | .fmin e f => some (e, f.word 0x39 0x07)
  | .fmax e f => some (e, f.word 0x39 0x08)
  | .fcmplt e f => some (e, f.word 0x39 0x09)
  | .fcmpeq e f => some (e, f.word 0x39 0x0A)
  | .fabs e f => some (e, f.word 0x39 0x0B)
  | .fneg e f => some (e, f.word 0x39 0x0C)
  | .amac e f => some (e, f.word 0x3A 0x00)
  | .amsu e f => some (e, f.word 0x3A 0x01)
  | .aclr e f => some (e, f.word 0x3A 0x02)
  | .ald e f => some (e, f.word 0x3A 0x03)
  | .ard e f => some (e, f.word 0x3A 0x04)
  | .vcvtif e f => some (e, f.word 0x3B 0x00)
  | .vcvtfi e f => some (e, f.word 0x3B 0x01)
  | .vcvtfiz e f => some (e, f.word 0x3B 0x02)
  | .vsath e f => some (e, f.word 0x3B 0x03)
  | .vsatub e f => some (e, f.word 0x3B 0x04)
  | .vnarh e f => some (e, f.word 0x3B 0x05)
  | .vins e f => some (e, f.word 0x3E 0x00)
  | .vext e f => some (e, f.word 0x3E 0x01)
  | .vsplat e f => some (e, f.word 0x3E 0x02)
  | .rdacp e f => some (e, f.word 0x3E 0x03)
  | .wracp e f => some (e, f.word 0x3E 0x04)
  | .yieldThread e f => some (e, f.word 0x04)
  | .endThread e f => some (e, f.word 0x05)
  | .addi e f => some (e, f.word 0x08)
  | .cmpi e f => some (e, f.word 0x09)
  | .andi e f => some (e, f.word 0x0A)
  | .ori e f => some (e, f.word 0x0B)
  | .xori e f => some (e, f.word 0x0C)
  | .lui e f => some (e, f.word 0x0D)
  | .slli e f => some (e, f.word 0x0E)
  | .srli e f => some (e, f.word 0x0F)
  | .srai e f => some (e, f.word 0x10)
  | .rori e f => some (e, f.word 0x11)
  | .tsti e f => some (e, f.word 0x12)
  | .lb e f => some (e, f.word 0x18)
  | .lbu e f => some (e, f.word 0x19)
  | .lh e f => some (e, f.word 0x1A)
  | .lhu e f => some (e, f.word 0x1B)
  | .lw e f => some (e, f.word 0x1C)
  | .ld e f => some (e, f.word 0x1D)
  | .sb e f => some (e, f.word 0x20)
  | .sh e f => some (e, f.word 0x21)
  | .sw e f => some (e, f.word 0x22)
  | .sd e f => some (e, f.word 0x23)
  | .j e f => some (e, f.word 0x28)
  | .jal e f => some (e, f.word 0x29)
  | .br e f => some (e, f.word 0x30)
  | .vld e f => some (e, f.word 0x3C)
  | .vst e f => some (e, f.word 0x3D)
  | _ => none

end Sys2Proof
end

