-- ==== Sys2Proof/Config.lean ====
section
/-! DEFINITION. What the spec leaves open or names without defining: free values and the two cryptographic functions of the
boot ROM, as constants without a body. -/

namespace Sys2Proof

/-- The k-th free value drawn in a run: a value the spec does not state (log entry 1). -/
opaque Config.freeWord : Nat → BitVec 32

/-- HLT_LOC of the physical slot with index i: its place on the die, for which the spec gives no number (R596, log entry 215). -/
opaque Config.dieLoc (i : Nat) : BitVec 32

/-- SHA-384, which the spec names and does not define (R606, R608). -/
opaque Config.sha384 : List Byte → BitVec 384

/-- ECDSA P-384 verification of a signature over a digest with a public key, as header words (R608). -/
opaque Config.ecdsaOk : (key sig : List Word) → BitVec 384 → Bool

end Sys2Proof
end

