-- ==== Sys2Proof/Machine/Regs.lean ====
section
/-! DEFINITION. The register map of the TK4610: every register field the spec's register tables give, with its place in
the manager's BAR0 (R14), its type (R3) and its reset value.  Registers of a function window (R17) stand at
0x400_0000 + instance × 0x1_0000, which is the model's own numbering (log entry 3).  A field whose Reset column reads
fuse, strap or * has here the value log entry 2 names; start-up loads the fused ones (R602). -/

namespace Sys2Proof.Machine

/-- The field types of R3. -/
inductive FType where
  | rw | ro | w1c | w1s | rc | wo | rwh | cnt
  deriving DecidableEq, Repr

/-- One register field: the offset of its register for index (0, 0), the strides of its two indices, its bits, its type,
its reset value, whether a CNT field wraps (R5), the place (register offset, bit) of its FIELD_COLL bit (R6), and the case
of Field.resetAt where the reset value depends on the index. -/
structure Field where
  base : Nat
  s1 : Nat
  s2 : Nat
  hi : Nat
  lo : Nat
  ty : FType
  rst : Nat
  wraps : Bool := false
  coll : Option (Nat × Nat) := none
  idx : Nat := 0
  deriving DecidableEq, Repr

/-- Number of values of a field. -/
def Field.span (f : Field) : Nat := 2 ^ (f.hi + 1 - f.lo)
/-- The key under which State holds the field of indices i, j: 32 × register offset + lowest bit. -/
def Field.key (f : Field) (i : Nat := 0) (j : Nat := 0) : Nat := 32 * (f.base + f.s1 * i + f.s2 * j) + f.lo

/-- The clock source of domain d after reset (R553). -/
def pllOfDomain (d : Nat) : Nat :=
  if d = 0 then 1 else if d < 5 then 3 else if d < 7 then 4 else if d < 8 then 0 else 5

/-- The reset value of a field for indices i, j (R266, R312, R373, R391, R433, R553, R573, R599). -/
def Field.resetAt (f : Field) (i j : Nat) : Nat :=
  match f.idx with
  | 0 => f.rst
  | 1 => j
  | 2 => if i % 32 = 0 then 1 else 0
  | 3 => i / 32
  | 4 => i % 32
  | 5 => i
  | 6 => if i = 1 then 0 else 1
  | 7 => if i < 3 then 60 else if i < 4 then 0 else 40
  | 8 => if i < 2 then 1 else 0
  | 9 => pllOfDomain i
  | 10 => if i = 4 then 1 else 0
  | 11 => if i % 33 = 32 then 1 else 0
  | 13 => if i < 128 then 1 else 0
  | 14 => if i < 128 then i else 0
  | _ => if i % 33 = 32 then 0 else 32 * (i / 33) + i % 33

/-- One register (or array of registers): first offset, strides and sizes of its indices, and its fields. -/
structure RegD where
  base : Nat
  s1 : Nat
  n1 : Nat
  s2 : Nat
  n2 : Nat
  fields : List Field
  deriving DecidableEq, Repr

namespace R

/-! PTU_CTL (01_*.md, R62) -/
def PTU_CTL_TSTEP : Field := ⟨0x40000, 0x0, 0x0, 2, 2, .w1s, 0, false, none, 0⟩
def PTU_CTL_TLOAD : Field := ⟨0x40000, 0x0, 0x0, 1, 1, .w1s, 0, false, none, 0⟩
def PTU_CTL_EN : Field := ⟨0x40000, 0x0, 0x0, 0, 0, .rw, 0, false, none, 0⟩
def PTU_CTL : RegD := ⟨0x40000, 0x0, 1, 0x0, 1, [PTU_CTL_TSTEP, PTU_CTL_TLOAD, PTU_CTL_EN]⟩
/-! PTU_TIMELO (01_*.md, R62) -/
def PTU_TIMELO_NS_LO : Field := ⟨0x40010, 0x0, 0x0, 31, 0, .ro, 0, false, none, 0⟩
def PTU_TIMELO : RegD := ⟨0x40010, 0x0, 1, 0x0, 1, [PTU_TIMELO_NS_LO]⟩
/-! PTU_TIMEHI (01_*.md, R62) -/
def PTU_TIMEHI_NS_HI : Field := ⟨0x40014, 0x0, 0x0, 31, 0, .ro, 0, false, none, 0⟩
def PTU_TIMEHI : RegD := ⟨0x40014, 0x0, 1, 0x0, 1, [PTU_TIMEHI_NS_HI]⟩
/-! PTU_TIMEFR (01_*.md, R62) -/
def PTU_TIMEFR_FRAC : Field := ⟨0x40018, 0x0, 0x0, 15, 0, .ro, 0, false, none, 0⟩
def PTU_TIMEFR : RegD := ⟨0x40018, 0x0, 1, 0x0, 1, [PTU_TIMEFR_FRAC]⟩
/-! PTU_TSETLO (01_*.md, R62) -/
def PTU_TSETLO_NS : Field := ⟨0x40020, 0x0, 0x0, 31, 0, .rw, 0, false, none, 0⟩
def PTU_TSETLO : RegD := ⟨0x40020, 0x0, 1, 0x0, 1, [PTU_TSETLO_NS]⟩
/-! PTU_TSETHI (01_*.md, R62) -/
def PTU_TSETHI_NS : Field := ⟨0x40024, 0x0, 0x0, 31, 0, .rw, 0, false, none, 0⟩
def PTU_TSETHI : RegD := ⟨0x40024, 0x0, 1, 0x0, 1, [PTU_TSETHI_NS]⟩
/-! PTU_TSETFR (01_*.md, R62) -/
def PTU_TSETFR_FRAC : Field := ⟨0x40028, 0x0, 0x0, 15, 0, .rw, 0, false, none, 0⟩
def PTU_TSETFR : RegD := ⟨0x40028, 0x0, 1, 0x0, 1, [PTU_TSETFR_FRAC]⟩
/-! PTU_TINC (01_*.md, R62) -/
def PTU_TINC_INC : Field := ⟨0x40030, 0x0, 0x0, 23, 0, .rw, 131072, false, none, 0⟩
def PTU_TINC : RegD := ⟨0x40030, 0x0, 1, 0x0, 1, [PTU_TINC_INC]⟩
/-! PTU_TADJ (01_*.md, R62) -/
def PTU_TADJ_ADJ : Field := ⟨0x40034, 0x0, 0x0, 31, 0, .rw, 0, false, none, 0⟩
def PTU_TADJ : RegD := ⟨0x40034, 0x0, 1, 0x0, 1, [PTU_TADJ_ADJ]⟩
/-! PTU_TRKCTL (01_*.md, R63) -/
def PTU_TRKCTL_PRESET : Field := ⟨0x41000, 0x40, 0x0, 24, 24, .w1s, 0, false, none, 0⟩
def PTU_TRKCTL_TOUT : Field := ⟨0x41000, 0x40, 0x0, 23, 12, .rw, 100, false, none, 0⟩
def PTU_TRKCTL_VWIN : Field := ⟨0x41000, 0x40, 0x0, 11, 9, .rw, 3, false, none, 0⟩
def PTU_TRKCTL_FILT : Field := ⟨0x41000, 0x40, 0x0, 8, 6, .rw, 2, false, none, 0⟩
def PTU_TRKCTL_ZCLR : Field := ⟨0x41000, 0x40, 0x0, 5, 5, .rw, 0, false, none, 0⟩
def PTU_TRKCTL_INV : Field := ⟨0x41000, 0x40, 0x0, 4, 4, .rw, 0, false, none, 0⟩
def PTU_TRKCTL_MODE : Field := ⟨0x41000, 0x40, 0x0, 3, 1, .rw, 0, false, none, 0⟩
def PTU_TRKCTL_EN : Field := ⟨0x41000, 0x40, 0x0, 0, 0, .rw, 0, false, none, 0⟩
def PTU_TRKCTL : RegD := ⟨0x41000, 0x40, 16, 0x0, 1, [PTU_TRKCTL_PRESET, PTU_TRKCTL_TOUT, PTU_TRKCTL_VWIN, PTU_TRKCTL_FILT, PTU_TRKCTL_ZCLR, PTU_TRKCTL_INV, PTU_TRKCTL_MODE, PTU_TRKCTL_EN]⟩
/-! PTU_TRKSRC (01_*.md, R63) -/
def PTU_TRKSRC_EP : Field := ⟨0x41004, 0x40, 0x0, 18, 15, .rw, 0, false, none, 0⟩
def PTU_TRKSRC_GEN : Field := ⟨0x41004, 0x40, 0x0, 14, 11, .rw, 0, false, none, 0⟩
def PTU_TRKSRC_ADDR : Field := ⟨0x41004, 0x40, 0x0, 10, 4, .rw, 0, false, none, 0⟩
def PTU_TRKSRC_PORT : Field := ⟨0x41004, 0x40, 0x0, 3, 0, .rw, 0, false, none, 0⟩
def PTU_TRKSRC : RegD := ⟨0x41004, 0x40, 16, 0x0, 1, [PTU_TRKSRC_EP, PTU_TRKSRC_GEN, PTU_TRKSRC_ADDR, PTU_TRKSRC_PORT]⟩
/-! PTU_TRKPOSF (01_*.md, R63) -/
def PTU_TRKPOSF_POSF : Field := ⟨0x41008, 0x40, 0x0, 31, 0, .ro, 0, false, none, 0⟩
def PTU_TRKPOSF : RegD := ⟨0x41008, 0x40, 16, 0x0, 1, [PTU_TRKPOSF_POSF]⟩
/-! PTU_TRKPOSH (01_*.md, R63) -/
def PTU_TRKPOSH_POSH : Field := ⟨0x4100C, 0x40, 0x0, 31, 0, .ro, 0, false, none, 0⟩
def PTU_TRKPOSH : RegD := ⟨0x4100C, 0x40, 16, 0x0, 1, [PTU_TRKPOSH_POSH]⟩
/-! PTU_TRKVEL (01_*.md, R63) -/
def PTU_TRKVEL_VEL : Field := ⟨0x41010, 0x40, 0x0, 31, 0, .ro, 0, false, none, 0⟩
def PTU_TRKVEL : RegD := ⟨0x41010, 0x40, 16, 0x0, 1, [PTU_TRKVEL_VEL]⟩
/-! PTU_TRKSETF (01_*.md, R63) -/
def PTU_TRKSETF_SET : Field := ⟨0x41014, 0x40, 0x0, 31, 0, .rw, 0, false, none, 0⟩
def PTU_TRKSETF : RegD := ⟨0x41014, 0x40, 16, 0x0, 1, [PTU_TRKSETF_SET]⟩
/-! PTU_TRKSETH (01_*.md, R63) -/
def PTU_TRKSETH_SET : Field := ⟨0x41018, 0x40, 0x0, 31, 0, .rw, 0, false, none, 0⟩
def PTU_TRKSETH : RegD := ⟨0x41018, 0x40, 16, 0x0, 1, [PTU_TRKSETH_SET]⟩
/-! PTU_TRKZCAP (01_*.md, R63) -/
def PTU_TRKZCAP_ZCAP : Field := ⟨0x4101C, 0x40, 0x0, 31, 0, .ro, 0, false, none, 0⟩
def PTU_TRKZCAP : RegD := ⟨0x4101C, 0x40, 16, 0x0, 1, [PTU_TRKZCAP_ZCAP]⟩
/-! PTU_TRKSTAT (01_*.md, R63) -/
def PTU_TRKSTAT_SRCERR : Field := ⟨0x41020, 0x40, 0x0, 6, 6, .w1c, 0, false, none, 0⟩
def PTU_TRKSTAT_ZSEEN : Field := ⟨0x41020, 0x40, 0x0, 5, 5, .w1c, 0, false, none, 0⟩
def PTU_TRKSTAT_OVF : Field := ⟨0x41020, 0x40, 0x0, 4, 4, .w1c, 0, false, none, 0⟩
def PTU_TRKSTAT_QERR : Field := ⟨0x41020, 0x40, 0x0, 3, 3, .w1c, 0, false, none, 0⟩
def PTU_TRKSTAT_DIR : Field := ⟨0x41020, 0x40, 0x0, 2, 2, .ro, 0, false, none, 0⟩
def PTU_TRKSTAT_STALE : Field := ⟨0x41020, 0x40, 0x0, 1, 1, .ro, 0, false, none, 0⟩
def PTU_TRKSTAT_STOPPED : Field := ⟨0x41020, 0x40, 0x0, 0, 0, .ro, 0, false, none, 0⟩
def PTU_TRKSTAT : RegD := ⟨0x41020, 0x40, 16, 0x0, 1, [PTU_TRKSTAT_SRCERR, PTU_TRKSTAT_ZSEEN, PTU_TRKSTAT_OVF, PTU_TRKSTAT_QERR, PTU_TRKSTAT_DIR, PTU_TRKSTAT_STALE, PTU_TRKSTAT_STOPPED]⟩
/-! PTU_TRKERR (01_*.md, R63) -/
def PTU_TRKERR_QERRCNT_COLL : Field := ⟨0x41024, 0x40, 0x0, 16, 16, .w1c, 0, false, none, 0⟩
def PTU_TRKERR_QERRCNT : Field := ⟨0x41024, 0x40, 0x0, 15, 0, .cnt, 0, false, some (0x41024, 16), 0⟩
def PTU_TRKERR : RegD := ⟨0x41024, 0x40, 16, 0x0, 1, [PTU_TRKERR_QERRCNT_COLL, PTU_TRKERR_QERRCNT]⟩
/-! PTU_MKCTL (01_*.md, R65) -/
def PTU_MKCTL_HYST : Field := ⟨0x42000, 0x40, 0x0, 31, 8, .rw, 0, false, none, 0⟩
def PTU_MKCTL_TRK : Field := ⟨0x42000, 0x40, 0x0, 7, 4, .rw, 0, false, none, 0⟩
def PTU_MKCTL_DIR : Field := ⟨0x42000, 0x40, 0x0, 3, 2, .rw, 0, false, none, 0⟩
def PTU_MKCTL_TMODE : Field := ⟨0x42000, 0x40, 0x0, 1, 1, .rw, 0, false, none, 0⟩
def PTU_MKCTL_EN : Field := ⟨0x42000, 0x40, 0x0, 0, 0, .rwh, 0, false, none, 0⟩
def PTU_MKCTL : RegD := ⟨0x42000, 0x40, 32, 0x0, 1, [PTU_MKCTL_HYST, PTU_MKCTL_TRK, PTU_MKCTL_DIR, PTU_MKCTL_TMODE, PTU_MKCTL_EN]⟩
/-! PTU_MKTGT0 (01_*.md, R65) -/
def PTU_MKTGT0_TGT_LO : Field := ⟨0x42004, 0x40, 0x0, 31, 0, .rwh, 0, false, none, 0⟩
def PTU_MKTGT0 : RegD := ⟨0x42004, 0x40, 32, 0x0, 1, [PTU_MKTGT0_TGT_LO]⟩
/-! PTU_MKTGT1 (01_*.md, R65) -/
def PTU_MKTGT1_TGT_HI : Field := ⟨0x42008, 0x40, 0x0, 31, 0, .rwh, 0, false, none, 0⟩
def PTU_MKTGT1 : RegD := ⟨0x42008, 0x40, 32, 0x0, 1, [PTU_MKTGT1_TGT_HI]⟩
/-! PTU_MKSTEP0 (01_*.md, R65) -/
def PTU_MKSTEP0_STEP : Field := ⟨0x4200C, 0x40, 0x0, 31, 0, .rw, 0, false, none, 0⟩
def PTU_MKSTEP0 : RegD := ⟨0x4200C, 0x40, 32, 0x0, 1, [PTU_MKSTEP0_STEP]⟩
/-! PTU_MKSTEP1 (01_*.md, R65) -/
def PTU_MKSTEP1_STEP : Field := ⟨0x42010, 0x40, 0x0, 31, 0, .rw, 0, false, none, 0⟩
def PTU_MKSTEP1 : RegD := ⟨0x42010, 0x40, 32, 0x0, 1, [PTU_MKSTEP1_STEP]⟩
/-! PTU_MKSTAT (01_*.md, R65) -/
def PTU_MKSTAT_FIRES : Field := ⟨0x42014, 0x40, 0x0, 31, 16, .cnt, 0, true, some (0x42014, 5), 0⟩
def PTU_MKSTAT_FIRES_COLL : Field := ⟨0x42014, 0x40, 0x0, 5, 5, .w1c, 0, false, none, 0⟩
def PTU_MKSTAT_SKIP : Field := ⟨0x42014, 0x40, 0x0, 4, 4, .w1c, 0, false, none, 0⟩
def PTU_MKSTAT_LASTDIR : Field := ⟨0x42014, 0x40, 0x0, 3, 3, .ro, 0, false, none, 0⟩
def PTU_MKSTAT_PEND : Field := ⟨0x42014, 0x40, 0x0, 2, 2, .ro, 0, false, none, 0⟩
def PTU_MKSTAT_ARML : Field := ⟨0x42014, 0x40, 0x0, 1, 1, .ro, 0, false, none, 0⟩
def PTU_MKSTAT_ARMU : Field := ⟨0x42014, 0x40, 0x0, 0, 0, .ro, 0, false, none, 0⟩
def PTU_MKSTAT : RegD := ⟨0x42014, 0x40, 32, 0x0, 1, [PTU_MKSTAT_FIRES, PTU_MKSTAT_FIRES_COLL, PTU_MKSTAT_SKIP, PTU_MKSTAT_LASTDIR, PTU_MKSTAT_PEND, PTU_MKSTAT_ARML, PTU_MKSTAT_ARMU]⟩
/-! PTU_MKLOW0 (01_*.md, R65) -/
def PTU_MKLOW0_LOW : Field := ⟨0x42018, 0x40, 0x0, 31, 0, .ro, 0, false, none, 0⟩
def PTU_MKLOW0 : RegD := ⟨0x42018, 0x40, 32, 0x0, 1, [PTU_MKLOW0_LOW]⟩
/-! PTU_MKLOW1 (01_*.md, R65) -/
def PTU_MKLOW1_LOW : Field := ⟨0x4201C, 0x40, 0x0, 31, 0, .ro, 0, false, none, 0⟩
def PTU_MKLOW1 : RegD := ⟨0x4201C, 0x40, 32, 0x0, 1, [PTU_MKLOW1_LOW]⟩
/-! PTU_MKLAST0 (01_*.md, R65) -/
def PTU_MKLAST0_LAST : Field := ⟨0x42020, 0x40, 0x0, 31, 0, .ro, 0, false, none, 0⟩
def PTU_MKLAST0 : RegD := ⟨0x42020, 0x40, 32, 0x0, 1, [PTU_MKLAST0_LAST]⟩
/-! PTU_MKLAST1 (01_*.md, R65) -/
def PTU_MKLAST1_LAST : Field := ⟨0x42024, 0x40, 0x0, 31, 0, .ro, 0, false, none, 0⟩
def PTU_MKLAST1 : RegD := ⟨0x42024, 0x40, 32, 0x0, 1, [PTU_MKLAST1_LAST]⟩
/-! PTU_PBIND (01_*.md, R66) -/
def PTU_PBIND_MKMASK : Field := ⟨0x43000, 0x40, 0x0, 31, 0, .rw, 0, false, none, 0⟩
def PTU_PBIND : RegD := ⟨0x43000, 0x40, 16, 0x0, 1, [PTU_PBIND_MKMASK]⟩
/-! PTU_PFRM (01_*.md, R66) -/
def PTU_PFRM_FEN : Field := ⟨0x43004, 0x40, 0x0, 31, 31, .rw, 0, false, none, 0⟩
def PTU_PFRM_FMAX : Field := ⟨0x43004, 0x40, 0x0, 28, 16, .rw, 8000, false, none, 0⟩
def PTU_PFRM_FMIN : Field := ⟨0x43004, 0x40, 0x0, 12, 0, .rw, 125, false, none, 0⟩
def PTU_PFRM : RegD := ⟨0x43004, 0x40, 16, 0x0, 1, [PTU_PFRM_FEN, PTU_PFRM_FMAX, PTU_PFRM_FMIN]⟩
/-! PTU_PCFG (01_*.md, R66) -/
def PTU_PCFG_PWL : Field := ⟨0x43008, 0x40, 0x0, 20, 9, .rw, 512, false, none, 0⟩
def PTU_PCFG_GANG : Field := ⟨0x43008, 0x40, 0x0, 8, 5, .rw, 0, false, none, 0⟩
def PTU_PCFG_GANG_EN : Field := ⟨0x43008, 0x40, 0x0, 4, 4, .rw, 0, false, none, 0⟩
def PTU_PCFG_STRK : Field := ⟨0x43008, 0x40, 0x0, 3, 0, .rw, 0, false, none, 0⟩
def PTU_PCFG : RegD := ⟨0x43008, 0x40, 16, 0x0, 1, [PTU_PCFG_PWL, PTU_PCFG_GANG, PTU_PCFG_GANG_EN, PTU_PCFG_STRK]⟩
/-! PTU_PFNUM (01_*.md, R66) -/
def PTU_PFNUM_FNUM : Field := ⟨0x4300C, 0x40, 0x0, 15, 0, .rwh, 0, false, none, 0⟩
def PTU_PFNUM : RegD := ⟨0x4300C, 0x40, 16, 0x0, 1, [PTU_PFNUM_FNUM]⟩
/-! PTU_PLAT (01_*.md, R66) -/
def PTU_PLAT_TRIM : Field := ⟨0x43010, 0x40, 0x0, 31, 16, .rw, 0, false, none, 0⟩
def PTU_PLAT_LAT : Field := ⟨0x43010, 0x40, 0x0, 15, 0, .ro, 0, false, none, 0⟩
def PTU_PLAT : RegD := ⟨0x43010, 0x40, 16, 0x0, 1, [PTU_PLAT_TRIM, PTU_PLAT_LAT]⟩
/-! PTU_PSTAT (01_*.md, R66) -/
def PTU_PSTAT_LASTCAUSE : Field := ⟨0x43014, 0x40, 0x0, 22, 21, .ro, 0, false, none, 0⟩
def PTU_PSTAT_LASTMK : Field := ⟨0x43014, 0x40, 0x0, 20, 16, .ro, 0, false, none, 0⟩
def PTU_PSTAT_LATCHG : Field := ⟨0x43014, 0x40, 0x0, 2, 2, .w1c, 0, false, none, 0⟩
def PTU_PSTAT_PREWARN : Field := ⟨0x43014, 0x40, 0x0, 1, 1, .ro, 0, false, none, 0⟩
def PTU_PSTAT_CFGERR : Field := ⟨0x43014, 0x40, 0x0, 0, 0, .w1c, 0, false, none, 0⟩
def PTU_PSTAT : RegD := ⟨0x43014, 0x40, 16, 0x0, 1, [PTU_PSTAT_LASTCAUSE, PTU_PSTAT_LASTMK, PTU_PSTAT_LATCHG, PTU_PSTAT_PREWARN, PTU_PSTAT_CFGERR]⟩
/-! PTU_PCNT0 (01_*.md, R66) -/
def PTU_PCNT0_TIMEFILL : Field := ⟨0x43018, 0x40, 0x0, 31, 16, .cnt, 0, false, some (0x4301C, 1), 0⟩
def PTU_PCNT0_MERGED : Field := ⟨0x43018, 0x40, 0x0, 15, 0, .cnt, 0, false, some (0x4301C, 0), 0⟩
def PTU_PCNT0 : RegD := ⟨0x43018, 0x40, 16, 0x0, 1, [PTU_PCNT0_TIMEFILL, PTU_PCNT0_MERGED]⟩
/-! PTU_PCNT1 (01_*.md, R66) -/
def PTU_PCNT1_LATE : Field := ⟨0x4301C, 0x40, 0x0, 31, 16, .cnt, 0, false, some (0x4301C, 2), 0⟩
def PTU_PCNT1_LATE_COLL : Field := ⟨0x4301C, 0x40, 0x0, 2, 2, .w1c, 0, false, none, 0⟩
def PTU_PCNT1_TIMEFILL_COLL : Field := ⟨0x4301C, 0x40, 0x0, 1, 1, .w1c, 0, false, none, 0⟩
def PTU_PCNT1_MERGED_COLL : Field := ⟨0x4301C, 0x40, 0x0, 0, 0, .w1c, 0, false, none, 0⟩
def PTU_PCNT1 : RegD := ⟨0x4301C, 0x40, 16, 0x0, 1, [PTU_PCNT1_LATE, PTU_PCNT1_LATE_COLL, PTU_PCNT1_TIMEFILL_COLL, PTU_PCNT1_MERGED_COLL]⟩
/-! PTU_PNEXT (01_*.md, R66) -/
def PTU_PNEXT_NEXT : Field := ⟨0x43020, 0x40, 0x0, 31, 0, .ro, 4294967295, false, none, 0⟩
def PTU_PNEXT : RegD := ⟨0x43020, 0x40, 16, 0x0, 1, [PTU_PNEXT_NEXT]⟩
/-! EWZ_CTL (02_*.md, R129) -/
def EWZ_CTL_LOSTLIM : Field := ⟨0x400000, 0x10000, 0x0, 19, 16, .rw, 4, false, none, 0⟩
def EWZ_CTL_SUSPREQ : Field := ⟨0x400000, 0x10000, 0x0, 9, 8, .rwh, 0, false, none, 0⟩
def EWZ_CTL_RESUME : Field := ⟨0x400000, 0x10000, 0x0, 7, 7, .w1s, 0, false, none, 0⟩
def EWZ_CTL_FORCERT : Field := ⟨0x400000, 0x10000, 0x0, 6, 6, .w1s, 0, false, none, 0⟩
def EWZ_CTL_RESET : Field := ⟨0x400000, 0x10000, 0x0, 5, 5, .w1s, 0, false, none, 0⟩
def EWZ_CTL_MAXRATE : Field := ⟨0x400000, 0x10000, 0x0, 3, 2, .rw, 2, false, none, 0⟩
def EWZ_CTL_EN : Field := ⟨0x400000, 0x10000, 0x0, 0, 0, .rwh, 0, false, none, 0⟩
def EWZ_CTL : RegD := ⟨0x400000, 0x10000, 16, 0x0, 1, [EWZ_CTL_LOSTLIM, EWZ_CTL_SUSPREQ, EWZ_CTL_RESUME, EWZ_CTL_FORCERT, EWZ_CTL_RESET, EWZ_CTL_MAXRATE, EWZ_CTL_EN]⟩
/-! EWZ_LSTAT (02_*.md, R129) -/
def EWZ_LSTAT_RTPEND : Field := ⟨0x400004, 0x10000, 0x0, 11, 11, .ro, 0, false, none, 0⟩
def EWZ_LSTAT_DURING_ENTRY : Field := ⟨0x400004, 0x10000, 0x0, 10, 10, .ro, 0, false, none, 0⟩
def EWZ_LSTAT_REMOTEWAKE : Field := ⟨0x400004, 0x10000, 0x0, 9, 9, .ro, 0, false, none, 0⟩
def EWZ_LSTAT_HOSTWAKE : Field := ⟨0x400004, 0x10000, 0x0, 8, 8, .ro, 0, false, none, 0⟩
def EWZ_LSTAT_RATE : Field := ⟨0x400004, 0x10000, 0x0, 7, 6, .ro, 0, false, none, 0⟩
def EWZ_LSTAT_STATE : Field := ⟨0x400004, 0x10000, 0x0, 3, 0, .ro, 6, false, none, 0⟩
def EWZ_LSTAT : RegD := ⟨0x400004, 0x10000, 16, 0x0, 1, [EWZ_LSTAT_RTPEND, EWZ_LSTAT_DURING_ENTRY, EWZ_LSTAT_REMOTEWAKE, EWZ_LSTAT_HOSTWAKE, EWZ_LSTAT_RATE, EWZ_LSTAT_STATE]⟩
/-! EWZ_MARGIN (02_*.md, R129) -/
def EWZ_MARGIN_WIDTH : Field := ⟨0x400008, 0x10000, 0x0, 15, 8, .ro, 0, false, none, 0⟩
def EWZ_MARGIN_HEIGHT : Field := ⟨0x400008, 0x10000, 0x0, 7, 0, .ro, 0, false, none, 0⟩
def EWZ_MARGIN : RegD := ⟨0x400008, 0x10000, 16, 0x0, 1, [EWZ_MARGIN_WIDTH, EWZ_MARGIN_HEIGHT]⟩
/-! EWZ_MARGIN_TH (02_*.md, R129) -/
def EWZ_MARGIN_TH_HOLD : Field := ⟨0x40000C, 0x10000, 0x0, 23, 16, .rw, 8, false, none, 0⟩
def EWZ_MARGIN_TH_WTH : Field := ⟨0x40000C, 0x10000, 0x0, 15, 8, .rw, 16, false, none, 0⟩
def EWZ_MARGIN_TH_HTH : Field := ⟨0x40000C, 0x10000, 0x0, 7, 0, .rw, 10, false, none, 0⟩
def EWZ_MARGIN_TH : RegD := ⟨0x40000C, 0x10000, 16, 0x0, 1, [EWZ_MARGIN_TH_HOLD, EWZ_MARGIN_TH_WTH, EWZ_MARGIN_TH_HTH]⟩
/-! EWZ_CBLDLY (02_*.md, R129) -/
def EWZ_CBLDLY_DELAY : Field := ⟨0x400010, 0x10000, 0x0, 15, 0, .ro, 0, false, none, 0⟩
def EWZ_CBLDLY : RegD := ⟨0x400010, 0x10000, 16, 0x0, 1, [EWZ_CBLDLY_DELAY]⟩
/-! EWZ_RTCFG (02_*.md, R129) -/
def EWZ_RTCFG_WAITF : Field := ⟨0x400014, 0x10000, 0x0, 15, 0, .rw, 1024, false, none, 0⟩
def EWZ_RTCFG : RegD := ⟨0x400014, 0x10000, 16, 0x0, 1, [EWZ_RTCFG_WAITF]⟩
/-! EWZ_EVT (02_*.md, R129) -/
def EWZ_EVT_MISSEDSOF : Field := ⟨0x400018, 0x10000, 0x0, 11, 11, .w1c, 0, false, none, 0⟩
def EWZ_EVT_RECOV : Field := ⟨0x400018, 0x10000, 0x0, 10, 10, .w1c, 0, false, none, 0⟩
def EWZ_EVT_RTSTARVE : Field := ⟨0x400018, 0x10000, 0x0, 9, 9, .w1c, 0, false, none, 0⟩
def EWZ_EVT_MARGIN : Field := ⟨0x400018, 0x10000, 0x0, 8, 8, .w1c, 0, false, none, 0⟩
def EWZ_EVT_ZOMBIE : Field := ⟨0x400018, 0x10000, 0x0, 7, 7, .w1c, 0, false, none, 0⟩
def EWZ_EVT_RESUME : Field := ⟨0x400018, 0x10000, 0x0, 6, 6, .w1c, 0, false, none, 0⟩
def EWZ_EVT_BABBLE : Field := ⟨0x400018, 0x10000, 0x0, 5, 5, .w1c, 0, false, none, 0⟩
def EWZ_EVT_HUBEVT : Field := ⟨0x400018, 0x10000, 0x0, 4, 4, .w1c, 0, false, none, 0⟩
def EWZ_EVT_BNDSUSP : Field := ⟨0x400018, 0x10000, 0x0, 3, 3, .w1c, 0, false, none, 0⟩
def EWZ_EVT_TRAINFAIL : Field := ⟨0x400018, 0x10000, 0x0, 2, 2, .w1c, 0, false, none, 0⟩
def EWZ_EVT_DETACH : Field := ⟨0x400018, 0x10000, 0x0, 1, 1, .w1c, 0, false, none, 0⟩
def EWZ_EVT_LINKUP : Field := ⟨0x400018, 0x10000, 0x0, 0, 0, .w1c, 0, false, none, 0⟩
def EWZ_EVT : RegD := ⟨0x400018, 0x10000, 16, 0x0, 1, [EWZ_EVT_MISSEDSOF, EWZ_EVT_RECOV, EWZ_EVT_RTSTARVE, EWZ_EVT_MARGIN, EWZ_EVT_ZOMBIE, EWZ_EVT_RESUME, EWZ_EVT_BABBLE, EWZ_EVT_HUBEVT, EWZ_EVT_BNDSUSP, EWZ_EVT_TRAINFAIL, EWZ_EVT_DETACH, EWZ_EVT_LINKUP]⟩
/-! EWZ_EVTEN (02_*.md, R129) -/
def EWZ_EVTEN_EN : Field := ⟨0x40001C, 0x10000, 0x0, 11, 0, .rw, 0, false, none, 0⟩
def EWZ_EVTEN : RegD := ⟨0x40001C, 0x10000, 16, 0x0, 1, [EWZ_EVTEN_EN]⟩
/-! EWZ_CNT0 (02_*.md, R129) -/
def EWZ_CNT0_STALEGEN : Field := ⟨0x400020, 0x10000, 0x0, 31, 16, .cnt, 0, false, some (0x40002C, 1), 0⟩
def EWZ_CNT0_CRCERR : Field := ⟨0x400020, 0x10000, 0x0, 15, 0, .cnt, 0, false, some (0x40002C, 0), 0⟩
def EWZ_CNT0 : RegD := ⟨0x400020, 0x10000, 16, 0x0, 1, [EWZ_CNT0_STALEGEN, EWZ_CNT0_CRCERR]⟩
/-! EWZ_CNT1 (02_*.md, R129) -/
def EWZ_CNT1_RECOV : Field := ⟨0x400024, 0x10000, 0x0, 31, 16, .cnt, 0, false, some (0x40002C, 3), 0⟩
def EWZ_CNT1_RETRAIN : Field := ⟨0x400024, 0x10000, 0x0, 15, 0, .cnt, 0, false, some (0x40002C, 2), 0⟩
def EWZ_CNT1 : RegD := ⟨0x400024, 0x10000, 16, 0x0, 1, [EWZ_CNT1_RECOV, EWZ_CNT1_RETRAIN]⟩
/-! EWZ_CNT2 (02_*.md, R129) -/
def EWZ_CNT2_MISSEDSOF : Field := ⟨0x400028, 0x10000, 0x0, 31, 16, .cnt, 0, false, some (0x40002C, 5), 0⟩
def EWZ_CNT2_BADADDR : Field := ⟨0x400028, 0x10000, 0x0, 15, 0, .cnt, 0, false, some (0x40002C, 4), 0⟩
def EWZ_CNT2 : RegD := ⟨0x400028, 0x10000, 16, 0x0, 1, [EWZ_CNT2_MISSEDSOF, EWZ_CNT2_BADADDR]⟩
/-! EWZ_CNTCOLL (02_*.md, R129) -/
def EWZ_CNTCOLL_MISSEDSOF_COLL : Field := ⟨0x40002C, 0x10000, 0x0, 5, 5, .w1c, 0, false, none, 0⟩
def EWZ_CNTCOLL_BADADDR_COLL : Field := ⟨0x40002C, 0x10000, 0x0, 4, 4, .w1c, 0, false, none, 0⟩
def EWZ_CNTCOLL_RECOV_COLL : Field := ⟨0x40002C, 0x10000, 0x0, 3, 3, .w1c, 0, false, none, 0⟩
def EWZ_CNTCOLL_RETRAIN_COLL : Field := ⟨0x40002C, 0x10000, 0x0, 2, 2, .w1c, 0, false, none, 0⟩
def EWZ_CNTCOLL_STALEGEN_COLL : Field := ⟨0x40002C, 0x10000, 0x0, 1, 1, .w1c, 0, false, none, 0⟩
def EWZ_CNTCOLL_CRCERR_COLL : Field := ⟨0x40002C, 0x10000, 0x0, 0, 0, .w1c, 0, false, none, 0⟩
def EWZ_CNTCOLL : RegD := ⟨0x40002C, 0x10000, 16, 0x0, 1, [EWZ_CNTCOLL_MISSEDSOF_COLL, EWZ_CNTCOLL_BADADDR_COLL, EWZ_CNTCOLL_RECOV_COLL, EWZ_CNTCOLL_RETRAIN_COLL, EWZ_CNTCOLL_STALEGEN_COLL, EWZ_CNTCOLL_CRCERR_COLL]⟩
/-! EWZ_HUBPOLL (02_*.md, R129) -/
def EWZ_HUBPOLL_INTVL : Field := ⟨0x400030, 0x10000, 0x0, 7, 0, .rw, 8, false, none, 0⟩
def EWZ_HUBPOLL : RegD := ⟨0x400030, 0x10000, 16, 0x0, 1, [EWZ_HUBPOLL_INTVL]⟩
/-! EWZ_ENUM (02_*.md, R129) -/
def EWZ_ENUM_ADELAY0 : Field := ⟨0x400034, 0x10000, 0x0, 31, 16, .rw, 16000, false, none, 0⟩
def EWZ_ENUM_DEFOPEN : Field := ⟨0x400034, 0x10000, 0x0, 0, 0, .rw, 0, false, none, 0⟩
def EWZ_ENUM : RegD := ⟨0x400034, 0x10000, 16, 0x0, 1, [EWZ_ENUM_ADELAY0, EWZ_ENUM_DEFOPEN]⟩
/-! EWZ_ADDRTAB0 (02_*.md, R129) -/
def EWZ_ADDRTAB0_VALID : Field := ⟨0x400100, 0x10000, 0x8, 31, 31, .rw, 0, false, none, 0⟩
def EWZ_ADDRTAB0_LOST : Field := ⟨0x400100, 0x10000, 0x8, 30, 30, .rwh, 0, false, none, 0⟩
def EWZ_ADDRTAB0_HUB : Field := ⟨0x400100, 0x10000, 0x8, 29, 29, .rw, 0, false, none, 0⟩
def EWZ_ADDRTAB0_GEN : Field := ⟨0x400100, 0x10000, 0x8, 28, 25, .rw, 0, false, none, 0⟩
def EWZ_ADDRTAB0_TIER : Field := ⟨0x400100, 0x10000, 0x8, 24, 22, .rw, 0, false, none, 0⟩
def EWZ_ADDRTAB0_PARENT : Field := ⟨0x400100, 0x10000, 0x8, 21, 15, .rw, 0, false, none, 0⟩
def EWZ_ADDRTAB0_PPORT : Field := ⟨0x400100, 0x10000, 0x8, 14, 11, .rw, 0, false, none, 0⟩
def EWZ_ADDRTAB0_TOCNT : Field := ⟨0x400100, 0x10000, 0x8, 3, 0, .ro, 0, false, none, 0⟩
def EWZ_ADDRTAB0 : RegD := ⟨0x400100, 0x10000, 16, 0x8, 128, [EWZ_ADDRTAB0_VALID, EWZ_ADDRTAB0_LOST, EWZ_ADDRTAB0_HUB, EWZ_ADDRTAB0_GEN, EWZ_ADDRTAB0_TIER, EWZ_ADDRTAB0_PARENT, EWZ_ADDRTAB0_PPORT, EWZ_ADDRTAB0_TOCNT]⟩
/-! EWZ_ADDRTAB1 (02_*.md, R129) -/
def EWZ_ADDRTAB1_ADELAY : Field := ⟨0x400104, 0x10000, 0x8, 15, 0, .rw, 0, false, none, 0⟩
def EWZ_ADDRTAB1 : RegD := ⟨0x400104, 0x10000, 16, 0x8, 128, [EWZ_ADDRTAB1_ADELAY]⟩
/-! EWZ_LOST0 (02_*.md, R129) -/
def EWZ_LOST0_KEY : Field := ⟨0x400800, 0x10000, 0x20, 31, 0, .ro, 0, false, none, 0⟩
def EWZ_LOST0 : RegD := ⟨0x400800, 0x10000, 16, 0x20, 64, [EWZ_LOST0_KEY]⟩
/-! EWZ_LOST1 (02_*.md, R129) -/
def EWZ_LOST1_KEY : Field := ⟨0x400804, 0x10000, 0x20, 31, 0, .ro, 0, false, none, 0⟩
def EWZ_LOST1 : RegD := ⟨0x400804, 0x10000, 16, 0x20, 64, [EWZ_LOST1_KEY]⟩
/-! EWZ_LOST2 (02_*.md, R129) -/
def EWZ_LOST2_KEY : Field := ⟨0x400808, 0x10000, 0x20, 31, 0, .ro, 0, false, none, 0⟩
def EWZ_LOST2 : RegD := ⟨0x400808, 0x10000, 16, 0x20, 64, [EWZ_LOST2_KEY]⟩
/-! EWZ_LOST3 (02_*.md, R129) -/
def EWZ_LOST3_KEY : Field := ⟨0x40080C, 0x10000, 0x20, 31, 0, .ro, 0, false, none, 0⟩
def EWZ_LOST3 : RegD := ⟨0x40080C, 0x10000, 16, 0x20, 64, [EWZ_LOST3_KEY]⟩
/-! EWZ_LOST4 (02_*.md, R129) -/
def EWZ_LOST4_KEY : Field := ⟨0x400810, 0x10000, 0x20, 31, 0, .ro, 0, false, none, 0⟩
def EWZ_LOST4 : RegD := ⟨0x400810, 0x10000, 16, 0x20, 64, [EWZ_LOST4_KEY]⟩
/-! EWZ_LOST5 (02_*.md, R129) -/
def EWZ_LOST5_VALID : Field := ⟨0x400814, 0x10000, 0x20, 31, 31, .ro, 0, false, none, 0⟩
def EWZ_LOST5_ADDR : Field := ⟨0x400814, 0x10000, 0x20, 10, 4, .ro, 0, false, none, 0⟩
def EWZ_LOST5_GEN : Field := ⟨0x400814, 0x10000, 0x20, 3, 0, .ro, 0, false, none, 0⟩
def EWZ_LOST5 : RegD := ⟨0x400814, 0x10000, 16, 0x20, 64, [EWZ_LOST5_VALID, EWZ_LOST5_ADDR, EWZ_LOST5_GEN]⟩
/-! SCH_CTL (04_*.md, R228) -/
def SCH_CTL_LISTSYNC : Field := ⟨0x500000, 0x1000, 0x0, 2, 2, .w1s, 0, false, none, 0⟩
def SCH_CTL_BULKEN : Field := ⟨0x500000, 0x1000, 0x0, 1, 1, .rw, 0, false, none, 0⟩
def SCH_CTL_EN : Field := ⟨0x500000, 0x1000, 0x0, 0, 0, .rw, 0, false, none, 0⟩
def SCH_CTL : RegD := ⟨0x500000, 0x1000, 16, 0x0, 1, [SCH_CTL_LISTSYNC, SCH_CTL_BULKEN, SCH_CTL_EN]⟩
/-! SCH_PFLBASE (04_*.md, R228) -/
def SCH_PFLBASE_PEN : Field := ⟨0x500004, 0x1000, 0x0, 31, 31, .rw, 0, false, none, 0⟩
def SCH_PFLBASE_BASE : Field := ⟨0x500004, 0x1000, 0x0, 22, 12, .rw, 0, false, none, 0⟩
def SCH_PFLBASE : RegD := ⟨0x500004, 0x1000, 16, 0x0, 1, [SCH_PFLBASE_PEN, SCH_PFLBASE_BASE]⟩
/-! SCH_BULKHEAD (04_*.md, R228) -/
def SCH_BULKHEAD_EMPTY : Field := ⟨0x500008, 0x1000, 0x0, 31, 31, .rw, 1, false, none, 0⟩
def SCH_BULKHEAD_HEAD : Field := ⟨0x500008, 0x1000, 0x0, 22, 6, .rw, 0, false, none, 0⟩
def SCH_BULKHEAD : RegD := ⟨0x500008, 0x1000, 16, 0x0, 1, [SCH_BULKHEAD_EMPTY, SCH_BULKHEAD_HEAD]⟩
/-! SCH_BULKPOS (04_*.md, R228) -/
def SCH_BULKPOS_VALID : Field := ⟨0x50000C, 0x1000, 0x0, 31, 31, .ro, 0, false, none, 0⟩
def SCH_BULKPOS_POS : Field := ⟨0x50000C, 0x1000, 0x0, 22, 6, .ro, 0, false, none, 0⟩
def SCH_BULKPOS : RegD := ⟨0x50000C, 0x1000, 16, 0x0, 1, [SCH_BULKPOS_VALID, SCH_BULKPOS_POS]⟩
/-! SCH_PWMAX (04_*.md, R228) -/
def SCH_PWMAX_PWMAX : Field := ⟨0x500010, 0x1000, 0x0, 19, 0, .rw, 20000, false, none, 0⟩
def SCH_PWMAX : RegD := ⟨0x500010, 0x1000, 16, 0x0, 1, [SCH_PWMAX_PWMAX]⟩
/-! SCH_GLEN (04_*.md, R228) -/
def SCH_GLEN_GLEN : Field := ⟨0x500014, 0x1000, 0x0, 15, 0, .rw, 1000, false, none, 0⟩
def SCH_GLEN : RegD := ⟨0x500014, 0x1000, 16, 0x0, 1, [SCH_GLEN_GLEN]⟩
/-! SCH_RFXCFG (04_*.md, R228) -/
def SCH_RFXCFG_MAXOPEN : Field := ⟨0x500018, 0x1000, 0x0, 2, 0, .rw, 0, false, none, 0⟩
def SCH_RFXCFG : RegD := ⟨0x500018, 0x1000, 16, 0x0, 1, [SCH_RFXCFG_MAXOPEN]⟩
/-! SCH_RFXSTAT (04_*.md, R228) -/
def SCH_RFXSTAT_OPEN : Field := ⟨0x50001C, 0x1000, 0x0, 10, 8, .ro, 0, false, none, 0⟩
def SCH_RFXSTAT_SUSP_CLK : Field := ⟨0x50001C, 0x1000, 0x0, 2, 2, .w1c, 0, false, none, 0⟩
def SCH_RFXSTAT_SUSP_SWAP : Field := ⟨0x50001C, 0x1000, 0x0, 1, 1, .w1c, 0, false, none, 0⟩
def SCH_RFXSTAT_SUSP_LINK : Field := ⟨0x50001C, 0x1000, 0x0, 0, 0, .w1c, 0, false, none, 0⟩
def SCH_RFXSTAT : RegD := ⟨0x50001C, 0x1000, 16, 0x0, 1, [SCH_RFXSTAT_OPEN, SCH_RFXSTAT_SUSP_CLK, SCH_RFXSTAT_SUSP_SWAP, SCH_RFXSTAT_SUSP_LINK]⟩
/-! SCH_RFXMAX (04_*.md, R228) -/
def SCH_RFXMAX_MAXLAT : Field := ⟨0x500020, 0x1000, 0x0, 15, 0, .rc, 0, false, none, 0⟩
def SCH_RFXMAX : RegD := ⟨0x500020, 0x1000, 16, 0x0, 1, [SCH_RFXMAX_MAXLAT]⟩
/-! SCH_CANCEL (04_*.md, R228) -/
def SCH_CANCEL_GO : Field := ⟨0x500024, 0x1000, 0x0, 31, 31, .w1s, 0, false, none, 0⟩
def SCH_CANCEL_RESULT : Field := ⟨0x500024, 0x1000, 0x0, 30, 29, .ro, 0, false, none, 0⟩
def SCH_CANCEL_ADDR : Field := ⟨0x500024, 0x1000, 0x0, 22, 6, .rw, 0, false, none, 0⟩
def SCH_CANCEL : RegD := ⟨0x500024, 0x1000, 16, 0x0, 1, [SCH_CANCEL_GO, SCH_CANCEL_RESULT, SCH_CANCEL_ADDR]⟩
/-! SCH_PSTAT (04_*.md, R228) -/
def SCH_PSTAT_WSTATE : Field := ⟨0x500028, 0x1000, 0x0, 7, 5, .ro, 0, false, none, 0⟩
def SCH_PSTAT_CQLOST : Field := ⟨0x500028, 0x1000, 0x0, 3, 3, .w1c, 0, false, none, 0⟩
def SCH_PSTAT_LISTERR : Field := ⟨0x500028, 0x1000, 0x0, 2, 2, .w1c, 0, false, none, 0⟩
def SCH_PSTAT_FOVR : Field := ⟨0x500028, 0x1000, 0x0, 1, 1, .w1c, 0, false, none, 0⟩
def SCH_PSTAT_POVR : Field := ⟨0x500028, 0x1000, 0x0, 0, 0, .w1c, 0, false, none, 0⟩
def SCH_PSTAT : RegD := ⟨0x500028, 0x1000, 16, 0x0, 1, [SCH_PSTAT_WSTATE, SCH_PSTAT_CQLOST, SCH_PSTAT_LISTERR, SCH_PSTAT_FOVR, SCH_PSTAT_POVR]⟩
/-! SCH_PSUM (04_*.md, R228) -/
def SCH_PSUM_PSUM : Field := ⟨0x50002C, 0x1000, 0x0, 19, 0, .ro, 0, false, none, 0⟩
def SCH_PSUM : RegD := ⟨0x50002C, 0x1000, 16, 0x0, 1, [SCH_PSUM_PSUM]⟩
/-! SCH_LASTGRD (04_*.md, R228) -/
def SCH_LASTGRD_GLAST : Field := ⟨0x500030, 0x1000, 0x0, 19, 0, .ro, 0, false, none, 0⟩
def SCH_LASTGRD : RegD := ⟨0x500030, 0x1000, 16, 0x0, 1, [SCH_LASTGRD_GLAST]⟩
/-! SCH_PCNT0 (04_*.md, R228) -/
def SCH_PCNT0_SKIPPED : Field := ⟨0x500034, 0x1000, 0x0, 31, 16, .cnt, 0, false, some (0x500040, 1), 0⟩
def SCH_PCNT0_MISSED : Field := ⟨0x500034, 0x1000, 0x0, 15, 0, .cnt, 0, false, some (0x500040, 0), 0⟩
def SCH_PCNT0 : RegD := ⟨0x500034, 0x1000, 16, 0x0, 1, [SCH_PCNT0_SKIPPED, SCH_PCNT0_MISSED]⟩
/-! SCH_PCNT1 (04_*.md, R228) -/
def SCH_PCNT1_FOVR : Field := ⟨0x500038, 0x1000, 0x0, 31, 16, .cnt, 0, false, some (0x500040, 3), 0⟩
def SCH_PCNT1_EXPIRED : Field := ⟨0x500038, 0x1000, 0x0, 15, 0, .cnt, 0, false, some (0x500040, 2), 0⟩
def SCH_PCNT1 : RegD := ⟨0x500038, 0x1000, 16, 0x0, 1, [SCH_PCNT1_FOVR, SCH_PCNT1_EXPIRED]⟩
/-! SCH_PCNT2 (04_*.md, R228) -/
def SCH_PCNT2_SPOOF : Field := ⟨0x50003C, 0x1000, 0x0, 31, 16, .cnt, 0, false, some (0x500040, 5), 0⟩
def SCH_PCNT2_MALFORMED : Field := ⟨0x50003C, 0x1000, 0x0, 15, 0, .cnt, 0, false, some (0x500040, 4), 0⟩
def SCH_PCNT2 : RegD := ⟨0x50003C, 0x1000, 16, 0x0, 1, [SCH_PCNT2_SPOOF, SCH_PCNT2_MALFORMED]⟩
/-! SCH_PCNTCOLL (04_*.md, R228) -/
def SCH_PCNTCOLL_SPOOF_COLL : Field := ⟨0x500040, 0x1000, 0x0, 5, 5, .w1c, 0, false, none, 0⟩
def SCH_PCNTCOLL_MALFORMED_COLL : Field := ⟨0x500040, 0x1000, 0x0, 4, 4, .w1c, 0, false, none, 0⟩
def SCH_PCNTCOLL_FOVR_COLL : Field := ⟨0x500040, 0x1000, 0x0, 3, 3, .w1c, 0, false, none, 0⟩
def SCH_PCNTCOLL_EXPIRED_COLL : Field := ⟨0x500040, 0x1000, 0x0, 2, 2, .w1c, 0, false, none, 0⟩
def SCH_PCNTCOLL_SKIPPED_COLL : Field := ⟨0x500040, 0x1000, 0x0, 1, 1, .w1c, 0, false, none, 0⟩
def SCH_PCNTCOLL_MISSED_COLL : Field := ⟨0x500040, 0x1000, 0x0, 0, 0, .w1c, 0, false, none, 0⟩
def SCH_PCNTCOLL : RegD := ⟨0x500040, 0x1000, 16, 0x0, 1, [SCH_PCNTCOLL_SPOOF_COLL, SCH_PCNTCOLL_MALFORMED_COLL, SCH_PCNTCOLL_FOVR_COLL, SCH_PCNTCOLL_EXPIRED_COLL, SCH_PCNTCOLL_SKIPPED_COLL, SCH_PCNTCOLL_MISSED_COLL]⟩
/-! SCH_ANCHOR (04_*.md, R228) -/
def SCH_ANCHOR_EMPTY : Field := ⟨0x500100, 0x1000, 0x4, 31, 31, .rw, 1, false, none, 0⟩
def SCH_ANCHOR_HEAD : Field := ⟨0x500100, 0x1000, 0x4, 22, 6, .rw, 0, false, none, 0⟩
def SCH_ANCHOR : RegD := ⟨0x500100, 0x1000, 16, 0x4, 32, [SCH_ANCHOR_EMPTY, SCH_ANCHOR_HEAD]⟩
/-! TSC_CTL (05_*.md, R264) -/
def TSC_CTL_LOGEN : Field := ⟨0x600000, 0x0, 0x0, 2, 2, .rw, 0, false, none, 0⟩
def TSC_CTL_DETEN : Field := ⟨0x600000, 0x0, 0x0, 1, 1, .rw, 1, false, none, 0⟩
def TSC_CTL_EN : Field := ⟨0x600000, 0x0, 0x0, 0, 0, .rw, 0, false, none, 0⟩
def TSC_CTL : RegD := ⟨0x600000, 0x0, 1, 0x0, 1, [TSC_CTL_LOGEN, TSC_CTL_DETEN, TSC_CTL_EN]⟩
/-! TSC_STAT (05_*.md, R264) -/
def TSC_STAT_LOGFULL : Field := ⟨0x600004, 0x0, 0x0, 5, 5, .w1c, 0, false, none, 0⟩
def TSC_STAT_CYCLE : Field := ⟨0x600004, 0x0, 0x0, 4, 4, .w1c, 0, false, none, 0⟩
def TSC_STAT_ORPHAN : Field := ⟨0x600004, 0x0, 0x0, 3, 3, .w1c, 0, false, none, 0⟩
def TSC_STAT_CWERR : Field := ⟨0x600004, 0x0, 0x0, 2, 2, .w1c, 0, false, none, 0⟩
def TSC_STAT_DETRUN : Field := ⟨0x600004, 0x0, 0x0, 1, 1, .ro, 0, false, none, 0⟩
def TSC_STAT_QUIET : Field := ⟨0x600004, 0x0, 0x0, 0, 0, .ro, 1, false, none, 0⟩
def TSC_STAT : RegD := ⟨0x600004, 0x0, 1, 0x0, 1, [TSC_STAT_LOGFULL, TSC_STAT_CYCLE, TSC_STAT_ORPHAN, TSC_STAT_CWERR, TSC_STAT_DETRUN, TSC_STAT_QUIET]⟩
/-! TSC_CMD (05_*.md, R264) -/
def TSC_CMD_GO : Field := ⟨0x600008, 0x0, 0x0, 31, 31, .w1s, 0, false, none, 0⟩
def TSC_CMD_RESULT : Field := ⟨0x600008, 0x0, 0x0, 30, 28, .ro, 0, false, none, 0⟩
def TSC_CMD_OP : Field := ⟨0x600008, 0x0, 0x0, 19, 16, .rw, 0, false, none, 0⟩
def TSC_CMD_CAIRN : Field := ⟨0x600008, 0x0, 0x0, 15, 0, .rw, 0, false, none, 0⟩
def TSC_CMD : RegD := ⟨0x600008, 0x0, 1, 0x0, 1, [TSC_CMD_GO, TSC_CMD_RESULT, TSC_CMD_OP, TSC_CMD_CAIRN]⟩
/-! TSC_CRBASELO (05_*.md, R264) -/
def TSC_CRBASELO_BASE : Field := ⟨0x600010, 0x0, 0x0, 31, 4, .rw, 0, false, none, 0⟩
def TSC_CRBASELO : RegD := ⟨0x600010, 0x0, 1, 0x0, 1, [TSC_CRBASELO_BASE]⟩
/-! TSC_CRBASEHI (05_*.md, R264) -/
def TSC_CRBASEHI_BASE_HI : Field := ⟨0x600014, 0x0, 0x0, 7, 0, .rw, 0, false, none, 0⟩
def TSC_CRBASEHI : RegD := ⟨0x600014, 0x0, 1, 0x0, 1, [TSC_CRBASEHI_BASE_HI]⟩
/-! TSC_CRSIZE (05_*.md, R264) -/
def TSC_CRSIZE_LOG2N : Field := ⟨0x600018, 0x0, 0x0, 4, 0, .rw, 10, false, none, 0⟩
def TSC_CRSIZE : RegD := ⟨0x600018, 0x0, 1, 0x0, 1, [TSC_CRSIZE_LOG2N]⟩
/-! TSC_CRHEAD (05_*.md, R264) -/
def TSC_CRHEAD_PHASE : Field := ⟨0x60001C, 0x0, 0x0, 31, 31, .ro, 1, false, none, 0⟩
def TSC_CRHEAD_HEAD : Field := ⟨0x60001C, 0x0, 0x0, 19, 0, .ro, 0, false, none, 0⟩
def TSC_CRHEAD : RegD := ⟨0x60001C, 0x0, 1, 0x0, 1, [TSC_CRHEAD_PHASE, TSC_CRHEAD_HEAD]⟩
/-! TSC_CRTAIL (05_*.md, R264) -/
def TSC_CRTAIL_TAIL : Field := ⟨0x600020, 0x0, 0x0, 19, 0, .rw, 0, false, none, 0⟩
def TSC_CRTAIL : RegD := ⟨0x600020, 0x0, 1, 0x0, 1, [TSC_CRTAIL_TAIL]⟩
/-! TSC_TMRSTAT (05_*.md, R264) -/
def TSC_TMRSTAT_FULL : Field := ⟨0x600024, 0x0, 0x0, 15, 15, .ro, 0, false, none, 0⟩
def TSC_TMRSTAT_ARMED : Field := ⟨0x600024, 0x0, 0x0, 14, 0, .ro, 0, false, none, 0⟩
def TSC_TMRSTAT : RegD := ⟨0x600024, 0x0, 1, 0x0, 1, [TSC_TMRSTAT_FULL, TSC_TMRSTAT_ARMED]⟩
/-! TSC_LASTCYC (05_*.md, R264) -/
def TSC_LASTCYC_VALID : Field := ⟨0x600028, 0x0, 0x0, 31, 31, .ro, 0, false, none, 0⟩
def TSC_LASTCYC_LEN : Field := ⟨0x600028, 0x0, 0x0, 24, 16, .ro, 0, false, none, 0⟩
def TSC_LASTCYC_CAIRN : Field := ⟨0x600028, 0x0, 0x0, 15, 0, .ro, 0, false, none, 0⟩
def TSC_LASTCYC : RegD := ⟨0x600028, 0x0, 1, 0x0, 1, [TSC_LASTCYC_VALID, TSC_LASTCYC_LEN, TSC_LASTCYC_CAIRN]⟩
/-! TSC_CNT0 (05_*.md, R264) -/
def TSC_CNT0_ORPHAN : Field := ⟨0x60002C, 0x0, 0x0, 31, 16, .cnt, 0, false, some (0x600034, 1), 0⟩
def TSC_CNT0_CYCLES : Field := ⟨0x60002C, 0x0, 0x0, 15, 0, .cnt, 0, false, some (0x600034, 0), 0⟩
def TSC_CNT0 : RegD := ⟨0x60002C, 0x0, 1, 0x0, 1, [TSC_CNT0_ORPHAN, TSC_CNT0_CYCLES]⟩
/-! TSC_CNT1 (05_*.md, R264) -/
def TSC_CNT1_SENDBUSY : Field := ⟨0x600030, 0x0, 0x0, 31, 16, .cnt, 0, false, some (0x600034, 3), 0⟩
def TSC_CNT1_LOGLOST : Field := ⟨0x600030, 0x0, 0x0, 15, 0, .cnt, 0, false, some (0x600034, 2), 0⟩
def TSC_CNT1 : RegD := ⟨0x600030, 0x0, 1, 0x0, 1, [TSC_CNT1_SENDBUSY, TSC_CNT1_LOGLOST]⟩
/-! TSC_CNTCOLL (05_*.md, R264) -/
def TSC_CNTCOLL_SENDBUSY_COLL : Field := ⟨0x600034, 0x0, 0x0, 3, 3, .w1c, 0, false, none, 0⟩
def TSC_CNTCOLL_LOGLOST_COLL : Field := ⟨0x600034, 0x0, 0x0, 2, 2, .w1c, 0, false, none, 0⟩
def TSC_CNTCOLL_ORPHAN_COLL : Field := ⟨0x600034, 0x0, 0x0, 1, 1, .w1c, 0, false, none, 0⟩
def TSC_CNTCOLL_CYCLES_COLL : Field := ⟨0x600034, 0x0, 0x0, 0, 0, .w1c, 0, false, none, 0⟩
def TSC_CNTCOLL : RegD := ⟨0x600034, 0x0, 1, 0x0, 1, [TSC_CNTCOLL_SENDBUSY_COLL, TSC_CNTCOLL_LOGLOST_COLL, TSC_CNTCOLL_ORPHAN_COLL, TSC_CNTCOLL_CYCLES_COLL]⟩
/-! TSC_RDYCNT (05_*.md, R264) -/
def TSC_RDYCNT_COUNT : Field := ⟨0x600040, 0x4, 0x0, 16, 0, .ro, 0, false, none, 0⟩
def TSC_RDYCNT : RegD := ⟨0x600040, 0x4, 8, 0x0, 1, [TSC_RDYCNT_COUNT]⟩
/-! TSC_MKROUTE (05_*.md, R264) -/
def TSC_MKROUTE_EN : Field := ⟨0x600100, 0x4, 0x0, 31, 31, .rw, 0, false, none, 0⟩
def TSC_MKROUTE_SLOT : Field := ⟨0x600100, 0x4, 0x0, 18, 16, .rw, 0, false, none, 0⟩
def TSC_MKROUTE_CAIRN : Field := ⟨0x600100, 0x4, 0x0, 15, 0, .rw, 0, false, none, 0⟩
def TSC_MKROUTE : RegD := ⟨0x600100, 0x4, 32, 0x0, 1, [TSC_MKROUTE_EN, TSC_MKROUTE_SLOT, TSC_MKROUTE_CAIRN]⟩
/-! TSC_ROPECFG (05_*.md, R264) -/
def TSC_ROPECFG_RFXACT : Field := ⟨0x600200, 0x4, 0x0, 16, 16, .ro, 1, false, none, 0⟩
def TSC_ROPECFG_RFXN : Field := ⟨0x600200, 0x4, 0x0, 2, 0, .rw, 0, false, none, 0⟩
def TSC_ROPECFG : RegD := ⟨0x600200, 0x4, 32, 0x0, 1, [TSC_ROPECFG_RFXACT, TSC_ROPECFG_RFXN]⟩
/-! TSC_FLOW (05_*.md, R264) -/
def TSC_FLOW_HELD : Field := ⟨0x601000, 0x4, 0x0, 31, 31, .ro, 0, false, none, 0⟩
def TSC_FLOW_QLEN : Field := ⟨0x601000, 0x4, 0x0, 27, 16, .ro, 0, false, none, 0⟩
def TSC_FLOW_HOLDER : Field := ⟨0x601000, 0x4, 0x0, 15, 0, .ro, 0, false, none, 0⟩
def TSC_FLOW : RegD := ⟨0x601000, 0x4, 4096, 0x0, 1, [TSC_FLOW_HELD, TSC_FLOW_QLEN, TSC_FLOW_HOLDER]⟩
/-! ENG_RCTL (06_*.md, R311) -/
def ENG_RCTL_HBPER : Field := ⟨0x1000000, 0x80000, 0x0, 15, 8, .rw, 100, false, none, 0⟩
def ENG_RCTL : RegD := ⟨0x1000000, 0x80000, 32, 0x0, 1, [ENG_RCTL_HBPER]⟩
/-! ENG_RSTAT (06_*.md, R311) -/
def ENG_RSTAT_SWAP : Field := ⟨0x1000004, 0x80000, 0x0, 8, 8, .ro, 0, false, none, 0⟩
def ENG_RSTAT_RESV : Field := ⟨0x1000004, 0x80000, 0x0, 5, 0, .ro, 32, false, none, 0⟩
def ENG_RSTAT : RegD := ⟨0x1000004, 0x80000, 32, 0x0, 1, [ENG_RSTAT_SWAP, ENG_RSTAT_RESV]⟩
/-! ENG_ACCADDR (06_*.md, R311) -/
def ENG_ACCADDR_AUTOINC : Field := ⟨0x1000010, 0x80000, 0x0, 31, 31, .rw, 0, false, none, 0⟩
def ENG_ACCADDR_ERR : Field := ⟨0x1000010, 0x80000, 0x0, 30, 30, .w1c, 0, false, none, 0⟩
def ENG_ACCADDR_SLOT : Field := ⟨0x1000010, 0x80000, 0x0, 29, 24, .rw, 0, false, none, 0⟩
def ENG_ACCADDR_REGION : Field := ⟨0x1000010, 0x80000, 0x0, 23, 22, .rw, 0, false, none, 0⟩
def ENG_ACCADDR_OFFSET : Field := ⟨0x1000010, 0x80000, 0x0, 18, 2, .rwh, 0, false, none, 0⟩
def ENG_ACCADDR : RegD := ⟨0x1000010, 0x80000, 32, 0x0, 1, [ENG_ACCADDR_AUTOINC, ENG_ACCADDR_ERR, ENG_ACCADDR_SLOT, ENG_ACCADDR_REGION, ENG_ACCADDR_OFFSET]⟩
/-! ENG_ACCDATA (06_*.md, R311) -/
def ENG_ACCDATA_DATA : Field := ⟨0x1000014, 0x80000, 0x0, 31, 0, .rw, 0, false, none, 0⟩
def ENG_ACCDATA : RegD := ⟨0x1000014, 0x80000, 32, 0x0, 1, [ENG_ACCDATA_DATA]⟩
/-! ENG_CTL (06_*.md, R312) -/
def ENG_CTL_CLOAD : Field := ⟨0x1001000, 0x80000, 0x40, 31, 31, .rw, 0, false, none, 0⟩
def ENG_CTL_WST : Field := ⟨0x1001000, 0x80000, 0x40, 17, 16, .rw, 0, false, none, 0⟩
def ENG_CTL_CGRP : Field := ⟨0x1001000, 0x80000, 0x40, 15, 8, .rw, 0, false, none, 0⟩
def ENG_CTL_TRAPDZ : Field := ⟨0x1001000, 0x80000, 0x40, 0, 0, .rw, 0, false, none, 0⟩
def ENG_CTL : RegD := ⟨0x1001000, 0x80000, 32, 0x40, 32, [ENG_CTL_CLOAD, ENG_CTL_WST, ENG_CTL_CGRP, ENG_CTL_TRAPDZ]⟩
/-! ENG_OWN (06_*.md, R312) -/
def ENG_OWN_OWNEN : Field := ⟨0x1001004, 0x80000, 0x40, 7, 7, .rw, 0, false, none, 0⟩
def ENG_OWN_INST : Field := ⟨0x1001004, 0x80000, 0x40, 6, 0, .rw, 0, false, none, 0⟩
def ENG_OWN : RegD := ⟨0x1001004, 0x80000, 32, 0x40, 32, [ENG_OWN_OWNEN, ENG_OWN_INST]⟩
/-! ENG_XVEC (06_*.md, R312) -/
def ENG_XVEC_XEN : Field := ⟨0x1001008, 0x80000, 0x40, 31, 31, .rw, 0, false, none, 0⟩
def ENG_XVEC_VEC : Field := ⟨0x1001008, 0x80000, 0x40, 11, 0, .rw, 0, false, none, 0⟩
def ENG_XVEC : RegD := ⟨0x1001008, 0x80000, 32, 0x40, 32, [ENG_XVEC_XEN, ENG_XVEC_VEC]⟩
/-! ENG_RUNLIM (06_*.md, R312) -/
def ENG_RUNLIM_LIMIT : Field := ⟨0x100100C, 0x80000, 0x40, 31, 0, .rw, 0, false, none, 0⟩
def ENG_RUNLIM : RegD := ⟨0x100100C, 0x80000, 32, 0x40, 32, [ENG_RUNLIM_LIMIT]⟩
/-! ENG_STAT (06_*.md, R312) -/
def ENG_STAT_PSTATE : Field := ⟨0x1001010, 0x80000, 0x40, 31, 29, .ro, 0, false, none, 0⟩
def ENG_STAT_TSTATE : Field := ⟨0x1001010, 0x80000, 0x40, 28, 26, .ro, 0, false, none, 0⟩
def ENG_STAT_PREF : Field := ⟨0x1001010, 0x80000, 0x40, 25, 25, .ro, 0, false, none, 0⟩
def ENG_STAT_PHYS : Field := ⟨0x1001010, 0x80000, 0x40, 21, 16, .ro, 0, false, none, 1⟩
def ENG_STAT_CAIRN : Field := ⟨0x1001010, 0x80000, 0x40, 15, 0, .ro, 0, false, none, 0⟩
def ENG_STAT : RegD := ⟨0x1001010, 0x80000, 32, 0x40, 32, [ENG_STAT_PSTATE, ENG_STAT_TSTATE, ENG_STAT_PREF, ENG_STAT_PHYS, ENG_STAT_CAIRN]⟩
/-! ENG_XSTAT (06_*.md, R312) -/
def ENG_XSTAT_VALID : Field := ⟨0x1001014, 0x80000, 0x40, 31, 31, .w1c, 0, false, none, 0⟩
def ENG_XSTAT_OVF : Field := ⟨0x1001014, 0x80000, 0x40, 30, 30, .w1c, 0, false, none, 0⟩
def ENG_XSTAT_CAUSE : Field := ⟨0x1001014, 0x80000, 0x40, 29, 26, .ro, 0, false, none, 0⟩
def ENG_XSTAT_XPC : Field := ⟨0x1001014, 0x80000, 0x40, 25, 14, .ro, 0, false, none, 0⟩
def ENG_XSTAT : RegD := ⟨0x1001014, 0x80000, 32, 0x40, 32, [ENG_XSTAT_VALID, ENG_XSTAT_OVF, ENG_XSTAT_CAUSE, ENG_XSTAT_XPC]⟩
/-! ENG_XCAIRN (06_*.md, R312) -/
def ENG_XCAIRN_CAIRN : Field := ⟨0x1001018, 0x80000, 0x40, 15, 0, .ro, 0, false, none, 0⟩
def ENG_XCAIRN : RegD := ⟨0x1001018, 0x80000, 32, 0x40, 32, [ENG_XCAIRN_CAIRN]⟩
/-! ENG_XADDR (06_*.md, R312) -/
def ENG_XADDR_ADDR : Field := ⟨0x100101C, 0x80000, 0x40, 31, 0, .ro, 0, false, none, 0⟩
def ENG_XADDR : RegD := ⟨0x100101C, 0x80000, 32, 0x40, 32, [ENG_XADDR_ADDR]⟩
/-! ENG_ESTAT (06_*.md, R312) -/
def ENG_ESTAT_SWATTN : Field := ⟨0x1001020, 0x80000, 0x40, 3, 3, .w1c, 0, false, none, 0⟩
def ENG_ESTAT_DBGHALT : Field := ⟨0x1001020, 0x80000, 0x40, 2, 2, .w1c, 0, false, none, 0⟩
def ENG_ESTAT_WDOG : Field := ⟨0x1001020, 0x80000, 0x40, 1, 1, .w1c, 0, false, none, 0⟩
def ENG_ESTAT_FAULT : Field := ⟨0x1001020, 0x80000, 0x40, 0, 0, .w1c, 0, false, none, 0⟩
def ENG_ESTAT : RegD := ⟨0x1001020, 0x80000, 32, 0x40, 32, [ENG_ESTAT_SWATTN, ENG_ESTAT_DBGHALT, ENG_ESTAT_WDOG, ENG_ESTAT_FAULT]⟩
/-! ENG_ESTEN (06_*.md, R312) -/
def ENG_ESTEN_EN : Field := ⟨0x1001024, 0x80000, 0x40, 3, 0, .rw, 0, false, none, 0⟩
def ENG_ESTEN : RegD := ⟨0x1001024, 0x80000, 32, 0x40, 32, [ENG_ESTEN_EN]⟩
/-! ENG_CNT0 (06_*.md, R312) -/
def ENG_CNT0_THREADS : Field := ⟨0x1001028, 0x80000, 0x40, 31, 16, .cnt, 0, true, some (0x1001030, 3), 0⟩
def ENG_CNT0_FAULTS : Field := ⟨0x1001028, 0x80000, 0x40, 15, 0, .cnt, 0, false, some (0x1001030, 2), 0⟩
def ENG_CNT0 : RegD := ⟨0x1001028, 0x80000, 32, 0x40, 32, [ENG_CNT0_THREADS, ENG_CNT0_FAULTS]⟩
/-! ENG_CNT1 (06_*.md, R312) -/
def ENG_CNT1_HANDLED : Field := ⟨0x100102C, 0x80000, 0x40, 31, 16, .cnt, 0, false, some (0x1001030, 1), 0⟩
def ENG_CNT1_PARERR : Field := ⟨0x100102C, 0x80000, 0x40, 15, 0, .cnt, 0, false, some (0x1001030, 0), 0⟩
def ENG_CNT1 : RegD := ⟨0x100102C, 0x80000, 32, 0x40, 32, [ENG_CNT1_HANDLED, ENG_CNT1_PARERR]⟩
/-! ENG_CNTCOLL (06_*.md, R312) -/
def ENG_CNTCOLL_THREADS_COLL : Field := ⟨0x1001030, 0x80000, 0x40, 3, 3, .w1c, 0, false, none, 0⟩
def ENG_CNTCOLL_FAULTS_COLL : Field := ⟨0x1001030, 0x80000, 0x40, 2, 2, .w1c, 0, false, none, 0⟩
def ENG_CNTCOLL_HANDLED_COLL : Field := ⟨0x1001030, 0x80000, 0x40, 1, 1, .w1c, 0, false, none, 0⟩
def ENG_CNTCOLL_PARERR_COLL : Field := ⟨0x1001030, 0x80000, 0x40, 0, 0, .w1c, 0, false, none, 0⟩
def ENG_CNTCOLL : RegD := ⟨0x1001030, 0x80000, 32, 0x40, 32, [ENG_CNTCOLL_THREADS_COLL, ENG_CNTCOLL_FAULTS_COLL, ENG_CNTCOLL_HANDLED_COLL, ENG_CNTCOLL_PARERR_COLL]⟩
/-! ENG_DBG (06_*.md, R312) -/
def ENG_DBG_DBGEN : Field := ⟨0x1001034, 0x80000, 0x40, 31, 31, .rw, 0, false, none, 0⟩
def ENG_DBG_RESUME : Field := ⟨0x1001034, 0x80000, 0x40, 3, 3, .w1s, 0, false, none, 0⟩
def ENG_DBG_STEP : Field := ⟨0x1001034, 0x80000, 0x40, 2, 2, .w1s, 0, false, none, 0⟩
def ENG_DBG_HALTREQ : Field := ⟨0x1001034, 0x80000, 0x40, 1, 1, .w1s, 0, false, none, 0⟩
def ENG_DBG_HALTED : Field := ⟨0x1001034, 0x80000, 0x40, 0, 0, .ro, 0, false, none, 0⟩
def ENG_DBG : RegD := ⟨0x1001034, 0x80000, 32, 0x40, 32, [ENG_DBG_DBGEN, ENG_DBG_RESUME, ENG_DBG_STEP, ENG_DBG_HALTREQ, ENG_DBG_HALTED]⟩
/-! ENG_DBGPC (06_*.md, R312) -/
def ENG_DBGPC_PC : Field := ⟨0x1001038, 0x80000, 0x40, 11, 0, .ro, 0, false, none, 0⟩
def ENG_DBGPC : RegD := ⟨0x1001038, 0x80000, 32, 0x40, 32, [ENG_DBGPC_PC]⟩
/-! HPC_PCTL (08_*.md, R388) -/
def HPC_PCTL_MAXW : Field := ⟨0x80000, 0x1000, 0x0, 9, 8, .rw, 0, false, none, 0⟩
def HPC_PCTL_MAXSPD : Field := ⟨0x80000, 0x1000, 0x0, 6, 4, .rw, 5, false, none, 0⟩
def HPC_PCTL_RETRAIN : Field := ⟨0x80000, 0x1000, 0x0, 0, 0, .w1s, 0, false, none, 0⟩
def HPC_PCTL : RegD := ⟨0x80000, 0x1000, 4, 0x0, 1, [HPC_PCTL_MAXW, HPC_PCTL_MAXSPD, HPC_PCTL_RETRAIN]⟩
/-! HPC_PSTAT (08_*.md, R388) -/
def HPC_PSTAT_DLUP : Field := ⟨0x80004, 0x1000, 0x0, 31, 31, .ro, 0, false, none, 0⟩
def HPC_PSTAT_WIDTH : Field := ⟨0x80004, 0x1000, 0x0, 19, 16, .ro, 0, false, none, 0⟩
def HPC_PSTAT_SPEED : Field := ⟨0x80004, 0x1000, 0x0, 14, 12, .ro, 0, false, none, 0⟩
def HPC_PSTAT_VFEN : Field := ⟨0x80004, 0x1000, 0x0, 6, 6, .ro, 0, false, none, 0⟩
def HPC_PSTAT_NUMVF : Field := ⟨0x80004, 0x1000, 0x0, 5, 0, .ro, 0, false, none, 0⟩
def HPC_PSTAT : RegD := ⟨0x80004, 0x1000, 4, 0x0, 1, [HPC_PSTAT_DLUP, HPC_PSTAT_WIDTH, HPC_PSTAT_SPEED, HPC_PSTAT_VFEN, HPC_PSTAT_NUMVF]⟩
/-! HPC_GRANT0 (08_*.md, R388) -/
def HPC_GRANT0_BLK : Field := ⟨0x80008, 0x1000, 0x0, 15, 0, .rw, 0, false, none, 0⟩
def HPC_GRANT0 : RegD := ⟨0x80008, 0x1000, 4, 0x0, 1, [HPC_GRANT0_BLK]⟩
/-! HPC_GRANT1 (08_*.md, R388) -/
def HPC_GRANT1_EWZ : Field := ⟨0x8000C, 0x1000, 0x0, 15, 0, .rw, 0, false, none, 0⟩
def HPC_GRANT1 : RegD := ⟨0x8000C, 0x1000, 4, 0x0, 1, [HPC_GRANT1_EWZ]⟩
/-! HPC_GRANT2 (08_*.md, R388) -/
def HPC_GRANT2_ENG : Field := ⟨0x80010, 0x1000, 0x0, 31, 0, .rw, 0, false, none, 0⟩
def HPC_GRANT2 : RegD := ⟨0x80010, 0x1000, 4, 0x0, 1, [HPC_GRANT2_ENG]⟩
/-! HPC_GRANTRO (08_*.md, R388) -/
def HPC_GRANTRO_RO : Field := ⟨0x80014, 0x1000, 0x0, 15, 0, .rw, 0, false, none, 0⟩
def HPC_GRANTRO : RegD := ⟨0x80014, 0x1000, 4, 0x0, 1, [HPC_GRANTRO_RO]⟩
/-! HPC_ERR (08_*.md, R388) -/
def HPC_ERR_ATSFAIL : Field := ⟨0x80018, 0x1000, 0x0, 6, 6, .w1c, 0, false, none, 0⟩
def HPC_ERR_MALF : Field := ⟨0x80018, 0x1000, 0x0, 5, 5, .w1c, 0, false, none, 0⟩
def HPC_ERR_CA : Field := ⟨0x80018, 0x1000, 0x0, 4, 4, .w1c, 0, false, none, 0⟩
def HPC_ERR_UR : Field := ⟨0x80018, 0x1000, 0x0, 3, 3, .w1c, 0, false, none, 0⟩
def HPC_ERR_CTO : Field := ⟨0x80018, 0x1000, 0x0, 2, 2, .w1c, 0, false, none, 0⟩
def HPC_ERR_POISONTX : Field := ⟨0x80018, 0x1000, 0x0, 1, 1, .w1c, 0, false, none, 0⟩
def HPC_ERR_POISONRX : Field := ⟨0x80018, 0x1000, 0x0, 0, 0, .w1c, 0, false, none, 0⟩
def HPC_ERR : RegD := ⟨0x80018, 0x1000, 4, 0x0, 1, [HPC_ERR_ATSFAIL, HPC_ERR_MALF, HPC_ERR_CA, HPC_ERR_UR, HPC_ERR_CTO, HPC_ERR_POISONTX, HPC_ERR_POISONRX]⟩
/-! HPC_CNT0 (08_*.md, R388) -/
def HPC_CNT0_POISONRX : Field := ⟨0x8001C, 0x1000, 0x0, 31, 16, .cnt, 0, false, some (0x80024, 3), 0⟩
def HPC_CNT0_POISONTX : Field := ⟨0x8001C, 0x1000, 0x0, 15, 0, .cnt, 0, false, some (0x80024, 2), 0⟩
def HPC_CNT0 : RegD := ⟨0x8001C, 0x1000, 4, 0x0, 1, [HPC_CNT0_POISONRX, HPC_CNT0_POISONTX]⟩
/-! HPC_CNT1 (08_*.md, R388) -/
def HPC_CNT1_CTO : Field := ⟨0x80020, 0x1000, 0x0, 31, 16, .cnt, 0, false, some (0x80024, 1), 0⟩
def HPC_CNT1_DROPCPL : Field := ⟨0x80020, 0x1000, 0x0, 15, 0, .cnt, 0, false, some (0x80024, 0), 0⟩
def HPC_CNT1 : RegD := ⟨0x80020, 0x1000, 4, 0x0, 1, [HPC_CNT1_CTO, HPC_CNT1_DROPCPL]⟩
/-! HPC_CNTCOLL (08_*.md, R388) -/
def HPC_CNTCOLL_POISONRX_COLL : Field := ⟨0x80024, 0x1000, 0x0, 3, 3, .w1c, 0, false, none, 0⟩
def HPC_CNTCOLL_POISONTX_COLL : Field := ⟨0x80024, 0x1000, 0x0, 2, 2, .w1c, 0, false, none, 0⟩
def HPC_CNTCOLL_CTO_COLL : Field := ⟨0x80024, 0x1000, 0x0, 1, 1, .w1c, 0, false, none, 0⟩
def HPC_CNTCOLL_DROPCPL_COLL : Field := ⟨0x80024, 0x1000, 0x0, 0, 0, .w1c, 0, false, none, 0⟩
def HPC_CNTCOLL : RegD := ⟨0x80024, 0x1000, 4, 0x0, 1, [HPC_CNTCOLL_POISONRX_COLL, HPC_CNTCOLL_POISONTX_COLL, HPC_CNTCOLL_CTO_COLL, HPC_CNTCOLL_DROPCPL_COLL]⟩
/-! HPC_FLR (08_*.md, R388) -/
def HPC_FLR_PEND : Field := ⟨0x80028, 0x1000, 0x0, 31, 0, .ro, 0, false, none, 0⟩
def HPC_FLR : RegD := ⟨0x80028, 0x1000, 4, 0x0, 1, [HPC_FLR_PEND]⟩
/-! VIM_STAT (08_*.md, R390) -/
def VIM_STAT_VLOGFULL : Field := ⟨0xC0000, 0x0, 0x0, 1, 1, .w1c, 0, false, none, 0⟩
def VIM_STAT_OVLERR : Field := ⟨0xC0000, 0x0, 0x0, 0, 0, .w1c, 0, false, none, 0⟩
def VIM_STAT : RegD := ⟨0xC0000, 0x0, 1, 0x0, 1, [VIM_STAT_VLOGFULL, VIM_STAT_OVLERR]⟩
/-! VIM_VLOGHEAD (08_*.md, R390) -/
def VIM_VLOGHEAD_HEAD : Field := ⟨0xC0004, 0x0, 0x0, 3, 0, .ro, 0, false, none, 0⟩
def VIM_VLOGHEAD : RegD := ⟨0xC0004, 0x0, 1, 0x0, 1, [VIM_VLOGHEAD_HEAD]⟩
/-! VIM_VLOGTAIL (08_*.md, R390) -/
def VIM_VLOGTAIL_TAIL : Field := ⟨0xC0008, 0x0, 0x0, 3, 0, .rw, 0, false, none, 0⟩
def VIM_VLOGTAIL : RegD := ⟨0xC0008, 0x0, 1, 0x0, 1, [VIM_VLOGTAIL_TAIL]⟩
/-! VIM_CNT (08_*.md, R390) -/
def VIM_CNT_VIOL : Field := ⟨0xC000C, 0x0, 0x0, 31, 16, .cnt, 0, false, some (0xC0010, 1), 0⟩
def VIM_CNT_VLOST : Field := ⟨0xC000C, 0x0, 0x0, 15, 0, .cnt, 0, false, some (0xC0010, 0), 0⟩
def VIM_CNT : RegD := ⟨0xC000C, 0x0, 1, 0x0, 1, [VIM_CNT_VIOL, VIM_CNT_VLOST]⟩
/-! VIM_CNTCOLL (08_*.md, R390) -/
def VIM_CNTCOLL_VIOL_COLL : Field := ⟨0xC0010, 0x0, 0x0, 1, 1, .w1c, 0, false, none, 0⟩
def VIM_CNTCOLL_VLOST_COLL : Field := ⟨0xC0010, 0x0, 0x0, 0, 0, .w1c, 0, false, none, 0⟩
def VIM_CNTCOLL : RegD := ⟨0xC0010, 0x0, 1, 0x0, 1, [VIM_CNTCOLL_VIOL_COLL, VIM_CNTCOLL_VLOST_COLL]⟩
/-! VIM_ATTN (08_*.md, R390) -/
def VIM_ATTN_ATTN : Field := ⟨0xC0020, 0x4, 0x0, 31, 0, .ro, 0, false, none, 0⟩
def VIM_ATTN : RegD := ⟨0xC0020, 0x4, 4, 0x0, 1, [VIM_ATTN_ATTN]⟩
/-! VIM_ISTATE (08_*.md, R390) -/
def VIM_ISTATE_LEGACY : Field := ⟨0xC1000, 0x40, 0x0, 23, 23, .rw, 0, false, none, 0⟩
def VIM_ISTATE_AUTORST : Field := ⟨0xC1000, 0x40, 0x0, 22, 22, .rw, 1, false, none, 0⟩
def VIM_ISTATE_FLR : Field := ⟨0xC1000, 0x40, 0x0, 15, 15, .w1c, 0, false, none, 0⟩
def VIM_ISTATE_VFGONE : Field := ⟨0xC1000, 0x40, 0x0, 14, 14, .w1c, 0, false, none, 0⟩
def VIM_ISTATE_SELFRST : Field := ⟨0xC1000, 0x40, 0x0, 13, 13, .w1c, 0, false, none, 0⟩
def VIM_ISTATE_CONTAIN : Field := ⟨0xC1000, 0x40, 0x0, 12, 12, .w1c, 0, false, none, 0⟩
def VIM_ISTATE_QDONE : Field := ⟨0xC1000, 0x40, 0x0, 11, 11, .w1c, 0, false, none, 0⟩
def VIM_ISTATE_STATE : Field := ⟨0xC1000, 0x40, 0x0, 2, 0, .ro, 0, false, none, 2⟩
def VIM_ISTATE : RegD := ⟨0xC1000, 0x40, 128, 0x0, 1, [VIM_ISTATE_LEGACY, VIM_ISTATE_AUTORST, VIM_ISTATE_FLR, VIM_ISTATE_VFGONE, VIM_ISTATE_SELFRST, VIM_ISTATE_CONTAIN, VIM_ISTATE_QDONE, VIM_ISTATE_STATE]⟩
/-! VIM_ICAIRN (08_*.md, R390) -/
def VIM_ICAIRN_LIMIT : Field := ⟨0xC1004, 0x40, 0x0, 31, 16, .rw, 0, false, none, 0⟩
def VIM_ICAIRN_BASE : Field := ⟨0xC1004, 0x40, 0x0, 15, 0, .rw, 65535, false, none, 0⟩
def VIM_ICAIRN : RegD := ⟨0xC1004, 0x40, 128, 0x0, 1, [VIM_ICAIRN_LIMIT, VIM_ICAIRN_BASE]⟩
/-! VIM_IFLOW (08_*.md, R390) -/
def VIM_IFLOW_LIMIT : Field := ⟨0xC1008, 0x40, 0x0, 27, 16, .rw, 0, false, none, 0⟩
def VIM_IFLOW_BASE : Field := ⟨0xC1008, 0x40, 0x0, 11, 0, .rw, 4095, false, none, 0⟩
def VIM_IFLOW : RegD := ⟨0xC1008, 0x40, 128, 0x0, 1, [VIM_IFLOW_LIMIT, VIM_IFLOW_BASE]⟩
/-! VIM_IPOOL (08_*.md, R390) -/
def VIM_IPOOL_LIMIT : Field := ⟨0xC100C, 0x40, 0x0, 31, 16, .rw, 0, false, none, 0⟩
def VIM_IPOOL_BASE : Field := ⟨0xC100C, 0x40, 0x0, 15, 0, .rw, 65535, false, none, 0⟩
def VIM_IPOOL : RegD := ⟨0xC100C, 0x40, 128, 0x0, 1, [VIM_IPOOL_LIMIT, VIM_IPOOL_BASE]⟩
/-! VIM_IDMA (08_*.md, R390) -/
def VIM_IDMA_CHAN : Field := ⟨0xC1010, 0x40, 0x0, 15, 0, .rw, 0, false, none, 0⟩
def VIM_IDMA : RegD := ⟨0xC1010, 0x40, 128, 0x0, 1, [VIM_IDMA_CHAN]⟩
/-! VIM_IVIOL (08_*.md, R390) -/
def VIM_IVIOL_COUNT_COLL : Field := ⟨0xC1014, 0x40, 0x0, 16, 16, .w1c, 0, false, none, 0⟩
def VIM_IVIOL_COUNT : Field := ⟨0xC1014, 0x40, 0x0, 15, 0, .cnt, 0, false, some (0xC1014, 16), 0⟩
def VIM_IVIOL : RegD := ⟨0xC1014, 0x40, 128, 0x0, 1, [VIM_IVIOL_COUNT_COLL, VIM_IVIOL_COUNT]⟩
/-! VIM_IGRkB (08_*.md, R390) -/
def VIM_IGRkB_BASE : Field := ⟨0xC1020, 0x40, 0x8, 31, 8, .rw, 0, false, none, 0⟩
def VIM_IGRkB_WR : Field := ⟨0xC1020, 0x40, 0x8, 1, 1, .rw, 0, false, none, 0⟩
def VIM_IGRkB_EN : Field := ⟨0xC1020, 0x40, 0x8, 0, 0, .rw, 0, false, none, 0⟩
def VIM_IGRkB : RegD := ⟨0xC1020, 0x40, 128, 0x8, 4, [VIM_IGRkB_BASE, VIM_IGRkB_WR, VIM_IGRkB_EN]⟩
/-! VIM_IGRkL (08_*.md, R390) -/
def VIM_IGRkL_LIMIT : Field := ⟨0xC1024, 0x40, 0x8, 31, 8, .rw, 0, false, none, 0⟩
def VIM_IGRkL : RegD := ⟨0xC1024, 0x40, 128, 0x8, 4, [VIM_IGRkL_LIMIT]⟩
/-! VIM_FSTAT (08_*.md, R391) -/
def VIM_FSTAT_READY : Field := ⟨0x4001000, 0x10000, 0x0, 31, 31, .ro, 0, false, none, 2⟩
def VIM_FSTAT_LEGACY : Field := ⟨0x4001000, 0x10000, 0x0, 23, 23, .ro, 0, false, none, 0⟩
def VIM_FSTAT_STATE : Field := ⟨0x4001000, 0x10000, 0x0, 2, 0, .ro, 0, false, none, 2⟩
def VIM_FSTAT : RegD := ⟨0x4001000, 0x10000, 128, 0x0, 1, [VIM_FSTAT_READY, VIM_FSTAT_LEGACY, VIM_FSTAT_STATE]⟩
/-! VIM_FID (08_*.md, R391) -/
def VIM_FID_MGR : Field := ⟨0x4001004, 0x10000, 0x0, 24, 24, .ro, 0, false, none, 0⟩
def VIM_FID_PORT : Field := ⟨0x4001004, 0x10000, 0x0, 17, 16, .ro, 0, false, none, 3⟩
def VIM_FID_FUNC : Field := ⟨0x4001004, 0x10000, 0x0, 12, 8, .ro, 0, false, none, 4⟩
def VIM_FID_INST : Field := ⟨0x4001004, 0x10000, 0x0, 6, 0, .ro, 0, false, none, 5⟩
def VIM_FID : RegD := ⟨0x4001004, 0x10000, 128, 0x0, 1, [VIM_FID_MGR, VIM_FID_PORT, VIM_FID_FUNC, VIM_FID_INST]⟩
/-! VIM_FCTL (08_*.md, R391) -/
def VIM_FCTL_SELFRST : Field := ⟨0x4001008, 0x10000, 0x0, 0, 0, .w1s, 0, false, none, 0⟩
def VIM_FCTL : RegD := ⟨0x4001008, 0x10000, 128, 0x0, 1, [VIM_FCTL_SELFRST]⟩
/-! VIM_FVIOL (08_*.md, R391) -/
def VIM_FVIOL_COUNT : Field := ⟨0x400100C, 0x10000, 0x0, 15, 0, .ro, 0, false, none, 0⟩
def VIM_FVIOL : RegD := ⟨0x400100C, 0x10000, 128, 0x0, 1, [VIM_FVIOL_COUNT]⟩
/-! VIM_FVLAST (08_*.md, R391) -/
def VIM_FVLAST_RES : Field := ⟨0x4001010, 0x10000, 0x0, 31, 16, .ro, 0, false, none, 0⟩
def VIM_FVLAST_KIND : Field := ⟨0x4001010, 0x10000, 0x0, 15, 8, .ro, 0, false, none, 0⟩
def VIM_FVLAST_UNIT : Field := ⟨0x4001010, 0x10000, 0x0, 7, 0, .ro, 0, false, none, 0⟩
def VIM_FVLAST : RegD := ⟨0x4001010, 0x10000, 128, 0x0, 1, [VIM_FVLAST_RES, VIM_FVLAST_KIND, VIM_FVLAST_UNIT]⟩
/-! WQ_CTL (09_*.md, R433) -/
def WQ_CTL_EN : Field := ⟨0x100000, 0x0, 0x0, 0, 0, .rw, 0, false, none, 0⟩
def WQ_CTL : RegD := ⟨0x100000, 0x0, 1, 0x0, 1, [WQ_CTL_EN]⟩
/-! WQ_STAT (09_*.md, R433) -/
def WQ_STAT_QERR : Field := ⟨0x100004, 0x0, 0x0, 1, 1, .w1c, 0, false, none, 0⟩
def WQ_STAT_CFGERR : Field := ⟨0x100004, 0x0, 0x0, 0, 0, .w1c, 0, false, none, 0⟩
def WQ_STAT : RegD := ⟨0x100004, 0x0, 1, 0x0, 1, [WQ_STAT_QERR, WQ_STAT_CFGERR]⟩
/-! WQ_CNT0 (09_*.md, R433) -/
def WQ_CNT0_MALFORMED : Field := ⟨0x100008, 0x0, 0x0, 31, 16, .cnt, 0, false, some (0x100010, 3), 0⟩
def WQ_CNT0_SPOOF : Field := ⟨0x100008, 0x0, 0x0, 15, 0, .cnt, 0, false, some (0x100010, 2), 0⟩
def WQ_CNT0 : RegD := ⟨0x100008, 0x0, 1, 0x0, 1, [WQ_CNT0_MALFORMED, WQ_CNT0_SPOOF]⟩
/-! WQ_CNT1 (09_*.md, R433) -/
def WQ_CNT1_REFETCH : Field := ⟨0x10000C, 0x0, 0x0, 31, 16, .cnt, 0, true, some (0x100010, 1), 0⟩
def WQ_CNT1_ABORTED : Field := ⟨0x10000C, 0x0, 0x0, 15, 0, .cnt, 0, false, some (0x100010, 0), 0⟩
def WQ_CNT1 : RegD := ⟨0x10000C, 0x0, 1, 0x0, 1, [WQ_CNT1_REFETCH, WQ_CNT1_ABORTED]⟩
/-! WQ_CNTCOLL (09_*.md, R433) -/
def WQ_CNTCOLL_MALFORMED_COLL : Field := ⟨0x100010, 0x0, 0x0, 3, 3, .w1c, 0, false, none, 0⟩
def WQ_CNTCOLL_SPOOF_COLL : Field := ⟨0x100010, 0x0, 0x0, 2, 2, .w1c, 0, false, none, 0⟩
def WQ_CNTCOLL_REFETCH_COLL : Field := ⟨0x100010, 0x0, 0x0, 1, 1, .w1c, 0, false, none, 0⟩
def WQ_CNTCOLL_ABORTED_COLL : Field := ⟨0x100010, 0x0, 0x0, 0, 0, .w1c, 0, false, none, 0⟩
def WQ_CNTCOLL : RegD := ⟨0x100010, 0x0, 1, 0x0, 1, [WQ_CNTCOLL_MALFORMED_COLL, WQ_CNTCOLL_SPOOF_COLL, WQ_CNTCOLL_REFETCH_COLL, WQ_CNTCOLL_ABORTED_COLL]⟩
/-! WQ_QCFG (09_*.md, R433) -/
def WQ_QCFG_VALID : Field := ⟨0x110000, 0x20, 0x0, 31, 31, .rw, 0, false, none, 13⟩
def WQ_QCFG_INST : Field := ⟨0x110000, 0x20, 0x0, 22, 16, .rw, 0, false, none, 14⟩
def WQ_QCFG_QNUM : Field := ⟨0x110000, 0x20, 0x0, 5, 0, .rw, 0, false, none, 0⟩
def WQ_QCFG : RegD := ⟨0x110000, 0x20, 2048, 0x0, 1, [WQ_QCFG_VALID, WQ_QCFG_INST, WQ_QCFG_QNUM]⟩
/-! WQ_QARB (09_*.md, R433) -/
def WQ_QARB_WEIGHT : Field := ⟨0x110004, 0x20, 0x0, 31, 24, .rw, 1, false, none, 0⟩
def WQ_QARB_BURST : Field := ⟨0x110004, 0x20, 0x0, 20, 16, .rw, 4, false, none, 0⟩
def WQ_QARB_REPOLL : Field := ⟨0x110004, 0x20, 0x0, 15, 0, .rw, 0, false, none, 0⟩
def WQ_QARB : RegD := ⟨0x110004, 0x20, 2048, 0x0, 1, [WQ_QARB_WEIGHT, WQ_QARB_BURST, WQ_QARB_REPOLL]⟩
/-! WQ_QTGT (09_*.md, R433) -/
def WQ_QTGT_SLOT : Field := ⟨0x110008, 0x20, 0x0, 18, 16, .rw, 0, false, none, 0⟩
def WQ_QTGT_CAIRN : Field := ⟨0x110008, 0x20, 0x0, 15, 0, .rw, 0, false, none, 0⟩
def WQ_QTGT : RegD := ⟨0x110008, 0x20, 2048, 0x0, 1, [WQ_QTGT_SLOT, WQ_QTGT_CAIRN]⟩
/-! WQ_QEV (09_*.md, R433) -/
def WQ_QEV_EVSRC : Field := ⟨0x11000C, 0x20, 0x0, 5, 0, .rw, 0, false, none, 0⟩
def WQ_QEV : RegD := ⟨0x11000C, 0x20, 2048, 0x0, 1, [WQ_QEV_EVSRC]⟩
/-! WQ_QSTATE (09_*.md, R433) -/
def WQ_QSTATE_STATE : Field := ⟨0x110010, 0x20, 0x0, 31, 29, .ro, 0, false, none, 0⟩
def WQ_QSTATE_PHASE : Field := ⟨0x110010, 0x20, 0x0, 28, 28, .ro, 1, false, none, 0⟩
def WQ_QSTATE_STAGED : Field := ⟨0x110010, 0x20, 0x0, 20, 16, .ro, 0, false, none, 0⟩
def WQ_QSTATE_FETCH : Field := ⟨0x110010, 0x20, 0x0, 15, 0, .ro, 0, false, none, 0⟩
def WQ_QSTATE : RegD := ⟨0x110010, 0x20, 2048, 0x0, 1, [WQ_QSTATE_STATE, WQ_QSTATE_PHASE, WQ_QSTATE_STAGED, WQ_QSTATE_FETCH]⟩
/-! WQ_QIDX (09_*.md, R433) -/
def WQ_QIDX_TAIL : Field := ⟨0x110014, 0x20, 0x0, 31, 16, .ro, 0, false, none, 0⟩
def WQ_QIDX_HEAD : Field := ⟨0x110014, 0x20, 0x0, 15, 0, .ro, 0, false, none, 0⟩
def WQ_QIDX : RegD := ⟨0x110014, 0x20, 2048, 0x0, 1, [WQ_QIDX_TAIL, WQ_QIDX_HEAD]⟩
/-! WQ_DB (09_*.md, R434) -/
def WQ_DB_INV : Field := ⟨0x4000000, 0x10000, 0x40, 16, 16, .wo, 0, false, none, 0⟩
def WQ_DB_TAIL : Field := ⟨0x4000000, 0x10000, 0x40, 15, 0, .wo, 0, false, none, 0⟩
def WQ_DB : RegD := ⟨0x4000000, 0x10000, 128, 0x40, 64, [WQ_DB_INV, WQ_DB_TAIL]⟩
/-! WQ_FHEAD (09_*.md, R434) -/
def WQ_FHEAD_HEAD : Field := ⟨0x4000004, 0x10000, 0x40, 15, 0, .ro, 0, false, none, 0⟩
def WQ_FHEAD : RegD := ⟨0x4000004, 0x10000, 128, 0x40, 64, [WQ_FHEAD_HEAD]⟩
/-! WQ_FSTAT (09_*.md, R434) -/
def WQ_FSTAT_STATE : Field := ⟨0x4000008, 0x10000, 0x40, 31, 29, .ro, 0, false, none, 0⟩
def WQ_FSTAT_LASTERR : Field := ⟨0x4000008, 0x10000, 0x40, 15, 8, .ro, 0, false, none, 0⟩
def WQ_FSTAT_CFGERR : Field := ⟨0x4000008, 0x10000, 0x40, 3, 3, .w1c, 0, false, none, 0⟩
def WQ_FSTAT_DBERR : Field := ⟨0x4000008, 0x10000, 0x40, 2, 2, .w1c, 0, false, none, 0⟩
def WQ_FSTAT_QERR : Field := ⟨0x4000008, 0x10000, 0x40, 1, 1, .w1c, 0, false, none, 0⟩
def WQ_FSTAT_HPEND : Field := ⟨0x4000008, 0x10000, 0x40, 0, 0, .w1c, 0, false, none, 0⟩
def WQ_FSTAT : RegD := ⟨0x4000008, 0x10000, 128, 0x40, 64, [WQ_FSTAT_STATE, WQ_FSTAT_LASTERR, WQ_FSTAT_CFGERR, WQ_FSTAT_DBERR, WQ_FSTAT_QERR, WQ_FSTAT_HPEND]⟩
/-! WQ_FCTL (09_*.md, R434) -/
def WQ_FCTL_LOG2N : Field := ⟨0x400000C, 0x10000, 0x40, 8, 4, .rw, 4, false, none, 0⟩
def WQ_FCTL_IEN : Field := ⟨0x400000C, 0x10000, 0x40, 2, 2, .rw, 0, false, none, 0⟩
def WQ_FCTL_PMODE : Field := ⟨0x400000C, 0x10000, 0x40, 1, 1, .rw, 0, false, none, 0⟩
def WQ_FCTL_EN : Field := ⟨0x400000C, 0x10000, 0x40, 0, 0, .rw, 0, false, none, 0⟩
def WQ_FCTL : RegD := ⟨0x400000C, 0x10000, 128, 0x40, 64, [WQ_FCTL_LOG2N, WQ_FCTL_IEN, WQ_FCTL_PMODE, WQ_FCTL_EN]⟩
/-! WQ_FRBLO (09_*.md, R434) -/
def WQ_FRBLO_BASE : Field := ⟨0x4000010, 0x10000, 0x40, 31, 12, .rw, 0, false, none, 0⟩
def WQ_FRBLO : RegD := ⟨0x4000010, 0x10000, 128, 0x40, 64, [WQ_FRBLO_BASE]⟩
/-! WQ_FRBHI (09_*.md, R434) -/
def WQ_FRBHI_BASE_HI : Field := ⟨0x4000014, 0x10000, 0x40, 31, 0, .rw, 0, false, none, 0⟩
def WQ_FRBHI : RegD := ⟨0x4000014, 0x10000, 128, 0x40, 64, [WQ_FRBHI_BASE_HI]⟩
/-! WQ_FHALO (09_*.md, R434) -/
def WQ_FHALO_ADDR : Field := ⟨0x4000018, 0x10000, 0x40, 31, 2, .rw, 0, false, none, 0⟩
def WQ_FHALO : RegD := ⟨0x4000018, 0x10000, 128, 0x40, 64, [WQ_FHALO_ADDR]⟩
/-! WQ_FHAHI (09_*.md, R434) -/
def WQ_FHAHI_ADDR_HI : Field := ⟨0x400001C, 0x10000, 0x40, 31, 0, .rw, 0, false, none, 0⟩
def WQ_FHAHI : RegD := ⟨0x400001C, 0x10000, 128, 0x40, 64, [WQ_FHAHI_ADDR_HI]⟩
/-! WQ_FPASID (09_*.md, R434) -/
def WQ_FPASID_EN : Field := ⟨0x4000020, 0x10000, 0x40, 31, 31, .rw, 0, false, none, 0⟩
def WQ_FPASID_PASID : Field := ⟨0x4000020, 0x10000, 0x40, 19, 0, .rw, 0, false, none, 0⟩
def WQ_FPASID : RegD := ⟨0x4000020, 0x10000, 128, 0x40, 64, [WQ_FPASID_EN, WQ_FPASID_PASID]⟩
/-! CMD_CTL (10_*.md, R467) -/
def CMD_CTL_HOLD : Field := ⟨0x200000, 0x0, 0x0, 0, 0, .rw, 0, false, none, 0⟩
def CMD_CTL : RegD := ⟨0x200000, 0x0, 1, 0x0, 1, [CMD_CTL_HOLD]⟩
/-! CMD_STAT (10_*.md, R467) -/
def CMD_STAT_FWRDY : Field := ⟨0x200004, 0x0, 0x0, 31, 31, .ro, 0, false, none, 0⟩
def CMD_STAT_RESCORE : Field := ⟨0x200004, 0x0, 0x0, 30, 30, .ro, 0, false, none, 0⟩
def CMD_STAT_BUSY : Field := ⟨0x200004, 0x0, 0x0, 4, 0, .ro, 0, false, none, 0⟩
def CMD_STAT : RegD := ⟨0x200004, 0x0, 1, 0x0, 1, [CMD_STAT_FWRDY, CMD_STAT_RESCORE, CMD_STAT_BUSY]⟩
/-! CMD_EVT (10_*.md, R467) -/
def CMD_EVT_ENUMFAIL : Field := ⟨0x200008, 0x0, 0x0, 3, 3, .w1c, 0, false, none, 0⟩
def CMD_EVT_FWLOG : Field := ⟨0x200008, 0x0, 0x0, 2, 2, .w1c, 0, false, none, 0⟩
def CMD_EVT_CORELOST : Field := ⟨0x200008, 0x0, 0x0, 1, 1, .w1c, 0, false, none, 0⟩
def CMD_EVT_MAINT : Field := ⟨0x200008, 0x0, 0x0, 0, 0, .w1c, 0, false, none, 0⟩
def CMD_EVT : RegD := ⟨0x200008, 0x0, 1, 0x0, 1, [CMD_EVT_ENUMFAIL, CMD_EVT_FWLOG, CMD_EVT_CORELOST, CMD_EVT_MAINT]⟩
/-! CMD_EVTEN (10_*.md, R467) -/
def CMD_EVTEN_EN : Field := ⟨0x20000C, 0x0, 0x0, 3, 0, .rw, 0, false, none, 0⟩
def CMD_EVTEN : RegD := ⟨0x20000C, 0x0, 1, 0x0, 1, [CMD_EVTEN_EN]⟩
/-! CMD_TOKEN0 (10_*.md, R467) -/
def CMD_TOKEN0_ROPES : Field := ⟨0x200010, 0x0, 0x0, 31, 0, .ro, 0, false, none, 0⟩
def CMD_TOKEN0 : RegD := ⟨0x200010, 0x0, 1, 0x0, 1, [CMD_TOKEN0_ROPES]⟩
/-! CMD_TOKEN1 (10_*.md, R467) -/
def CMD_TOKEN1_OTHER : Field := ⟨0x200014, 0x0, 0x0, 3, 0, .ro, 0, false, none, 0⟩
def CMD_TOKEN1 : RegD := ⟨0x200014, 0x0, 1, 0x0, 1, [CMD_TOKEN1_OTHER]⟩
/-! CMD_CNT (10_*.md, R467) -/
def CMD_CNT_COMMANDS : Field := ⟨0x200018, 0x0, 0x0, 31, 16, .cnt, 0, true, some (0x20001C, 1), 0⟩
def CMD_CNT_REFUSED : Field := ⟨0x200018, 0x0, 0x0, 15, 0, .cnt, 0, false, some (0x20001C, 0), 0⟩
def CMD_CNT : RegD := ⟨0x200018, 0x0, 1, 0x0, 1, [CMD_CNT_COMMANDS, CMD_CNT_REFUSED]⟩
/-! CMD_CNTCOLL (10_*.md, R467) -/
def CMD_CNTCOLL_COMMANDS_COLL : Field := ⟨0x20001C, 0x0, 0x0, 1, 1, .w1c, 0, false, none, 0⟩
def CMD_CNTCOLL_REFUSED_COLL : Field := ⟨0x20001C, 0x0, 0x0, 0, 0, .w1c, 0, false, none, 0⟩
def CMD_CNTCOLL : RegD := ⟨0x20001C, 0x0, 1, 0x0, 1, [CMD_CNTCOLL_COMMANDS_COLL, CMD_CNTCOLL_REFUSED_COLL]⟩
/-! MEM_CTL (11_*.md, R498) -/
def MEM_CTL_ILV : Field := ⟨0x800000, 0x0, 0x0, 8, 8, .rw, 1, false, none, 0⟩
def MEM_CTL_AUTOREP : Field := ⟨0x800000, 0x0, 0x0, 4, 4, .rw, 0, false, none, 0⟩
def MEM_CTL : RegD := ⟨0x800000, 0x0, 1, 0x0, 1, [MEM_CTL_ILV, MEM_CTL_AUTOREP]⟩
/-! MEM_STAT (11_*.md, R498) -/
def MEM_STAT_DDR1RDY : Field := ⟨0x800004, 0x0, 0x0, 1, 1, .ro, 0, false, none, 0⟩
def MEM_STAT_DDR0RDY : Field := ⟨0x800004, 0x0, 0x0, 0, 0, .ro, 0, false, none, 0⟩
def MEM_STAT : RegD := ⟨0x800004, 0x0, 1, 0x0, 1, [MEM_STAT_DDR1RDY, MEM_STAT_DDR0RDY]⟩
/-! MEM_CHKSTAT0 (11_*.md, R498) -/
def MEM_CHKSTAT0_FAIL : Field := ⟨0x800008, 0x0, 0x0, 31, 0, .ro, 0, false, none, 0⟩
def MEM_CHKSTAT0 : RegD := ⟨0x800008, 0x0, 1, 0x0, 1, [MEM_CHKSTAT0_FAIL]⟩
/-! MEM_CHKSTAT1 (11_*.md, R498) -/
def MEM_CHKSTAT1_FAIL : Field := ⟨0x80000C, 0x0, 0x0, 3, 0, .ro, 0, false, none, 0⟩
def MEM_CHKSTAT1 : RegD := ⟨0x80000C, 0x0, 1, 0x0, 1, [MEM_CHKSTAT1_FAIL]⟩
/-! MEM_SCRUB (11_*.md, R498) -/
def MEM_SCRUB_DDRSHR : Field := ⟨0x800010, 0x0, 0x0, 4, 0, .rw, 1, false, none, 0⟩
def MEM_SCRUB : RegD := ⟨0x800010, 0x0, 1, 0x0, 1, [MEM_SCRUB_DDRSHR]⟩
/-! MEM_FUSE (11_*.md, R498) -/
def MEM_FUSE_LEFT : Field := ⟨0x800014, 0x0, 0x0, 9, 0, .ro, 512, false, none, 0⟩
def MEM_FUSE : RegD := ⟨0x800014, 0x0, 1, 0x0, 1, [MEM_FUSE_LEFT]⟩
/-! MEM_DDRCFG (11_*.md, R498) -/
def MEM_DDRCFG_SPEED : Field := ⟨0x800100, 0x40, 0x0, 13, 12, .rw, 0, false, none, 0⟩
def MEM_DDRCFG_DENS : Field := ⟨0x800100, 0x40, 0x0, 10, 8, .rw, 1, false, none, 0⟩
def MEM_DDRCFG_WIDTH : Field := ⟨0x800100, 0x40, 0x0, 5, 5, .rw, 0, false, none, 0⟩
def MEM_DDRCFG_RANKS : Field := ⟨0x800100, 0x40, 0x0, 4, 4, .rw, 0, false, none, 0⟩
def MEM_DDRCFG_EN : Field := ⟨0x800100, 0x40, 0x0, 0, 0, .rw, 0, false, none, 0⟩
def MEM_DDRCFG : RegD := ⟨0x800100, 0x40, 2, 0x0, 1, [MEM_DDRCFG_SPEED, MEM_DDRCFG_DENS, MEM_DDRCFG_WIDTH, MEM_DDRCFG_RANKS, MEM_DDRCFG_EN]⟩
/-! MEM_DDRSIZE (11_*.md, R498) -/
def MEM_DDRSIZE_SIZE : Field := ⟨0x800104, 0x40, 0x0, 5, 0, .ro, 0, false, none, 0⟩
def MEM_DDRSIZE : RegD := ⟨0x800104, 0x40, 2, 0x0, 1, [MEM_DDRSIZE_SIZE]⟩
/-! MEM_DDRSTAT (11_*.md, R498) -/
def MEM_DDRSTAT_RETRAIN : Field := ⟨0x800108, 0x40, 0x0, 7, 7, .ro, 0, false, none, 0⟩
def MEM_DDRSTAT_DRIFT : Field := ⟨0x800108, 0x40, 0x0, 4, 4, .w1c, 0, false, none, 0⟩
def MEM_DDRSTAT_TRFAIL : Field := ⟨0x800108, 0x40, 0x0, 3, 3, .w1c, 0, false, none, 0⟩
def MEM_DDRSTAT_HOT : Field := ⟨0x800108, 0x40, 0x0, 2, 2, .ro, 0, false, none, 0⟩
def MEM_DDRSTAT_TRAINED : Field := ⟨0x800108, 0x40, 0x0, 0, 0, .ro, 0, false, none, 0⟩
def MEM_DDRSTAT : RegD := ⟨0x800108, 0x40, 2, 0x0, 1, [MEM_DDRSTAT_RETRAIN, MEM_DDRSTAT_DRIFT, MEM_DDRSTAT_TRFAIL, MEM_DDRSTAT_HOT, MEM_DDRSTAT_TRAINED]⟩
/-! MEM_DDRTRK (11_*.md, R498) -/
def MEM_DDRTRK_DTH : Field := ⟨0x80010C, 0x40, 0x0, 31, 16, .rw, 16, false, none, 0⟩
def MEM_DDRTRK_INTVL : Field := ⟨0x80010C, 0x40, 0x0, 15, 0, .rw, 1000, false, none, 0⟩
def MEM_DDRTRK : RegD := ⟨0x80010C, 0x40, 2, 0x0, 1, [MEM_DDRTRK_DTH, MEM_DDRTRK_INTVL]⟩
/-! MEM_DDRCNT (11_*.md, R498) -/
def MEM_DDRCNT_ZQ : Field := ⟨0x800110, 0x40, 0x0, 31, 16, .cnt, 0, true, some (0x800114, 1), 0⟩
def MEM_DDRCNT_TRACK : Field := ⟨0x800110, 0x40, 0x0, 15, 0, .cnt, 0, true, some (0x800114, 0), 0⟩
def MEM_DDRCNT : RegD := ⟨0x800110, 0x40, 2, 0x0, 1, [MEM_DDRCNT_ZQ, MEM_DDRCNT_TRACK]⟩
/-! MEM_DDRCOLL (11_*.md, R498) -/
def MEM_DDRCOLL_ZQ_COLL : Field := ⟨0x800114, 0x40, 0x0, 1, 1, .w1c, 0, false, none, 0⟩
def MEM_DDRCOLL_TRACK_COLL : Field := ⟨0x800114, 0x40, 0x0, 0, 0, .w1c, 0, false, none, 0⟩
def MEM_DDRCOLL : RegD := ⟨0x800114, 0x40, 2, 0x0, 1, [MEM_DDRCOLL_ZQ_COLL, MEM_DDRCOLL_TRACK_COLL]⟩
/-! MEM_USTAT (11_*.md, R498) -/
def MEM_USTAT_FAIL : Field := ⟨0x800400, 0x20, 0x0, 5, 5, .w1c, 0, false, none, 0⟩
def MEM_USTAT_THR : Field := ⟨0x800400, 0x20, 0x0, 4, 4, .w1c, 0, false, none, 0⟩
def MEM_USTAT_PAR : Field := ⟨0x800400, 0x20, 0x0, 3, 3, .w1c, 0, false, none, 0⟩
def MEM_USTAT_POIS : Field := ⟨0x800400, 0x20, 0x0, 2, 2, .w1c, 0, false, none, 0⟩
def MEM_USTAT_UE : Field := ⟨0x800400, 0x20, 0x0, 1, 1, .w1c, 0, false, none, 0⟩
def MEM_USTAT_CE : Field := ⟨0x800400, 0x20, 0x0, 0, 0, .w1c, 0, false, none, 0⟩
def MEM_USTAT : RegD := ⟨0x800400, 0x20, 24, 0x0, 1, [MEM_USTAT_FAIL, MEM_USTAT_THR, MEM_USTAT_PAR, MEM_USTAT_POIS, MEM_USTAT_UE, MEM_USTAT_CE]⟩
/-! MEM_UEN (11_*.md, R498) -/
def MEM_UEN_EN : Field := ⟨0x800404, 0x20, 0x0, 5, 0, .rw, 0, false, none, 0⟩
def MEM_UEN : RegD := ⟨0x800404, 0x20, 24, 0x0, 1, [MEM_UEN_EN]⟩
/-! MEM_UCNT (11_*.md, R498) -/
def MEM_UCNT_CE : Field := ⟨0x800408, 0x20, 0x0, 31, 16, .cnt, 0, false, some (0x80040C, 1), 0⟩
def MEM_UCNT_UE : Field := ⟨0x800408, 0x20, 0x0, 15, 0, .cnt, 0, false, some (0x80040C, 0), 0⟩
def MEM_UCNT : RegD := ⟨0x800408, 0x20, 24, 0x0, 1, [MEM_UCNT_CE, MEM_UCNT_UE]⟩
/-! MEM_UCOLL (11_*.md, R498) -/
def MEM_UCOLL_CE_COLL : Field := ⟨0x80040C, 0x20, 0x0, 1, 1, .w1c, 0, false, none, 0⟩
def MEM_UCOLL_UE_COLL : Field := ⟨0x80040C, 0x20, 0x0, 0, 0, .w1c, 0, false, none, 0⟩
def MEM_UCOLL : RegD := ⟨0x80040C, 0x20, 24, 0x0, 1, [MEM_UCOLL_CE_COLL, MEM_UCOLL_UE_COLL]⟩
/-! MEM_ULAST0 (11_*.md, R498) -/
def MEM_ULAST0_ADDR : Field := ⟨0x800410, 0x20, 0x0, 31, 0, .ro, 0, false, none, 0⟩
def MEM_ULAST0 : RegD := ⟨0x800410, 0x20, 24, 0x0, 1, [MEM_ULAST0_ADDR]⟩
/-! MEM_ULAST1 (11_*.md, R498) -/
def MEM_ULAST1_VALID : Field := ⟨0x800414, 0x20, 0x0, 31, 31, .ro, 0, false, none, 0⟩
def MEM_ULAST1_KIND : Field := ⟨0x800414, 0x20, 0x0, 27, 24, .ro, 0, false, none, 0⟩
def MEM_ULAST1_GROUP : Field := ⟨0x800414, 0x20, 0x0, 23, 16, .ro, 0, false, none, 0⟩
def MEM_ULAST1_ADDR_HI : Field := ⟨0x800414, 0x20, 0x0, 7, 0, .ro, 0, false, none, 0⟩
def MEM_ULAST1 : RegD := ⟨0x800414, 0x20, 24, 0x0, 1, [MEM_ULAST1_VALID, MEM_ULAST1_KIND, MEM_ULAST1_GROUP, MEM_ULAST1_ADDR_HI]⟩
/-! MEM_UTH (11_*.md, R498) -/
def MEM_UTH_ROWTH : Field := ⟨0x800418, 0x20, 0x0, 7, 0, .rw, 8, false, none, 0⟩
def MEM_UTH : RegD := ⟨0x800418, 0x20, 24, 0x0, 1, [MEM_UTH_ROWTH]⟩
/-! DMA_CTL (12_*.md, R523) -/
def DMA_CTL_RESTART : Field := ⟨0x700000, 0x0, 0x0, 1, 1, .w1s, 0, false, none, 0⟩
def DMA_CTL_EN : Field := ⟨0x700000, 0x0, 0x0, 0, 0, .rw, 0, false, none, 0⟩
def DMA_CTL : RegD := ⟨0x700000, 0x0, 1, 0x0, 1, [DMA_CTL_RESTART, DMA_CTL_EN]⟩
/-! DMA_STAT (12_*.md, R523) -/
def DMA_STAT_BUSERR : Field := ⟨0x700004, 0x0, 0x0, 1, 1, .w1c, 0, false, none, 0⟩
def DMA_STAT_HALT : Field := ⟨0x700004, 0x0, 0x0, 0, 0, .ro, 0, false, none, 0⟩
def DMA_STAT : RegD := ⟨0x700004, 0x0, 1, 0x0, 1, [DMA_STAT_BUSERR, DMA_STAT_HALT]⟩
/-! DMA_ERR0 (12_*.md, R523) -/
def DMA_ERR0_VALID : Field := ⟨0x700008, 0x0, 0x0, 31, 31, .ro, 0, false, none, 0⟩
def DMA_ERR0_CAUSE : Field := ⟨0x700008, 0x0, 0x0, 27, 24, .ro, 0, false, none, 0⟩
def DMA_ERR0_WRITE : Field := ⟨0x700008, 0x0, 0x0, 23, 23, .ro, 0, false, none, 0⟩
def DMA_ERR0_CHAN : Field := ⟨0x700008, 0x0, 0x0, 19, 16, .ro, 0, false, none, 0⟩
def DMA_ERR0_INDEX : Field := ⟨0x700008, 0x0, 0x0, 15, 0, .ro, 0, false, none, 0⟩
def DMA_ERR0 : RegD := ⟨0x700008, 0x0, 1, 0x0, 1, [DMA_ERR0_VALID, DMA_ERR0_CAUSE, DMA_ERR0_WRITE, DMA_ERR0_CHAN, DMA_ERR0_INDEX]⟩
/-! DMA_ERR1 (12_*.md, R523) -/
def DMA_ERR1_ADDR : Field := ⟨0x70000C, 0x0, 0x0, 31, 0, .ro, 0, false, none, 0⟩
def DMA_ERR1 : RegD := ⟨0x70000C, 0x0, 1, 0x0, 1, [DMA_ERR1_ADDR]⟩
/-! DMA_ERR2 (12_*.md, R523) -/
def DMA_ERR2_ADDR : Field := ⟨0x700010, 0x0, 0x0, 31, 0, .ro, 0, false, none, 0⟩
def DMA_ERR2 : RegD := ⟨0x700010, 0x0, 1, 0x0, 1, [DMA_ERR2_ADDR]⟩
/-! DMA_CNT0 (12_*.md, R523) -/
def DMA_CNT0_BUSERR : Field := ⟨0x700014, 0x0, 0x0, 31, 16, .cnt, 0, false, some (0x700018, 1), 0⟩
def DMA_CNT0_PULSEDROP : Field := ⟨0x700014, 0x0, 0x0, 15, 0, .cnt, 0, false, some (0x700018, 0), 0⟩
def DMA_CNT0 : RegD := ⟨0x700014, 0x0, 1, 0x0, 1, [DMA_CNT0_BUSERR, DMA_CNT0_PULSEDROP]⟩
/-! DMA_CNTCOLL (12_*.md, R523) -/
def DMA_CNTCOLL_BUSERR_COLL : Field := ⟨0x700018, 0x0, 0x0, 1, 1, .w1c, 0, false, none, 0⟩
def DMA_CNTCOLL_PULSEDROP_COLL : Field := ⟨0x700018, 0x0, 0x0, 0, 0, .w1c, 0, false, none, 0⟩
def DMA_CNTCOLL : RegD := ⟨0x700018, 0x0, 1, 0x0, 1, [DMA_CNTCOLL_BUSERR_COLL, DMA_CNTCOLL_PULSEDROP_COLL]⟩
/-! DMA_CCFG (12_*.md, R523) -/
def DMA_CCFG_POLL : Field := ⟨0x700100, 0x40, 0x0, 31, 16, .rw, 0, false, none, 0⟩
def DMA_CCFG_LOG2N : Field := ⟨0x700100, 0x40, 0x0, 12, 8, .rw, 4, false, none, 0⟩
def DMA_CCFG_PRIO : Field := ⟨0x700100, 0x40, 0x0, 1, 0, .rw, 3, false, none, 0⟩
def DMA_CCFG : RegD := ⟨0x700100, 0x40, 16, 0x0, 1, [DMA_CCFG_POLL, DMA_CCFG_LOG2N, DMA_CCFG_PRIO]⟩
/-! DMA_CCTL (12_*.md, R523) -/
def DMA_CCTL_SKIP : Field := ⟨0x700104, 0x40, 0x0, 4, 4, .rwh, 0, false, none, 0⟩
def DMA_CCTL_KICK : Field := ⟨0x700104, 0x40, 0x0, 3, 3, .w1s, 0, false, none, 0⟩
def DMA_CCTL_ABORT : Field := ⟨0x700104, 0x40, 0x0, 2, 2, .w1s, 0, false, none, 0⟩
def DMA_CCTL_STOP : Field := ⟨0x700104, 0x40, 0x0, 1, 1, .w1s, 0, false, none, 0⟩
def DMA_CCTL_START : Field := ⟨0x700104, 0x40, 0x0, 0, 0, .w1s, 0, false, none, 0⟩
def DMA_CCTL : RegD := ⟨0x700104, 0x40, 16, 0x0, 1, [DMA_CCTL_SKIP, DMA_CCTL_KICK, DMA_CCTL_ABORT, DMA_CCTL_STOP, DMA_CCTL_START]⟩
/-! DMA_CSTAT (12_*.md, R523) -/
def DMA_CSTAT_STATE : Field := ⟨0x700108, 0x40, 0x0, 31, 29, .ro, 0, false, none, 0⟩
def DMA_CSTAT_BUSERR : Field := ⟨0x700108, 0x40, 0x0, 4, 4, .w1c, 0, false, none, 0⟩
def DMA_CSTAT_HALTED : Field := ⟨0x700108, 0x40, 0x0, 3, 3, .w1c, 0, false, none, 0⟩
def DMA_CSTAT_SPOOF : Field := ⟨0x700108, 0x40, 0x0, 2, 2, .w1c, 0, false, none, 0⟩
def DMA_CSTAT_MALF : Field := ⟨0x700108, 0x40, 0x0, 1, 1, .w1c, 0, false, none, 0⟩
def DMA_CSTAT_SREFUSE : Field := ⟨0x700108, 0x40, 0x0, 0, 0, .w1c, 0, false, none, 0⟩
def DMA_CSTAT : RegD := ⟨0x700108, 0x40, 16, 0x0, 1, [DMA_CSTAT_STATE, DMA_CSTAT_BUSERR, DMA_CSTAT_HALTED, DMA_CSTAT_SPOOF, DMA_CSTAT_MALF, DMA_CSTAT_SREFUSE]⟩
/-! DMA_CEVTEN (12_*.md, R523) -/
def DMA_CEVTEN_EN : Field := ⟨0x70010C, 0x40, 0x0, 4, 0, .rw, 0, false, none, 0⟩
def DMA_CEVTEN : RegD := ⟨0x70010C, 0x40, 16, 0x0, 1, [DMA_CEVTEN_EN]⟩
/-! DMA_CRBLO (12_*.md, R523) -/
def DMA_CRBLO_BASE : Field := ⟨0x700110, 0x40, 0x0, 31, 12, .rw, 0, false, none, 0⟩
def DMA_CRBLO : RegD := ⟨0x700110, 0x40, 16, 0x0, 1, [DMA_CRBLO_BASE]⟩
/-! DMA_CRBHI (12_*.md, R523) -/
def DMA_CRBHI_BASE_HI : Field := ⟨0x700114, 0x40, 0x0, 7, 0, .rw, 0, false, none, 0⟩
def DMA_CRBHI : RegD := ⟨0x700114, 0x40, 16, 0x0, 1, [DMA_CRBHI_BASE_HI]⟩
/-! DMA_CIDX (12_*.md, R523) -/
def DMA_CIDX_IDX : Field := ⟨0x700118, 0x40, 0x0, 15, 0, .rwh, 0, false, none, 0⟩
def DMA_CIDX : RegD := ⟨0x700118, 0x40, 16, 0x0, 1, [DMA_CIDX_IDX]⟩
/-! DMA_CPASID (12_*.md, R523) -/
def DMA_CPASID_EN : Field := ⟨0x70011C, 0x40, 0x0, 31, 31, .rw, 0, false, none, 0⟩
def DMA_CPASID_PASID : Field := ⟨0x70011C, 0x40, 0x0, 19, 0, .rw, 0, false, none, 0⟩
def DMA_CPASID : RegD := ⟨0x70011C, 0x40, 16, 0x0, 1, [DMA_CPASID_EN, DMA_CPASID_PASID]⟩
/-! DMA_CCNT (12_*.md, R523) -/
def DMA_CCNT_DONE : Field := ⟨0x700120, 0x40, 0x0, 31, 16, .cnt, 0, true, some (0x700124, 1), 0⟩
def DMA_CCNT_PREEMPT : Field := ⟨0x700120, 0x40, 0x0, 15, 0, .cnt, 0, true, some (0x700124, 0), 0⟩
def DMA_CCNT : RegD := ⟨0x700120, 0x40, 16, 0x0, 1, [DMA_CCNT_DONE, DMA_CCNT_PREEMPT]⟩
/-! DMA_CCOLL (12_*.md, R523) -/
def DMA_CCOLL_DONE_COLL : Field := ⟨0x700124, 0x40, 0x0, 1, 1, .w1c, 0, false, none, 0⟩
def DMA_CCOLL_PREEMPT_COLL : Field := ⟨0x700124, 0x40, 0x0, 0, 0, .w1c, 0, false, none, 0⟩
def DMA_CCOLL : RegD := ⟨0x700124, 0x40, 16, 0x0, 1, [DMA_CCOLL_DONE_COLL, DMA_CCOLL_PREEMPT_COLL]⟩
/-! EVC_CTL (13_*.md, R547) -/
def EVC_CTL_EN : Field := ⟨0x30000, 0x0, 0x0, 0, 0, .rw, 0, false, none, 0⟩
def EVC_CTL : RegD := ⟨0x30000, 0x0, 1, 0x0, 1, [EVC_CTL_EN]⟩
/-! EVC_CNT (13_*.md, R547) -/
def EVC_CNT_MSGS : Field := ⟨0x30008, 0x0, 0x0, 31, 16, .cnt, 0, true, some (0x3000C, 1), 0⟩
def EVC_CNT_REPEAT : Field := ⟨0x30008, 0x0, 0x0, 15, 0, .cnt, 0, true, some (0x3000C, 0), 0⟩
def EVC_CNT : RegD := ⟨0x30008, 0x0, 1, 0x0, 1, [EVC_CNT_MSGS, EVC_CNT_REPEAT]⟩
/-! EVC_CNTCOLL (13_*.md, R547) -/
def EVC_CNTCOLL_MSGS_COLL : Field := ⟨0x3000C, 0x0, 0x0, 1, 1, .w1c, 0, false, none, 0⟩
def EVC_CNTCOLL_REPEAT_COLL : Field := ⟨0x3000C, 0x0, 0x0, 0, 0, .w1c, 0, false, none, 0⟩
def EVC_CNTCOLL : RegD := ⟨0x3000C, 0x0, 1, 0x0, 1, [EVC_CNTCOLL_MSGS_COLL, EVC_CNTCOLL_REPEAT_COLL]⟩
/-! EVC_GSTAT (13_*.md, R547) -/
def EVC_GSTAT_RAW : Field := ⟨0x30100, 0x10, 0x0, 31, 0, .ro, 0, false, none, 0⟩
def EVC_GSTAT : RegD := ⟨0x30100, 0x10, 40, 0x0, 1, [EVC_GSTAT_RAW]⟩
/-! EVC_GEN (13_*.md, R547) -/
def EVC_GEN_EN : Field := ⟨0x30104, 0x10, 0x0, 31, 0, .rw, 0, false, none, 0⟩
def EVC_GEN : RegD := ⟨0x30104, 0x10, 40, 0x0, 1, [EVC_GEN_EN]⟩
/-! EVC_GACT (13_*.md, R547) -/
def EVC_GACT_ACT : Field := ⟨0x30108, 0x10, 0x0, 31, 0, .ro, 0, false, none, 0⟩
def EVC_GACT : RegD := ⟨0x30108, 0x10, 40, 0x0, 1, [EVC_GACT_ACT]⟩
/-! EVC_FCFG (13_*.md, R547) -/
def EVC_FCFG_FEN : Field := ⟨0x30400, 0x0, 0x0, 16, 16, .rw, 1, false, none, 0⟩
def EVC_FCFG_WIN : Field := ⟨0x30400, 0x0, 0x0, 10, 0, .rw, 64, false, none, 0⟩
def EVC_FCFG : RegD := ⟨0x30400, 0x0, 1, 0x0, 1, [EVC_FCFG_FEN, EVC_FCFG_WIN]⟩
/-! EVC_FSTAT (13_*.md, R547) -/
def EVC_FSTAT_OPEN : Field := ⟨0x30404, 0x0, 0x0, 13, 8, .ro, 0, false, none, 0⟩
def EVC_FSTAT_NOMERGE : Field := ⟨0x30404, 0x0, 0x0, 3, 3, .w1c, 0, false, none, 0⟩
def EVC_FSTAT_RLOST : Field := ⟨0x30404, 0x0, 0x0, 2, 2, .w1c, 0, false, none, 0⟩
def EVC_FSTAT_LOGFULL : Field := ⟨0x30404, 0x0, 0x0, 1, 1, .w1c, 0, false, none, 0⟩
def EVC_FSTAT_NEWREC : Field := ⟨0x30404, 0x0, 0x0, 0, 0, .w1c, 0, false, none, 0⟩
def EVC_FSTAT : RegD := ⟨0x30404, 0x0, 1, 0x0, 1, [EVC_FSTAT_OPEN, EVC_FSTAT_NOMERGE, EVC_FSTAT_RLOST, EVC_FSTAT_LOGFULL, EVC_FSTAT_NEWREC]⟩
/-! EVC_FHEAD (13_*.md, R547) -/
def EVC_FHEAD_HEAD : Field := ⟨0x30408, 0x0, 0x0, 7, 0, .ro, 0, false, none, 0⟩
def EVC_FHEAD : RegD := ⟨0x30408, 0x0, 1, 0x0, 1, [EVC_FHEAD_HEAD]⟩
/-! EVC_FTAIL (13_*.md, R547) -/
def EVC_FTAIL_TAIL : Field := ⟨0x3040C, 0x0, 0x0, 7, 0, .rw, 0, false, none, 0⟩
def EVC_FTAIL : RegD := ⟨0x3040C, 0x0, 1, 0x0, 1, [EVC_FTAIL_TAIL]⟩
/-! EVC_FCNT0 (13_*.md, R547) -/
def EVC_FCNT0_RLOST : Field := ⟨0x30410, 0x0, 0x0, 31, 16, .cnt, 0, false, some (0x30418, 2), 0⟩
def EVC_FCNT0_FLOST : Field := ⟨0x30410, 0x0, 0x0, 15, 0, .cnt, 0, false, some (0x30418, 1), 0⟩
def EVC_FCNT0 : RegD := ⟨0x30410, 0x0, 1, 0x0, 1, [EVC_FCNT0_RLOST, EVC_FCNT0_FLOST]⟩
/-! EVC_FCNT1 (13_*.md, R547) -/
def EVC_FCNT1_NOMERGE : Field := ⟨0x30414, 0x0, 0x0, 15, 0, .cnt, 0, false, some (0x30418, 0), 0⟩
def EVC_FCNT1 : RegD := ⟨0x30414, 0x0, 1, 0x0, 1, [EVC_FCNT1_NOMERGE]⟩
/-! EVC_FCNTCOLL (13_*.md, R547) -/
def EVC_FCNTCOLL_RLOST_COLL : Field := ⟨0x30418, 0x0, 0x0, 2, 2, .w1c, 0, false, none, 0⟩
def EVC_FCNTCOLL_FLOST_COLL : Field := ⟨0x30418, 0x0, 0x0, 1, 1, .w1c, 0, false, none, 0⟩
def EVC_FCNTCOLL_NOMERGE_COLL : Field := ⟨0x30418, 0x0, 0x0, 0, 0, .w1c, 0, false, none, 0⟩
def EVC_FCNTCOLL : RegD := ⟨0x30418, 0x0, 1, 0x0, 1, [EVC_FCNTCOLL_RLOST_COLL, EVC_FCNTCOLL_FLOST_COLL, EVC_FCNTCOLL_NOMERGE_COLL]⟩
/-! EVC_ROUTE (13_*.md, R547) -/
def EVC_ROUTE_TYPE : Field := ⟨0x34000, 0x4, 0x0, 31, 30, .rw, 0, false, none, 0⟩
def EVC_ROUTE_FPIN : Field := ⟨0x34000, 0x4, 0x0, 29, 29, .rw, 0, false, none, 0⟩
def EVC_ROUTE_INST : Field := ⟨0x34000, 0x4, 0x0, 12, 6, .rw, 0, false, none, 0⟩
def EVC_ROUTE_VEC : Field := ⟨0x34000, 0x4, 0x0, 5, 0, .rw, 0, false, none, 0⟩
def EVC_ROUTE : RegD := ⟨0x34000, 0x4, 1280, 0x0, 1, [EVC_ROUTE_TYPE, EVC_ROUTE_FPIN, EVC_ROUTE_INST, EVC_ROUTE_VEC]⟩
/-! EVC_VCFG (13_*.md, R547) -/
def EVC_VCFG_STATE : Field := ⟨0x38000, 0x100, 0x4, 31, 30, .ro, 0, false, none, 0⟩
def EVC_VCFG_RPT : Field := ⟨0x38000, 0x100, 0x4, 27, 20, .rw, 0, false, none, 0⟩
def EVC_VCFG_CTIME : Field := ⟨0x38000, 0x100, 0x4, 19, 8, .rw, 1, false, none, 0⟩
def EVC_VCFG_CCNT : Field := ⟨0x38000, 0x100, 0x4, 7, 0, .rw, 1, false, none, 0⟩
def EVC_VCFG : RegD := ⟨0x38000, 0x100, 128, 0x4, 64, [EVC_VCFG_STATE, EVC_VCFG_RPT, EVC_VCFG_CTIME, EVC_VCFG_CCNT]⟩
/-! CLK_STAT (14_*.md, R573) -/
def CLK_STAT_CFGERR : Field := ⟨0x10000, 0x0, 0x0, 1, 1, .w1c, 0, false, none, 0⟩
def CLK_STAT_OSCOK : Field := ⟨0x10000, 0x0, 0x0, 0, 0, .ro, 1, false, none, 0⟩
def CLK_STAT : RegD := ⟨0x10000, 0x0, 1, 0x0, 1, [CLK_STAT_CFGERR, CLK_STAT_OSCOK]⟩
/-! CLK_EVT (14_*.md, R573) -/
def CLK_EVT_SWREF : Field := ⟨0x10004, 0x0, 0x0, 1, 1, .w1c, 0, false, none, 0⟩
def CLK_EVT_LOL : Field := ⟨0x10004, 0x0, 0x0, 0, 0, .w1c, 0, false, none, 0⟩
def CLK_EVT : RegD := ⟨0x10004, 0x0, 1, 0x0, 1, [CLK_EVT_SWREF, CLK_EVT_LOL]⟩
/-! CLK_EVTEN (14_*.md, R573) -/
def CLK_EVTEN_EN : Field := ⟨0x10008, 0x0, 0x0, 1, 0, .rw, 0, false, none, 0⟩
def CLK_EVTEN : RegD := ⟨0x10008, 0x0, 1, 0x0, 1, [CLK_EVTEN_EN]⟩
/-! CLK_CNT (14_*.md, R573) -/
def CLK_CNT_SWITCH : Field := ⟨0x1000C, 0x0, 0x0, 31, 16, .cnt, 0, true, some (0x10010, 1), 0⟩
def CLK_CNT_LOL : Field := ⟨0x1000C, 0x0, 0x0, 15, 0, .cnt, 0, false, some (0x10010, 0), 0⟩
def CLK_CNT : RegD := ⟨0x1000C, 0x0, 1, 0x0, 1, [CLK_CNT_SWITCH, CLK_CNT_LOL]⟩
/-! CLK_CNTCOLL (14_*.md, R573) -/
def CLK_CNTCOLL_SWITCH_COLL : Field := ⟨0x10010, 0x0, 0x0, 1, 1, .w1c, 0, false, none, 0⟩
def CLK_CNTCOLL_LOL_COLL : Field := ⟨0x10010, 0x0, 0x0, 0, 0, .w1c, 0, false, none, 0⟩
def CLK_CNTCOLL : RegD := ⟨0x10010, 0x0, 1, 0x0, 1, [CLK_CNTCOLL_SWITCH_COLL, CLK_CNTCOLL_LOL_COLL]⟩
/-! CLK_PLLCTL (14_*.md, R573) -/
def CLK_PLLCTL_EN : Field := ⟨0x10100, 0x10, 0x0, 31, 31, .rw, 0, false, none, 6⟩
def CLK_PLLCTL_N : Field := ⟨0x10100, 0x10, 0x0, 23, 16, .rw, 0, false, none, 7⟩
def CLK_PLLCTL_P : Field := ⟨0x10100, 0x10, 0x0, 1, 0, .rw, 1, false, none, 8⟩
def CLK_PLLCTL : RegD := ⟨0x10100, 0x10, 8, 0x0, 1, [CLK_PLLCTL_EN, CLK_PLLCTL_N, CLK_PLLCTL_P]⟩
/-! CLK_PLLSTAT (14_*.md, R573) -/
def CLK_PLLSTAT_READY : Field := ⟨0x10104, 0x10, 0x0, 1, 1, .ro, 0, false, none, 0⟩
def CLK_PLLSTAT_LOCK : Field := ⟨0x10104, 0x10, 0x0, 0, 0, .ro, 0, false, none, 0⟩
def CLK_PLLSTAT : RegD := ⟨0x10104, 0x10, 8, 0x0, 1, [CLK_PLLSTAT_READY, CLK_PLLSTAT_LOCK]⟩
/-! CLK_DSEL (14_*.md, R573) -/
def CLK_DSEL_SWPEND : Field := ⟨0x10200, 0x4, 0x0, 31, 31, .ro, 0, false, none, 0⟩
def CLK_DSEL_CUR : Field := ⟨0x10200, 0x4, 0x0, 27, 24, .ro, 0, false, none, 9⟩
def CLK_DSEL_SRC : Field := ⟨0x10200, 0x4, 0x0, 11, 8, .rw, 0, false, none, 9⟩
def CLK_DSEL : RegD := ⟨0x10200, 0x4, 12, 0x0, 1, [CLK_DSEL_SWPEND, CLK_DSEL_CUR, CLK_DSEL_SRC]⟩
/-! PWR_CTL (14_*.md, R575) -/
def PWR_CTL_PEN : Field := ⟨0x20000, 0x0, 0x0, 0, 0, .rw, 0, false, none, 0⟩
def PWR_CTL : RegD := ⟨0x20000, 0x0, 1, 0x0, 1, [PWR_CTL_PEN]⟩
/-! PWR_DCTL (14_*.md, R575) -/
def PWR_DCTL_OFFDLY : Field := ⟨0x20004, 0x0, 0x0, 15, 8, .rw, 100, false, none, 0⟩
def PWR_DCTL_STATE : Field := ⟨0x20004, 0x0, 0x0, 6, 4, .ro, 0, false, none, 0⟩
def PWR_DCTL_LIMIT : Field := ⟨0x20004, 0x0, 0x0, 2, 0, .rw, 3, false, none, 0⟩
def PWR_DCTL : RegD := ⟨0x20004, 0x0, 1, 0x0, 1, [PWR_DCTL_OFFDLY, PWR_DCTL_STATE, PWR_DCTL_LIMIT]⟩
/-! PWR_GUARD (14_*.md, R575) -/
def PWR_GUARD_GUARD : Field := ⟨0x20008, 0x0, 0x0, 19, 0, .rw, 2000, false, none, 0⟩
def PWR_GUARD : RegD := ⟨0x20008, 0x0, 1, 0x0, 1, [PWR_GUARD_GUARD]⟩
/-! PWR_TH (14_*.md, R575) -/
def PWR_TH_TDEEP : Field := ⟨0x2000C, 0x0, 0x0, 31, 16, .rw, 500, false, none, 0⟩
def PWR_TH_TSLEEP : Field := ⟨0x2000C, 0x0, 0x0, 15, 0, .rw, 5, false, none, 0⟩
def PWR_TH : RegD := ⟨0x2000C, 0x0, 1, 0x0, 1, [PWR_TH_TDEEP, PWR_TH_TSLEEP]⟩
/-! PWR_BIAS (14_*.md, R575) -/
def PWR_BIAS_RUNFBB : Field := ⟨0x20010, 0x0, 0x0, 31, 24, .ro, 0, false, none, 0⟩
def PWR_BIAS_SLPRBB : Field := ⟨0x20010, 0x0, 0x0, 23, 16, .rw, 0, false, none, 0⟩
def PWR_BIAS_DEEPSB : Field := ⟨0x20010, 0x0, 0x0, 15, 8, .rw, 0, false, none, 0⟩
def PWR_BIAS_RETSB : Field := ⟨0x20010, 0x0, 0x0, 7, 0, .rw, 0, false, none, 0⟩
def PWR_BIAS : RegD := ⟨0x20010, 0x0, 1, 0x0, 1, [PWR_BIAS_RUNFBB, PWR_BIAS_SLPRBB, PWR_BIAS_DEEPSB, PWR_BIAS_RETSB]⟩
/-! PWR_EVT (14_*.md, R575) -/
def PWR_EVT_SUSPREF : Field := ⟨0x20018, 0x0, 0x0, 3, 3, .w1c, 0, false, none, 0⟩
def PWR_EVT_LATEWAKE : Field := ⟨0x20018, 0x0, 0x0, 2, 2, .w1c, 0, false, none, 0⟩
def PWR_EVT_NUDGELOST : Field := ⟨0x20018, 0x0, 0x0, 1, 1, .w1c, 0, false, none, 0⟩
def PWR_EVT_OFFWAKE : Field := ⟨0x20018, 0x0, 0x0, 0, 0, .w1c, 0, false, none, 0⟩
def PWR_EVT : RegD := ⟨0x20018, 0x0, 1, 0x0, 1, [PWR_EVT_SUSPREF, PWR_EVT_LATEWAKE, PWR_EVT_NUDGELOST, PWR_EVT_OFFWAKE]⟩
/-! PWR_EVTEN (14_*.md, R575) -/
def PWR_EVTEN_EN : Field := ⟨0x2001C, 0x0, 0x0, 3, 0, .rw, 0, false, none, 0⟩
def PWR_EVTEN : RegD := ⟨0x2001C, 0x0, 1, 0x0, 1, [PWR_EVTEN_EN]⟩
/-! PWR_CNT (14_*.md, R575) -/
def PWR_CNT_NUDGELOST : Field := ⟨0x20020, 0x0, 0x0, 31, 16, .cnt, 0, false, some (0x20024, 1), 0⟩
def PWR_CNT_LATEWAKE : Field := ⟨0x20020, 0x0, 0x0, 15, 0, .cnt, 0, false, some (0x20024, 0), 0⟩
def PWR_CNT : RegD := ⟨0x20020, 0x0, 1, 0x0, 1, [PWR_CNT_NUDGELOST, PWR_CNT_LATEWAKE]⟩
/-! PWR_CNTCOLL (14_*.md, R575) -/
def PWR_CNTCOLL_NUDGELOST_COLL : Field := ⟨0x20024, 0x0, 0x0, 1, 1, .w1c, 0, false, none, 0⟩
def PWR_CNTCOLL_LATEWAKE_COLL : Field := ⟨0x20024, 0x0, 0x0, 0, 0, .w1c, 0, false, none, 0⟩
def PWR_CNTCOLL : RegD := ⟨0x20024, 0x0, 1, 0x0, 1, [PWR_CNTCOLL_NUDGELOST_COLL, PWR_CNTCOLL_LATEWAKE_COLL]⟩
/-! PWR_WAKE0 (14_*.md, R575) -/
def PWR_WAKE0_VALID : Field := ⟨0x20028, 0x0, 0x0, 31, 31, .ro, 0, false, none, 0⟩
def PWR_WAKE0_KIND : Field := ⟨0x20028, 0x0, 0x0, 30, 28, .ro, 0, false, none, 0⟩
def PWR_WAKE0_FROM : Field := ⟨0x20028, 0x0, 0x0, 27, 25, .ro, 0, false, none, 0⟩
def PWR_WAKE0_CAUSE : Field := ⟨0x20028, 0x0, 0x0, 19, 16, .ro, 0, false, none, 0⟩
def PWR_WAKE0_INDEX : Field := ⟨0x20028, 0x0, 0x0, 9, 0, .ro, 0, false, none, 0⟩
def PWR_WAKE0 : RegD := ⟨0x20028, 0x0, 1, 0x0, 1, [PWR_WAKE0_VALID, PWR_WAKE0_KIND, PWR_WAKE0_FROM, PWR_WAKE0_CAUSE, PWR_WAKE0_INDEX]⟩
/-! PWR_OFFWAKE0 (14_*.md, R575) -/
def PWR_OFFWAKE0_VALID : Field := ⟨0x20030, 0x0, 0x0, 31, 31, .ro, 0, false, none, 0⟩
def PWR_OFFWAKE0_KIND : Field := ⟨0x20030, 0x0, 0x0, 30, 28, .ro, 0, false, none, 0⟩
def PWR_OFFWAKE0_FROM : Field := ⟨0x20030, 0x0, 0x0, 27, 25, .ro, 0, false, none, 0⟩
def PWR_OFFWAKE0_CAUSE : Field := ⟨0x20030, 0x0, 0x0, 19, 16, .ro, 0, false, none, 0⟩
def PWR_OFFWAKE0_INDEX : Field := ⟨0x20030, 0x0, 0x0, 9, 0, .ro, 0, false, none, 0⟩
def PWR_OFFWAKE0 : RegD := ⟨0x20030, 0x0, 1, 0x0, 1, [PWR_OFFWAKE0_VALID, PWR_OFFWAKE0_KIND, PWR_OFFWAKE0_FROM, PWR_OFFWAKE0_CAUSE, PWR_OFFWAKE0_INDEX]⟩
/-! PWR_WAKE1 (14_*.md, R575) -/
def PWR_WAKE1_TIME : Field := ⟨0x2002C, 0x0, 0x0, 31, 0, .ro, 0, false, none, 0⟩
def PWR_WAKE1 : RegD := ⟨0x2002C, 0x0, 1, 0x0, 1, [PWR_WAKE1_TIME]⟩
/-! PWR_OFFWAKE1 (14_*.md, R575) -/
def PWR_OFFWAKE1_TIME : Field := ⟨0x20034, 0x0, 0x0, 31, 0, .ro, 0, false, none, 0⟩
def PWR_OFFWAKE1 : RegD := ⟨0x20034, 0x0, 1, 0x0, 1, [PWR_OFFWAKE1_TIME]⟩
/-! PWR_WAKEEN (14_*.md, R575) -/
def PWR_WAKEEN_I2C : Field := ⟨0x20038, 0x0, 0x0, 16, 16, .rw, 0, false, none, 0⟩
def PWR_WAKEEN_GPIO : Field := ⟨0x20038, 0x0, 0x0, 15, 0, .rw, 0, false, none, 0⟩
def PWR_WAKEEN : RegD := ⟨0x20038, 0x0, 1, 0x0, 1, [PWR_WAKEEN_I2C, PWR_WAKEEN_GPIO]⟩
/-! PWR_RCTL (14_*.md, R575) -/
def PWR_RCTL_STATE : Field := ⟨0x20100, 0x8, 0x0, 10, 8, .ro, 1, false, none, 0⟩
def PWR_RCTL_LIMIT : Field := ⟨0x20100, 0x8, 0x0, 2, 0, .rw, 3, false, none, 0⟩
def PWR_RCTL : RegD := ⟨0x20100, 0x8, 32, 0x0, 1, [PWR_RCTL_STATE, PWR_RCTL_LIMIT]⟩
/-! PWR_RPORTS (14_*.md, R575) -/
def PWR_RPORTS_PORTS : Field := ⟨0x20104, 0x8, 0x0, 15, 0, .rw, 0, false, none, 0⟩
def PWR_RPORTS : RegD := ⟨0x20104, 0x8, 32, 0x0, 1, [PWR_RPORTS_PORTS]⟩
/-! PWR_PCTL (14_*.md, R575) -/
def PWR_PCTL_L2OK : Field := ⟨0x20200, 0x4, 0x0, 16, 16, .rw, 0, false, none, 0⟩
def PWR_PCTL_STATE : Field := ⟨0x20200, 0x4, 0x0, 10, 8, .ro, 1, false, none, 0⟩
def PWR_PCTL_LIMIT : Field := ⟨0x20200, 0x4, 0x0, 2, 0, .rw, 3, false, none, 0⟩
def PWR_PCTL : RegD := ⟨0x20200, 0x4, 16, 0x0, 1, [PWR_PCTL_L2OK, PWR_PCTL_STATE, PWR_PCTL_LIMIT]⟩
/-! HLT_CTL (15_*.md, R599) -/
def HLT_CTL_AUTOPLL : Field := ⟨0x28000, 0x0, 0x0, 5, 5, .rw, 1, false, none, 0⟩
def HLT_CTL_CORESW : Field := ⟨0x28000, 0x0, 0x0, 4, 4, .rw, 1, false, none, 0⟩
def HLT_CTL_AUTOGB : Field := ⟨0x28000, 0x0, 0x0, 3, 3, .rw, 1, false, none, 0⟩
def HLT_CTL_COPY : Field := ⟨0x28000, 0x0, 0x0, 2, 2, .rw, 1, false, none, 0⟩
def HLT_CTL_AUTOSWAP : Field := ⟨0x28000, 0x0, 0x0, 1, 1, .rw, 1, false, none, 0⟩
def HLT_CTL_EN : Field := ⟨0x28000, 0x0, 0x0, 0, 0, .rw, 1, false, none, 0⟩
def HLT_CTL : RegD := ⟨0x28000, 0x0, 1, 0x0, 1, [HLT_CTL_AUTOPLL, HLT_CTL_CORESW, HLT_CTL_AUTOGB, HLT_CTL_COPY, HLT_CTL_AUTOSWAP, HLT_CTL_EN]⟩
/-! HLT_JUDGE (15_*.md, R599) -/
def HLT_JUDGE_PARLIM : Field := ⟨0x28004, 0x0, 0x0, 27, 24, .rw, 4, false, none, 0⟩
def HLT_JUDGE_FAILLIM : Field := ⟨0x28004, 0x0, 0x0, 19, 16, .rw, 2, false, none, 0⟩
def HLT_JUDGE_MISSLIM : Field := ⟨0x28004, 0x0, 0x0, 11, 8, .rw, 3, false, none, 0⟩
def HLT_JUDGE_GRACE : Field := ⟨0x28004, 0x0, 0x0, 7, 0, .rw, 10, false, none, 0⟩
def HLT_JUDGE : RegD := ⟨0x28004, 0x0, 1, 0x0, 1, [HLT_JUDGE_PARLIM, HLT_JUDGE_FAILLIM, HLT_JUDGE_MISSLIM, HLT_JUDGE_GRACE]⟩
/-! HLT_STAT (15_*.md, R599) -/
def HLT_STAT_DEAD : Field := ⟨0x28008, 0x0, 0x0, 26, 16, .ro, 0, false, none, 0⟩
def HLT_STAT_RESLEFT : Field := ⟨0x28008, 0x0, 0x0, 5, 0, .ro, 32, false, none, 0⟩
def HLT_STAT : RegD := ⟨0x28008, 0x0, 1, 0x0, 1, [HLT_STAT_DEAD, HLT_STAT_RESLEFT]⟩
/-! HLT_EVT (15_*.md, R599) -/
def HLT_EVT_FUSELOW : Field := ⟨0x2800C, 0x0, 0x0, 7, 7, .w1c, 0, false, none, 0⟩
def HLT_EVT_PLLRES : Field := ⟨0x2800C, 0x0, 0x0, 6, 6, .w1c, 0, false, none, 0⟩
def HLT_EVT_GBMAX : Field := ⟨0x2800C, 0x0, 0x0, 5, 5, .w1c, 0, false, none, 0⟩
def HLT_EVT_AGE : Field := ⟨0x2800C, 0x0, 0x0, 4, 4, .w1c, 0, false, none, 0⟩
def HLT_EVT_NORESV : Field := ⟨0x2800C, 0x0, 0x0, 3, 3, .w1c, 0, false, none, 0⟩
def HLT_EVT_ZOMBIE : Field := ⟨0x2800C, 0x0, 0x0, 2, 2, .w1c, 0, false, none, 0⟩
def HLT_EVT_SWAP : Field := ⟨0x2800C, 0x0, 0x0, 1, 1, .w1c, 0, false, none, 0⟩
def HLT_EVT_SUSPECT : Field := ⟨0x2800C, 0x0, 0x0, 0, 0, .w1c, 0, false, none, 0⟩
def HLT_EVT : RegD := ⟨0x2800C, 0x0, 1, 0x0, 1, [HLT_EVT_FUSELOW, HLT_EVT_PLLRES, HLT_EVT_GBMAX, HLT_EVT_AGE, HLT_EVT_NORESV, HLT_EVT_ZOMBIE, HLT_EVT_SWAP, HLT_EVT_SUSPECT]⟩
/-! HLT_EVTEN (15_*.md, R599) -/
def HLT_EVTEN_EN : Field := ⟨0x28010, 0x0, 0x0, 7, 0, .rw, 0, false, none, 0⟩
def HLT_EVTEN : RegD := ⟨0x28010, 0x0, 1, 0x0, 1, [HLT_EVTEN_EN]⟩
/-! HLT_CNT0 (15_*.md, R599) -/
def HLT_CNT0_ZOMBIE : Field := ⟨0x28014, 0x0, 0x0, 31, 0, .cnt, 0, false, some (0x2801C, 2), 0⟩
def HLT_CNT0 : RegD := ⟨0x28014, 0x0, 1, 0x0, 1, [HLT_CNT0_ZOMBIE]⟩
/-! HLT_CNT1 (15_*.md, R599) -/
def HLT_CNT1_SUSPECT : Field := ⟨0x28018, 0x0, 0x0, 31, 16, .cnt, 0, false, some (0x2801C, 1), 0⟩
def HLT_CNT1_SWAPS : Field := ⟨0x28018, 0x0, 0x0, 15, 0, .cnt, 0, false, some (0x2801C, 0), 0⟩
def HLT_CNT1 : RegD := ⟨0x28018, 0x0, 1, 0x0, 1, [HLT_CNT1_SUSPECT, HLT_CNT1_SWAPS]⟩
/-! HLT_CNTCOLL (15_*.md, R599) -/
def HLT_CNTCOLL_ZOMBIE_COLL : Field := ⟨0x2801C, 0x0, 0x0, 2, 2, .w1c, 0, false, none, 0⟩
def HLT_CNTCOLL_SUSPECT_COLL : Field := ⟨0x2801C, 0x0, 0x0, 1, 1, .w1c, 0, false, none, 0⟩
def HLT_CNTCOLL_SWAPS_COLL : Field := ⟨0x2801C, 0x0, 0x0, 0, 0, .w1c, 0, false, none, 0⟩
def HLT_CNTCOLL : RegD := ⟨0x2801C, 0x0, 1, 0x0, 1, [HLT_CNTCOLL_ZOMBIE_COLL, HLT_CNTCOLL_SUSPECT_COLL, HLT_CNTCOLL_SWAPS_COLL]⟩
/-! HLT_SWAP (15_*.md, R599) -/
def HLT_SWAP_BUSY : Field := ⟨0x28020, 0x0, 0x0, 31, 31, .ro, 0, false, none, 0⟩
def HLT_SWAP_FUSED : Field := ⟨0x28020, 0x0, 0x0, 30, 30, .ro, 0, false, none, 0⟩
def HLT_SWAP_COPYERR : Field := ⟨0x28020, 0x0, 0x0, 29, 29, .ro, 0, false, none, 0⟩
def HLT_SWAP_RESULT : Field := ⟨0x28020, 0x0, 0x0, 28, 27, .ro, 0, false, none, 0⟩
def HLT_SWAP_OLDPHYS : Field := ⟨0x28020, 0x0, 0x0, 26, 21, .ro, 0, false, none, 0⟩
def HLT_SWAP_NEWPHYS : Field := ⟨0x28020, 0x0, 0x0, 20, 15, .ro, 0, false, none, 0⟩
def HLT_SWAP_ENGINE : Field := ⟨0x28020, 0x0, 0x0, 9, 0, .ro, 0, false, none, 0⟩
def HLT_SWAP : RegD := ⟨0x28020, 0x0, 1, 0x0, 1, [HLT_SWAP_BUSY, HLT_SWAP_FUSED, HLT_SWAP_COPYERR, HLT_SWAP_RESULT, HLT_SWAP_OLDPHYS, HLT_SWAP_NEWPHYS, HLT_SWAP_ENGINE]⟩
/-! HLT_GBAND (15_*.md, R599) -/
def HLT_GBAND_VREQ : Field := ⟨0x28024, 0x0, 0x0, 19, 8, .ro, 750, false, none, 0⟩
def HLT_GBAND_STEP : Field := ⟨0x28024, 0x0, 0x0, 2, 0, .ro, 0, false, none, 0⟩
def HLT_GBAND : RegD := ⟨0x28024, 0x0, 1, 0x0, 1, [HLT_GBAND_VREQ, HLT_GBAND_STEP]⟩
/-! HLT_AGECFG (15_*.md, R599) -/
def HLT_AGECFG_VSETTLE : Field := ⟨0x28028, 0x0, 0x0, 31, 24, .rw, 100, false, none, 0⟩
def HLT_AGECFG_PERIOD : Field := ⟨0x28028, 0x0, 0x0, 23, 16, .rw, 10, false, none, 0⟩
def HLT_AGECFG_HOLD : Field := ⟨0x28028, 0x0, 0x0, 15, 8, .rw, 3, false, none, 0⟩
def HLT_AGECFG_MTH : Field := ⟨0x28028, 0x0, 0x0, 7, 0, .rw, 20, false, none, 0⟩
def HLT_AGECFG : RegD := ⟨0x28028, 0x0, 1, 0x0, 1, [HLT_AGECFG_VSETTLE, HLT_AGECFG_PERIOD, HLT_AGECFG_HOLD, HLT_AGECFG_MTH]⟩
/-! HLT_AGESTAT (15_*.md, R599) -/
def HLT_AGESTAT_WORSTMON : Field := ⟨0x2802C, 0x0, 0x0, 23, 16, .ro, 0, false, none, 0⟩
def HLT_AGESTAT_WORST : Field := ⟨0x2802C, 0x0, 0x0, 7, 0, .ro, 255, false, none, 0⟩
def HLT_AGESTAT : RegD := ⟨0x2802C, 0x0, 1, 0x0, 1, [HLT_AGESTAT_WORSTMON, HLT_AGESTAT_WORST]⟩
/-! HLT_PLL (15_*.md, R599) -/
def HLT_PLL_RETIRE0 : Field := ⟨0x28030, 0x0, 0x0, 2, 2, .w1s, 0, false, none, 0⟩
def HLT_PLL_C0RET : Field := ⟨0x28030, 0x0, 0x0, 1, 1, .ro, 0, false, none, 0⟩
def HLT_PLL_C0SUS : Field := ⟨0x28030, 0x0, 0x0, 0, 0, .w1c, 0, false, none, 0⟩
def HLT_PLL : RegD := ⟨0x28030, 0x0, 1, 0x0, 1, [HLT_PLL_RETIRE0, HLT_PLL_C0RET, HLT_PLL_C0SUS]⟩
/-! HLT_FUSE (15_*.md, R599) -/
def HLT_FUSE_LEFT : Field := ⟨0x28034, 0x0, 0x0, 6, 0, .ro, 64, false, none, 0⟩
def HLT_FUSE : RegD := ⟨0x28034, 0x0, 1, 0x0, 1, [HLT_FUSE_LEFT]⟩
/-! HLT_CSLOT (15_*.md, R599) -/
def HLT_CSLOT_STATE : Field := ⟨0x28040, 0x4, 0x0, 31, 30, .ro, 0, false, none, 10⟩
def HLT_CSLOT_BEAT : Field := ⟨0x28040, 0x4, 0x0, 0, 0, .wo, 0, false, none, 0⟩
def HLT_CSLOT : RegD := ⟨0x28040, 0x4, 5, 0x0, 1, [HLT_CSLOT_STATE, HLT_CSLOT_BEAT]⟩
/-! HLT_ID0 (15_*.md, R599) -/
def HLT_ID0_LOT_LO : Field := ⟨0x28060, 0x0, 0x0, 31, 0, .ro, 0, false, none, 0⟩
def HLT_ID0 : RegD := ⟨0x28060, 0x0, 1, 0x0, 1, [HLT_ID0_LOT_LO]⟩
/-! HLT_ID1 (15_*.md, R599) -/
def HLT_ID1_WAFER : Field := ⟨0x28064, 0x0, 0x0, 23, 16, .ro, 0, false, none, 0⟩
def HLT_ID1_LOT_HI : Field := ⟨0x28064, 0x0, 0x0, 15, 0, .ro, 0, false, none, 0⟩
def HLT_ID1 : RegD := ⟨0x28064, 0x0, 1, 0x0, 1, [HLT_ID1_WAFER, HLT_ID1_LOT_HI]⟩
/-! HLT_ID2 (15_*.md, R599) -/
def HLT_ID2_DIEY : Field := ⟨0x28068, 0x0, 0x0, 15, 8, .ro, 0, false, none, 0⟩
def HLT_ID2_DIEX : Field := ⟨0x28068, 0x0, 0x0, 7, 0, .ro, 0, false, none, 0⟩
def HLT_ID2 : RegD := ⟨0x28068, 0x0, 1, 0x0, 1, [HLT_ID2_DIEY, HLT_ID2_DIEX]⟩
/-! HLT_PSLOT (15_*.md, R599) -/
def HLT_PSLOT_PSTATE : Field := ⟨0x28400, 0x4, 0x0, 31, 30, .ro, 0, false, none, 11⟩
def HLT_PSLOT_ALIVE : Field := ⟨0x28400, 0x4, 0x0, 29, 29, .w1c, 0, false, none, 0⟩
def HLT_PSLOT_FUSED : Field := ⟨0x28400, 0x4, 0x0, 28, 28, .ro, 0, false, none, 0⟩
def HLT_PSLOT_LOGICAL : Field := ⟨0x28400, 0x4, 0x0, 25, 16, .ro, 0, false, none, 12⟩
def HLT_PSLOT_ZDROPS : Field := ⟨0x28400, 0x4, 0x0, 15, 0, .ro, 0, false, none, 0⟩
def HLT_PSLOT : RegD := ⟨0x28400, 0x4, 1056, 0x0, 1, [HLT_PSLOT_PSTATE, HLT_PSLOT_ALIVE, HLT_PSLOT_FUSED, HLT_PSLOT_LOGICAL, HLT_PSLOT_ZDROPS]⟩
/-! HLT_LOC (15_*.md, R599) -/
def HLT_LOC_Y : Field := ⟨0x2A000, 0x4, 0x0, 31, 16, .ro, 0, false, none, 0⟩
def HLT_LOC_X : Field := ⟨0x2A000, 0x4, 0x0, 15, 0, .ro, 0, false, none, 0⟩
def HLT_LOC : RegD := ⟨0x2A000, 0x4, 1056, 0x0, 1, [HLT_LOC_Y, HLT_LOC_X]⟩
/-! GLB_ID (16_*.md, R616) -/
def GLB_ID_DEVID : Field := ⟨0x0, 0x0, 0x0, 31, 16, .ro, 17936, false, none, 0⟩
def GLB_ID_STEP : Field := ⟨0x0, 0x0, 0x0, 15, 8, .ro, 0, false, none, 0⟩
def GLB_ID : RegD := ⟨0x0, 0x0, 1, 0x0, 1, [GLB_ID_DEVID, GLB_ID_STEP]⟩
/-! GLB_STRAP (16_*.md, R616) -/
def GLB_STRAP_MGR_PORT : Field := ⟨0x4, 0x0, 0x0, 4, 3, .ro, 0, false, none, 0⟩
def GLB_STRAP_OSC_DLY : Field := ⟨0x4, 0x0, 0x0, 2, 0, .ro, 0, false, none, 0⟩
def GLB_STRAP : RegD := ⟨0x4, 0x0, 1, 0x0, 1, [GLB_STRAP_MGR_PORT, GLB_STRAP_OSC_DLY]⟩
/-! GLB_CTL (16_*.md, R616) -/
def GLB_CTL_FWRST : Field := ⟨0x8, 0x0, 0x0, 1, 1, .w1s, 0, false, none, 0⟩
def GLB_CTL_WARMRST : Field := ⟨0x8, 0x0, 0x0, 0, 0, .w1s, 0, false, none, 0⟩
def GLB_CTL : RegD := ⟨0x8, 0x0, 1, 0x0, 1, [GLB_CTL_FWRST, GLB_CTL_WARMRST]⟩
/-! GLB_BOOTSTAT (16_*.md, R616) -/
def GLB_BOOTSTAT_DONE : Field := ⟨0xC, 0x0, 0x0, 31, 31, .ro, 0, false, none, 0⟩
def GLB_BOOTSTAT_FAIL : Field := ⟨0xC, 0x0, 0x0, 30, 30, .ro, 0, false, none, 0⟩
def GLB_BOOTSTAT_SLOT : Field := ⟨0xC, 0x0, 0x0, 29, 29, .ro, 0, false, none, 0⟩
def GLB_BOOTSTAT_DEGRADED : Field := ⟨0xC, 0x0, 0x0, 28, 28, .ro, 0, false, none, 0⟩
def GLB_BOOTSTAT_CODE : Field := ⟨0xC, 0x0, 0x0, 7, 0, .ro, 0, false, none, 0⟩
def GLB_BOOTSTAT : RegD := ⟨0xC, 0x0, 1, 0x0, 1, [GLB_BOOTSTAT_DONE, GLB_BOOTSTAT_FAIL, GLB_BOOTSTAT_SLOT, GLB_BOOTSTAT_DEGRADED, GLB_BOOTSTAT_CODE]⟩
/-! GLB_BIST (16_*.md, R616) -/
def GLB_BIST_SOFT : Field := ⟨0x10, 0x0, 0x0, 31, 16, .ro, 0, false, none, 0⟩
def GLB_BIST_GFAIL : Field := ⟨0x10, 0x0, 0x0, 3, 0, .ro, 0, false, none, 0⟩
def GLB_BIST : RegD := ⟨0x10, 0x0, 1, 0x0, 1, [GLB_BIST_SOFT, GLB_BIST_GFAIL]⟩
/-! GLB_RSTCAUSE (16_*.md, R616) -/
def GLB_RSTCAUSE_CAUSE : Field := ⟨0x14, 0x0, 0x0, 2, 0, .ro, 0, false, none, 0⟩
def GLB_RSTCAUSE : RegD := ⟨0x14, 0x0, 1, 0x0, 1, [GLB_RSTCAUSE_CAUSE]⟩
/-! GLB_ENGRST (16_*.md, R616) -/
def GLB_ENGRST_GO : Field := ⟨0x18, 0x0, 0x0, 31, 31, .w1s, 0, false, none, 0⟩
def GLB_ENGRST_RESULT : Field := ⟨0x18, 0x0, 0x0, 30, 29, .ro, 0, false, none, 0⟩
def GLB_ENGRST_ENGINE : Field := ⟨0x18, 0x0, 0x0, 9, 0, .rw, 0, false, none, 0⟩
def GLB_ENGRST : RegD := ⟨0x18, 0x0, 1, 0x0, 1, [GLB_ENGRST_GO, GLB_ENGRST_RESULT, GLB_ENGRST_ENGINE]⟩
/-! GLB_PORTRST (16_*.md, R616) -/
def GLB_PORTRST_REFUSED : Field := ⟨0x1C, 0x0, 0x0, 31, 16, .w1c, 0, false, none, 0⟩
def GLB_PORTRST_GO : Field := ⟨0x1C, 0x0, 0x0, 15, 0, .w1s, 0, false, none, 0⟩
def GLB_PORTRST : RegD := ⟨0x1C, 0x0, 1, 0x0, 1, [GLB_PORTRST_REFUSED, GLB_PORTRST_GO]⟩
/-! GLB_BOOTID (16_*.md, R616) -/
def GLB_BOOTID_BOOTID : Field := ⟨0x20, 0x0, 0x0, 31, 0, .ro, 0, false, none, 0⟩
def GLB_BOOTID : RegD := ⟨0x20, 0x0, 1, 0x0, 1, [GLB_BOOTID_BOOTID]⟩
/-! GLB_BISTROPE (16_*.md, R616) -/
def GLB_BISTROPE_FAIL : Field := ⟨0x24, 0x0, 0x0, 31, 0, .ro, 0, false, none, 0⟩
def GLB_BISTROPE : RegD := ⟨0x24, 0x0, 1, 0x0, 1, [GLB_BISTROPE_FAIL]⟩
/-! EVC_CVCFG (13_*.md, R547) -/
def EVC_CVCFG_STATE : Field := ⟨0x36000, 0x4, 0x0, 31, 30, .ro, 0, false, none, 0⟩
def EVC_CVCFG_RPT : Field := ⟨0x36000, 0x4, 0x0, 27, 20, .rw, 0, false, none, 0⟩
def EVC_CVCFG_CTIME : Field := ⟨0x36000, 0x4, 0x0, 19, 8, .rw, 1, false, none, 0⟩
def EVC_CVCFG_CCNT : Field := ⟨0x36000, 0x4, 0x0, 7, 0, .rw, 1, false, none, 0⟩
def EVC_CVCFG : RegD := ⟨0x36000, 0x4, 64, 0x0, 1, [EVC_CVCFG_STATE, EVC_CVCFG_RPT, EVC_CVCFG_CTIME, EVC_CVCFG_CCNT]⟩

/-- The registers of block PTU. -/
def blkPtu : List RegD :=
  [PTU_CTL, PTU_TIMELO, PTU_TIMEHI, PTU_TIMEFR, PTU_TSETLO, PTU_TSETHI, PTU_TSETFR, PTU_TINC, PTU_TADJ, PTU_TRKCTL, PTU_TRKSRC, PTU_TRKPOSF, PTU_TRKPOSH, PTU_TRKVEL, PTU_TRKSETF, PTU_TRKSETH, PTU_TRKZCAP, PTU_TRKSTAT, PTU_TRKERR, PTU_MKCTL, PTU_MKTGT0, PTU_MKTGT1, PTU_MKSTEP0, PTU_MKSTEP1, PTU_MKSTAT, PTU_MKLOW0, PTU_MKLOW1, PTU_MKLAST0, PTU_MKLAST1, PTU_PBIND, PTU_PFRM, PTU_PCFG, PTU_PFNUM, PTU_PLAT, PTU_PSTAT, PTU_PCNT0, PTU_PCNT1, PTU_PNEXT]
/-- The registers of block EWZ. -/
def blkEwz : List RegD :=
  [EWZ_CTL, EWZ_LSTAT, EWZ_MARGIN, EWZ_MARGIN_TH, EWZ_CBLDLY, EWZ_RTCFG, EWZ_EVT, EWZ_EVTEN, EWZ_CNT0, EWZ_CNT1, EWZ_CNT2, EWZ_CNTCOLL, EWZ_HUBPOLL, EWZ_ENUM, EWZ_ADDRTAB0, EWZ_ADDRTAB1, EWZ_LOST0, EWZ_LOST1, EWZ_LOST2, EWZ_LOST3, EWZ_LOST4, EWZ_LOST5]
/-- The registers of block SCH. -/
def blkSch : List RegD :=
  [SCH_CTL, SCH_PFLBASE, SCH_BULKHEAD, SCH_BULKPOS, SCH_PWMAX, SCH_GLEN, SCH_RFXCFG, SCH_RFXSTAT, SCH_RFXMAX, SCH_CANCEL, SCH_PSTAT, SCH_PSUM, SCH_LASTGRD, SCH_PCNT0, SCH_PCNT1, SCH_PCNT2, SCH_PCNTCOLL, SCH_ANCHOR]
/-- The registers of block TSC. -/
def blkTsc : List RegD :=
  [TSC_CTL, TSC_STAT, TSC_CMD, TSC_CRBASELO, TSC_CRBASEHI, TSC_CRSIZE, TSC_CRHEAD, TSC_CRTAIL, TSC_TMRSTAT, TSC_LASTCYC, TSC_CNT0, TSC_CNT1, TSC_CNTCOLL, TSC_RDYCNT, TSC_MKROUTE, TSC_ROPECFG, TSC_FLOW]
/-- The registers of block ENG. -/
def blkEng : List RegD :=
  [ENG_RCTL, ENG_RSTAT, ENG_ACCADDR, ENG_ACCDATA, ENG_CTL, ENG_OWN, ENG_XVEC, ENG_RUNLIM, ENG_STAT, ENG_XSTAT, ENG_XCAIRN, ENG_XADDR, ENG_ESTAT, ENG_ESTEN, ENG_CNT0, ENG_CNT1, ENG_CNTCOLL, ENG_DBG, ENG_DBGPC]
/-- The registers of block HPC. -/
def blkHpc : List RegD :=
  [HPC_PCTL, HPC_PSTAT, HPC_GRANT0, HPC_GRANT1, HPC_GRANT2, HPC_GRANTRO, HPC_ERR, HPC_CNT0, HPC_CNT1, HPC_CNTCOLL, HPC_FLR]
/-- The registers of block VIM. -/
def blkVim : List RegD :=
  [VIM_STAT, VIM_VLOGHEAD, VIM_VLOGTAIL, VIM_CNT, VIM_CNTCOLL, VIM_ATTN, VIM_ISTATE, VIM_ICAIRN, VIM_IFLOW, VIM_IPOOL, VIM_IDMA, VIM_IVIOL, VIM_IGRkB, VIM_IGRkL]
/-- The registers of a function window (R17). -/
def blkWin : List RegD :=
  [VIM_FSTAT, VIM_FID, VIM_FCTL, VIM_FVIOL, VIM_FVLAST, WQ_DB, WQ_FHEAD, WQ_FSTAT, WQ_FCTL, WQ_FRBLO, WQ_FRBHI, WQ_FHALO, WQ_FHAHI, WQ_FPASID]
/-- The registers of block WQ. -/
def blkWq : List RegD :=
  [WQ_CTL, WQ_STAT, WQ_CNT0, WQ_CNT1, WQ_CNTCOLL, WQ_QCFG, WQ_QARB, WQ_QTGT, WQ_QEV, WQ_QSTATE, WQ_QIDX]
/-- The registers of block CMD. -/
def blkCmd : List RegD :=
  [CMD_CTL, CMD_STAT, CMD_EVT, CMD_EVTEN, CMD_TOKEN0, CMD_TOKEN1, CMD_CNT, CMD_CNTCOLL]
/-- The registers of block MEM. -/
def blkMem : List RegD :=
  [MEM_CTL, MEM_STAT, MEM_CHKSTAT0, MEM_CHKSTAT1, MEM_SCRUB, MEM_FUSE, MEM_DDRCFG, MEM_DDRSIZE, MEM_DDRSTAT, MEM_DDRTRK, MEM_DDRCNT, MEM_DDRCOLL, MEM_USTAT, MEM_UEN, MEM_UCNT, MEM_UCOLL, MEM_ULAST0, MEM_ULAST1, MEM_UTH]
/-- The registers of block DMA. -/
def blkDma : List RegD :=
  [DMA_CTL, DMA_STAT, DMA_ERR0, DMA_ERR1, DMA_ERR2, DMA_CNT0, DMA_CNTCOLL, DMA_CCFG, DMA_CCTL, DMA_CSTAT, DMA_CEVTEN, DMA_CRBLO, DMA_CRBHI, DMA_CIDX, DMA_CPASID, DMA_CCNT, DMA_CCOLL]
/-- The registers of block EVC. -/
def blkEvc : List RegD :=
  [EVC_CTL, EVC_CNT, EVC_CNTCOLL, EVC_GSTAT, EVC_GEN, EVC_GACT, EVC_FCFG, EVC_FSTAT, EVC_FHEAD, EVC_FTAIL, EVC_FCNT0, EVC_FCNT1, EVC_FCNTCOLL, EVC_ROUTE, EVC_VCFG, EVC_CVCFG]
/-- The registers of block CLK. -/
def blkClk : List RegD :=
  [CLK_STAT, CLK_EVT, CLK_EVTEN, CLK_CNT, CLK_CNTCOLL, CLK_PLLCTL, CLK_PLLSTAT, CLK_DSEL]
/-- The registers of block PWR. -/
def blkPwr : List RegD :=
  [PWR_CTL, PWR_DCTL, PWR_GUARD, PWR_TH, PWR_BIAS, PWR_EVT, PWR_EVTEN, PWR_CNT, PWR_CNTCOLL, PWR_WAKE0, PWR_OFFWAKE0, PWR_WAKE1, PWR_OFFWAKE1, PWR_WAKEEN, PWR_RCTL, PWR_RPORTS, PWR_PCTL]
/-- The registers of block HLT. -/
def blkHlt : List RegD :=
  [HLT_CTL, HLT_JUDGE, HLT_STAT, HLT_EVT, HLT_EVTEN, HLT_CNT0, HLT_CNT1, HLT_CNTCOLL, HLT_SWAP, HLT_GBAND, HLT_AGECFG, HLT_AGESTAT, HLT_PLL, HLT_FUSE, HLT_CSLOT, HLT_ID0, HLT_ID1, HLT_ID2, HLT_PSLOT, HLT_LOC]
/-- The registers of block GLB. -/
def blkGlb : List RegD :=
  [GLB_ID, GLB_STRAP, GLB_CTL, GLB_BOOTSTAT, GLB_BIST, GLB_RSTCAUSE, GLB_ENGRST, GLB_PORTRST, GLB_BOOTID, GLB_BISTROPE]

end R

/-- Every register of the map. -/
def regTable : List RegD :=
  R.blkPtu ++ R.blkEwz ++ R.blkSch ++ R.blkTsc ++ R.blkEng ++ R.blkHpc ++ R.blkVim ++ R.blkWin ++ R.blkWq ++ R.blkCmd ++ R.blkMem ++ R.blkDma ++ R.blkEvc ++ R.blkClk ++ R.blkPwr ++ R.blkHlt ++ R.blkGlb

end Sys2Proof.Machine
end

