-- ==== Sys2Proof/Machine/SMap.lean ====
section
/-! DEFINITION. Sparse data by number: a list of (key, value) pairs with strictly rising keys.  Every table, memory and
register file of State is one of these; a key that is not listed holds the table's default value. -/

namespace Sys2Proof.Machine

/-- A sparse table keyed by number. -/
abbrev SMap (α : Type) := List (Nat × α)

/-- The listed value of key `x`. -/
def smFind {α : Type} : SMap α → Nat → Option α
  | [], _ => none
  | (k, v) :: m, x => if x = k then some v else smFind m x

/-- `m` with `x` listed as `v`. -/
def smIns {α : Type} : SMap α → Nat → α → SMap α
  | [], x, v => [(x, v)]
  | (k, w) :: m, x, v =>
    if x < k then (x, v) :: (k, w) :: m
    else if x = k then (x, v) :: m
    else (k, w) :: smIns m x v

/-- `m` with `x` not listed. -/
def smDel {α : Type} (m : SMap α) (x : Nat) : SMap α := m.filter (fun e => decide (e.1 ≠ x))

/-- The value of key `x`, `d` where it is not listed. -/
def smGet {α : Type} (m : SMap α) (d : α) (x : Nat) : α := (smFind m x).getD d

/-- `m` with value `v` at key `x`; the default value is not listed. -/
def smPut {α : Type} [DecidableEq α] (m : SMap α) (d : α) (x : Nat) (v : α) : SMap α :=
  if v = d then smDel m x else smIns m x v

/-- Keys strictly rising. -/
def smSorted {α : Type} : SMap α → Bool
  | [] => true
  | [_] => true
  | (k, _) :: (k', v') :: m => decide (k < k') && smSorted ((k', v') :: m)

/-- The canonical form: keys strictly rising, and no entry equal to the default. -/
def smWf {α : Type} [DecidableEq α] (d : α) (m : SMap α) : Bool :=
  smSorted m && m.all (fun e => decide (e.2 ≠ d))

/-- A set of numbers kept as a strictly rising list: membership. -/
def setHas (l : List Nat) (x : Nat) : Bool := l.contains x
/-- The set with `x` added. -/
def setAdd : List Nat → Nat → List Nat
  | [], x => [x]
  | k :: l, x => if x < k then x :: k :: l else if x = k then k :: l else k :: setAdd l x
/-- The set with `x` removed. -/
def setDel (l : List Nat) (x : Nat) : List Nat := l.filter (fun k => decide (k ≠ x))

end Sys2Proof.Machine
end

