-- ==== Sys2Proof/Machine/State.lean ====
section
/-! DEFINITION. The state of the TK4610 as plain data: its registers, memories, queues and the state its units hold between
commands, and the queue of commands that wait.  A table lists only the entries that differ from their default. -/

namespace Sys2Proof.Machine

/-- Reasons a command could stop with a fault. -/
inductive Fault where
  /-- Raised by no meaning: every command of the table has an effect on every state.  Safe. -/
  | never
  deriving DecidableEq, Repr

/-- Reasons a command is refused. -/
inductive Refusal where
  /-- Raised by the dispatch for a command that has no meaning yet, with its mnemonic.  Safe: nothing is claimed of it. -/
  | notModelled (mnemonic : String)
  deriving DecidableEq, Repr

/-- Where the device stands between power-on and operation (R601, R610, R564, R619). -/
inductive Phase where
  /-- PORST_N low. -/
  | held
  /-- PORST_N high, oscillator delay counting (R549). -/
  | oscDelay
  /-- Power-on sequence held at the end of its third step by WARMRST_N low (R619). -/
  | heldStep3
  /-- Operating. -/
  | running
  /-- WARMRST_N low in a warm reset (R619). -/
  | warmHeld
  /-- Off (R564). -/
  | off
  deriving DecidableEq, Repr

/-! ## What the block drives out -/

/-- Low-frequency bursts (R77). -/
inductive Burst where
  | presence | keep | wake | reset
  deriving DecidableEq, Repr

/-- A 66-bit block of an Eweiz lane as it stands before scrambling (R71, R73). -/
structure Block where
  /-- Sync header 0b10, a control block whose byte 0 is its type; else 0b01, a data block. -/
  ctrl : Bool
  /-- Its 8 bytes, byte 0 in [7:0] (R132). -/
  bits : BitVec 64
  deriving DecidableEq, Repr

/-- One thing the block drives out of its pins: the record of its outputs is the model's own (log entry 5). -/
inductive Output where
  /-- Blocks on the lane of root port p, in order; the scrambler takes them from there (R71, R72). -/
  | lane (p : Nat) (l : List Block)
  /-- A low-frequency burst on the lane of root port p, and its length in ns (R77). -/
  | burst (p : Nat) (b : Burst) (ns : Nat)
  /-- A memory write to host memory: function, PASID, byte address, data, EP (R358, R385). -/
  | hostWrite (fn : Nat) (pasid : Option Nat) (addr : Nat) (data : List Byte) (ep : Bool)
  /-- A memory read of host memory: function, PASID, tag, byte address, words (R358). -/
  | hostRead (fn : Nat) (pasid : Option Nat) (tag : Nat) (addr : Nat) (words : Nat)
  /-- An MSI-X message (R532). -/
  | msix (fn : Nat) (addr : BitVec 64) (data : Word)
  /-- An interrupt of the management cores (R534). -/
  | coreIrq (v : Nat)
  /-- Data returned to a reading function, with EP (R3, R385). -/
  | readData (fn : Nat) (val : Word) (ep : Bool)
  /-- Bytes returned on I²C (R629). -/
  | i2c (b : Byte)
  /-- An Invalidate Completion: function and page (R359). -/
  | atsDone (fn : Nat) (page : BitVec 52)
  /-- A host port starts link training (R388). -/
  | pcieTrain (h : Nat)
  /-- The function's AER reports a Poisoned TLP Received advisory error (R385). -/
  | aerPoison (h : Nat)
  deriving DecidableEq, Repr

/-! ## Host side: functions, violations, events -/

/-- Controls of a function's configuration space, at the values that an FLR gives them too; no command of the table writes them
(log entry 186). -/
structure PcieCfg where
  /-- Max Read Request Size, bytes (R356). Reset 4,096. -/
  mrrs : Nat := 4096
  /-- ATS and PASID enabled (R359). Reset 0. -/
  ats : Bool := false
  pasid : Bool := false
  /-- Completion timeout, ms (R360). Reset 50. -/
  cto : Nat := 50
  deriving DecidableEq, Repr

/-- Configuration-space state of one function (R361, R362, R532). -/
structure Func where
  /-- Controls of the configuration space that the host sets (R356, R359, R360). -/
  cfg : PcieCfg := {}
  /-- MSI-X Enable (R532). Reset 0. -/
  msixEn : Bool := false
  /-- MSI-X Function Mask (R532). Reset 0. -/
  fMask : Bool := false
  /-- Function is in D3hot (R363). Reset D0. -/
  d3hot : Bool := false
  /-- After an FLR, until the instance is ACTIVE again: nothing is written to its host memory (R379). Reset 0. -/
  mute : Bool := false
  /-- A VF being removed: on quiet the reset and removal actions follow (R373). Reset 0. -/
  vfGone : Bool := false
  /-- INSTANCE_REMOVE accepted: removal follows the reset actions (R373, R377). Reset 0. -/
  removing : Bool := false
  deriving DecidableEq, Repr

/-- One record of the violation log (R372). -/
structure VRec where
  /-- Word 0: INST [6:0], KIND [15:8], UNIT [23:16]. Reset 0. -/
  w0 : Word := 0
  /-- Word 1: resource number. Reset 0. -/
  w1 : Word := 0
  /-- Words 2, 3: device time ns. Reset 0. -/
  time : BitVec 64 := 0
  deriving DecidableEq, Repr

/-- State of an event vector (R530). -/
inductive VecState where
  | armed | collecting | fired
  deriving DecidableEq, Repr

/-- One event vector (R530). -/
structure Vec where
  /-- STATE (R530, R547). Reset ARMED. -/
  st : VecState := .armed
  /-- CNT, rises gathered, saturating at 255 (R530). Reset 0. -/
  cnt : Nat := 0
  /-- Device time ns of the first rise while COLLECTING, of the last message while FIRED (R530). Reset 0. -/
  since : Nat := 0
  deriving DecidableEq, Repr

/-- A fault report held by its reporter (R540). -/
structure HeldRep where
  /-- DOMAIN (R539). -/
  domain : BitVec 16
  /-- CAUSE (R539). -/
  cause : Byte
  /-- Local count, up to 255 (R540). -/
  count : Nat
  deriving DecidableEq, Repr

/-- One fault record of the ring (R543). -/
structure FRec where
  /-- VALID. Reset 0. -/
  valid : Bool := false
  /-- OPEN. Reset 0. -/
  isOpen : Bool := false
  /-- OVF. Reset 0. -/
  ovf : Bool := false
  /-- CAUSE. Reset 0. -/
  cause : Byte := 0
  /-- DOMAIN. Reset 0. -/
  domain : BitVec 16 := 0
  /-- COUNT. Reset 0. -/
  count : BitVec 16 := 0
  /-- FIRSTREP. Reset 0. -/
  firstRep : BitVec 16 := 0
  /-- LASTREP. Reset 0. -/
  lastRep : BitVec 16 := 0
  /-- FIRST, device time ns. Reset 0. -/
  first : BitVec 64 := 0
  /-- LAST, device time ns. Reset 0. -/
  last : BitVec 64 := 0
  deriving DecidableEq, Repr

/-- The event controller beside its registers (chapter Event Controller). -/
structure Evc where
  /-- Enabled sources whose level was 1 when the EVC last looked, with their vectors: 16,384 × source + vector (R525, R529).
  Reset none. -/
  active : List Nat := []
  /-- Vectors: instance × 64 + v, and 8,192 + v for core vectors (R530). Reset ARMED. -/
  vec : SMap Vec := []
  /-- Reports held, by REPORTER code (R540). Reset none. -/
  held : SMap HeldRep := []
  /-- Fault records by ring slot (R543). Reset empty. -/
  recs : SMap FRec := []
  /-- Reporter whose entry was taken last (R540). Reset 0. -/
  turn : Nat := 0
  deriving DecidableEq, Repr

/-! ## Position time base -/

/-- A track beside its registers (R33, R31). -/
structure Track where
  /-- Integer count, without the extrapolated fraction (R33). Reset 0. -/
  count : BitVec 48 := 0
  /-- Last accepted level of A (R24). Reset 0. -/
  a : Bool := false
  /-- Last accepted level of B (R24). Reset 0. -/
  b : Bool := false
  /-- The track ran in the last PTU clock (R641). Reset 0. -/
  running : Bool := false
  /-- Device time of the clock in which the track last started, on the scale of today's device time: earlier edges are ignored (R641).
  Reset 0. -/
  tStart : Time80 := 0
  /-- t_edge (R33). Reset 0. -/
  tEdge : Time80 := 0
  /-- Edge history, oldest first (R33). Reset empty. -/
  hist : List Time80 := []
  /-- Direction of the edges in the history, true = down (R33). Reset up. -/
  histDown : Bool := false
  /-- An edge has been accepted since the last start or preset (R33). Reset 0. -/
  edged : Bool := false
  /-- v as a quotient: number of edges k over vDen × 2⁻¹⁶ ns, with the sign of histDown (R33). Reset 0 over 1. -/
  vNum : Nat := 0
  vDen : Nat := 1
  /-- Accepted reports, newest first: sample time and position (R31). Reset empty. -/
  reps : List (Time80 × BitVec 64) := []
  /-- Sample time of the last accepted report (R30). Reset none. -/
  lastAt : Option Time80 := none
  deriving DecidableEq, Repr

/-- Targets and step of a marker as a fire of this clock sees them, kept when software writes in the same clock (R42). -/
structure MkSnap where
  u : BitVec 64
  l : BitVec 64
  armU : Bool
  armL : Bool
  deriving DecidableEq, Repr

/-- A marker beside its registers (R35, R37, R238). -/
structure Marker where
  /-- Value written to PTU_MKTGT0 and held until PTU_MKTGT1 is written (R35). Reset 0. -/
  held : Word := 0
  /-- U (R35). Reset 0. -/
  u : BitVec 64 := 0
  /-- L (R35). Reset 0. -/
  l : BitVec 64 := 0
  /-- S in force (R35). Reset 0. -/
  s : BitVec 64 := 0
  /-- The marker has been evaluated in this PTU clock (R39). Reset 0. -/
  fired : Bool := false
  /-- Old targets, when PTU_MKTGT1 was written in this clock while a fire was due (R42). Reset none. -/
  snap : Option MkSnap := none
  /-- EN was written 1 in this PTU clock (R43). Reset 0. -/
  enWr : Bool := false
  /-- Fires of earlier clocks not yet accepted as an operand (R238). Reset 0. -/
  nf : Nat := 0
  /-- Device time ns [31:0] and direction of the latest of those fires (R238). Reset 0. -/
  tLast : Word := 0
  downLast : Bool := false
  /-- Fire of the current PTU clock: device time ns [31:0] and direction (R238). Reset none. -/
  cur : Option (Word × Bool) := none
  deriving DecidableEq, Repr

/-- An SOF that has been committed and not yet sent (R53, R54). -/
structure SofPend where
  /-- Frame number (R50). -/
  fnum : BitVec 16
  /-- TIME_FILL flag (R45). -/
  timeFill : Bool
  /-- DEFERRED flag (R45). -/
  deferred : Bool
  /-- LATE flag (R54). -/
  late : Bool
  /-- PTU clocks since the commit. -/
  age : Nat
  /-- Position and velocity of the stamp track in each PTU clock since the commit, newest first (R55). -/
  hist : List (BitVec 64 × Word)
  /-- PTU clocks from the commit to the clock in which a late SOF of the gang entered its queue-free path (R55, R58). -/
  enter : Option Nat := none
  /-- The commit fell inside a fast retrain of a member of the gang (R88). -/
  retrain : Bool := false
  deriving DecidableEq, Repr

/-- How the last commit of a port was caused, kept for its PTU clock (R48, R49). -/
inductive CommitKind where
  | marker | timeFill | deferredMarker
  deriving DecidableEq, Repr

/-- Frame starts of a root port beside its registers (R45–R60). -/
structure FrameSt where
  /-- PTU clocks since the previous commit, or since FEN became 1 (R45, R46). Reset 0. -/
  since : Nat := 0
  /-- There is no previous commit (R46). Reset 1. -/
  first : Bool := true
  /-- Pending deferred start: marker, and clocks since it was created (R47). Reset none. -/
  deferred : Option (MarkNo × Nat) := none
  /-- Bound markers that fired since the previous commit (R194). Reset none. -/
  fired : List Nat := []
  /-- Commit made in this PTU clock (R48). Reset none. -/
  now : Option CommitKind := none
  /-- PTU clocks for which PREWARN has been asserted (R53). Reset 0. -/
  preClk : Nat := 0
  /-- SOF committed and not sent (R53). Reset none. -/
  sof : Option SofPend := none
  /-- The last 4 frames, newest first: frame number, and SOF instant where the frame's SOF has been sent (R141). Reset none. -/
  sofs : List (BitVec 16 × Option Time80) := []
  /-- The port has joined a running gang and not yet committed with it (R60). Reset 0. -/
  joining : Bool := false
  /-- The port that led the gang when it left: it leads until its next commit (R60). Reset none. -/
  led : Option Nat := none
  deriving DecidableEq, Repr

/-! ## Thread scheduler -/

/-- A cairn of a ready list (R241). -/
structure ReadyEnt where
  /-- Cairn. -/
  c : Nat
  /-- Its priority. -/
  prio : Nat
  /-- tR, fabric cycle in which it became READY (R241). -/
  tr : Nat
  deriving DecidableEq, Repr

/-- The thread scheduler beside its registers and the cairn store (chapter Thread Scheduler). -/
structure Tsc where
  /-- Fabric cycles counted by dispatch (R244). Reset 0. -/
  cyc : Nat := 0
  /-- First rope of the last dispatch cycle (R244). Reset 31, so that rope 0 comes first. -/
  rope0 : Nat := 31
  /-- The READY cairns, in the order they became READY (R241). Reset empty. -/
  ready : List ReadyEnt := []
  /-- Belay queues by flow (R243). Reset empty. -/
  flowQ : SMap (List Nat) := []
  /-- Cairns with an armed periodic timer (R239). Reset none. -/
  tmrP : List Nat := []
  /-- YIELD timeouts: cairn and deadline [47:0] (R239, R251). Reset none. -/
  tmrY : SMap Nat := []
  /-- Cairns that are READY, PREFETCHED or RUNNING, for TSC_STAT.QUIET (R264). Reset 0. -/
  nAct : Nat := 0
  deriving DecidableEq, Repr

/-! ## Engines -/

/-- An operand moved into a prefetch slot (R245). -/
structure Opd where
  slot : Nat
  w0 : Word
  w1 : Word
  /-- Poison marks of its words (R482). -/
  p0 : Bool := false
  p1 : Bool := false
  deriving DecidableEq, Repr

/-- A prefetch slot filled at assignment (R245, R282). -/
structure Prefetch where
  /-- Cairn. -/
  c : Nat
  /-- The cairn's words as copied (R245). -/
  words : List Word
  /-- Operands taken, at most one a slot (R245). -/
  ops : List Opd
  /-- Staged payload words, each with its poison mark (R282, R482). -/
  stage : List (Word × Bool)
  /-- STLEN and STSLOT (R281). -/
  stLen : Nat
  stSlot : Nat
  /-- The cairn's tR, kept for its return to READY (R246). -/
  tr : Nat
  deriving DecidableEq, Repr

/-- The thread an engine runs. -/
structure Thr where
  /-- Cairn. -/
  c : Nat
  /-- INST of the cairn. -/
  inst : Nat
  /-- Reflex thread (RFX). -/
  rfx : Bool
  /-- Operands it received at dispatch (R236). -/
  ops : List Opd
  deriving DecidableEq, Repr

/-- The wait record a YIELD names (R251, R341). -/
structure YieldRec where
  wreq : Byte
  /-- Timeout in ns, with T = 1. -/
  timeout : Option Word
  /-- WAITON, with W = 1. -/
  waitOn : Option (BitVec 16)
  /-- RPC, word index. -/
  rpc : Nat
  deriving DecidableEq, Repr

/-- A record in an engine's completion buffer (R258). -/
structure EndRec where
  c : Nat
  /-- LSTAT of an END or fault record; `none` for a YIELD. -/
  lstat : Option Byte
  /-- The wait record of a YIELD. -/
  yield : Option YieldRec
  /-- Thread halted by a fault: the cairn becomes HALTED (R301). -/
  halted : Bool
  /-- Operands of the run (R236). -/
  ops : List Opd
  /-- RUNCYC and TEND (R260). -/
  runCyc : Word
  tEnd : Word
  deriving DecidableEq, Repr

/-- A WAIT in progress (R303): its result register and the device time ns at which it times out. -/
structure WaitRec where
  rd : BitVec 5
  deadline : Option (BitVec 64)
  deriving DecidableEq, Repr

/-- A SEND that was refused and is retried (R255). -/
structure SendRec where
  rd : BitVec 5
  target : Nat
  slot : Nat
  w0 : Word
  deriving DecidableEq, Repr

/-- An exit from Sleep or Deep Sleep under way: the state left, the cause code of R568 and device time ns (R557, R568). -/
structure ExitRec where
  frm : Nat
  cause : Nat
  at_ : Word
  deriving DecidableEq, Repr

/-- A global store in the write buffer of an engine (R278): global address, bytes, data, and the memory that it goes to. -/
structure Posted where
  g : Nat
  n : Nat
  v : Word
  mem : Nat
  deriving DecidableEq, Repr

/-- One logical engine beside its registers and memories (chapters 06, 07). -/
structure Eng where
  /-- Running thread (R280). Reset none. -/
  thr : Option Thr := none
  /-- PC, byte address in the local map (R315). Reset 0. -/
  pc : Word := 0
  /-- g1–g31 by number; g0 reads 0 (R316). Reset 0. -/
  g : SMap Word := []
  /-- v0–v15 (R293). Reset 0. -/
  v : SMap (BitVec 128) := []
  /-- a0–a3: lane i of aN at 4N + i (R293). Reset 0. -/
  acc : SMap (BitVec 64) := []
  /-- Flags register: DZ V C N Z in bits 4–0 (R317). Reset 0. -/
  flags : BitVec 5 := 0
  /-- ACP status: INV [11:8], DZ [7:4], SAT [3:0] (R346). Reset 0. -/
  acp : BitVec 12 := 0
  /-- Thread window by word index (R281). Reset 0. -/
  win : SMap Word := []
  /-- Word indices of the thread window that carry poison (R482). Reset none. -/
  winPois : List Nat := []
  /-- ENG_LCYC (R302, R314). Reset 0. -/
  lcyc : BitVec 33 := 0
  /-- ENG_LXPC.XPC (R314). Reset 0. -/
  lxpc : BitVec 12 := 0
  /-- ENG_LXCAUSE.XACT (R314). Reset 0. -/
  xact : Bool := false
  /-- ENG_LXCAUSE.REGPAR (R314). Reset 0. -/
  regpar : Bool := false
  /-- ENG_LXCAUSE.CAUSE (R314). Reset 0. -/
  cause : BitVec 4 := 0
  /-- ENG_LXADDR (R314). Reset 0. -/
  lxaddr : Word := 0
  /-- ENG_LGW0.BASE (R270, R314). Reset 0. -/
  lgw0 : BitVec 10 := 0
  /-- ENG_LGW1.BASE (R270, R314). Reset 0. -/
  lgw1 : BitVec 10 := 0
  /-- ENG_LTIMEHI as latched by a read of ENG_LTIMELO (R314). Reset 0. -/
  ltimeHi : Word := 0
  /-- Nudge latch (R304). Reset 0. -/
  nudge : Bool := false
  /-- WAIT in progress (R303). Reset none. -/
  wait : Option WaitRec := none
  /-- SEND being retried (R255). Reset none. -/
  send : Option SendRec := none
  /-- Write buffer of 8 entries: global stores that no other agent sees yet, the oldest first (R278). Reset empty. -/
  wbuf : List Posted := []
  /-- Prefetch slot (R245). Reset empty. -/
  pref : Option Prefetch := none
  /-- Completion buffer (R258). Reset empty. -/
  cbuf : Option EndRec := none
  /-- Record of an END or YIELD that waits for the completion buffer (R258). Reset none. -/
  stalled : Option EndRec := none
  /-- Fabric cycle in which the engine last decided to leave Run; the entry window follows it (R566). Reset none. -/
  entry : Option Nat := none
  /-- Exit to Run under way (R557). Reset none. -/
  exit : Option ExitRec := none
  /-- One instruction is let through a debug halt (R308). Reset 0. -/
  step : Bool := false
  /-- Registers whose next read fails byte parity: n for gn, 32 + n for vn (R297, R298). Reset none. -/
  parBad : List Nat := []
  /-- Heartbeat sequence number (R305). Reset 0. -/
  hbSeq : Byte := 0
  /-- Self-check completed, and passed, in this heartbeat period (R305). Reset 0. -/
  hbChk : Bool := false
  hbOk : Bool := false
  /-- Register parity failure in this period (R305). Reset 0. -/
  hbPar : Bool := false
  /-- An instruction retired in this period (R305). Reset 0. -/
  hbRet : Bool := false
  /-- A thread was held at some time in this period (R305). Reset 0. -/
  hbThr : Bool := false
  /-- The engine was halted at some time in this period (R576). Reset 0. -/
  hbHalt : Bool := false
  deriving DecidableEq, Repr

/-- A reserve swap of a rope (R579). -/
structure SwapSt where
  /-- Logical slot being swapped. -/
  slot : Nat
  /-- Step: 3 the token is awaited, 4 the reserve checks itself, 6 its memories hold the copy. -/
  step : Nat
  /-- Physical slot of the reserve. -/
  newPhys : Nat
  deriving DecidableEq, Repr

/-! ## Work queues -/

/-- Where a staged job stands (R413, R414). -/
inductive JobSt where
  /-- FIRST seen, LAST not yet staged. -/
  | opened
  /-- Every entry staged and checked; not yet delivered (on queue 0: not yet taken). -/
  | ready
  /-- Its operand was accepted (on queue 0: a core has taken the command). -/
  | delivered
  deriving DecidableEq, Repr

/-- A job of a queue: consecutive staged entries (R412, R413). -/
structure WJob where
  /-- Ring index of its first entry. -/
  first : Nat
  /-- Entries staged. -/
  n : Nat
  /-- Staging slot of its first entry. -/
  slot : Nat
  st : JobSt
  /-- The cairn that accepted its operand. -/
  cairn : Nat
  deriving DecidableEq, Repr

/-- Who a read of host memory was issued for (R358). -/
inductive Reader where
  | wq (c : Nat)
  | dma (c : Nat)
  | cmd (k : Nat)
  deriving DecidableEq, Repr

/-- A read of host memory that has no completion yet (R356, R360). -/
structure HostRead where
  who : Reader
  /-- Function whose Requester ID it carries. -/
  fn : Nat
  /-- Issued before an FLR of that function: its completion is dropped (R379). -/
  flr : Bool
  /-- PASID and 4 KiB page of its address, which tag its translation (R359). -/
  pasid : Option Nat := none
  page : Nat := 0
  deriving DecidableEq, Repr

/-- A translation that a host port holds for a function (R359). -/
structure Xlat where
  fn : Nat
  pasid : Option Nat
  page : Nat
  deriving DecidableEq, Repr

/-- The rounds of a host port's fetch service (R406). -/
structure FetchSt where
  /-- Pass of the round. Reset 1. -/
  pass : Nat := 1
  /-- First context the pass has not looked at. Reset 0. -/
  pos : Nat := 0
  /-- The pass has made a grant. Reset 0. -/
  any : Bool := false
  deriving DecidableEq, Repr

/-- A ring read issued and not answered (R407). -/
structure RingRead where
  first : Nat
  n : Nat
  tag : Nat
  /-- Its entries are discarded when it completes (R427, R428). -/
  drop : Bool
  /-- Its words, with poison marks, once they have arrived behind a read that has not completed. -/
  got : Option (List (Word × Bool)) := none
  deriving DecidableEq, Repr

/-- A cached line: index of its first entry and its words with poison marks (R409). -/
structure RingLine where
  first : Nat
  words : List (Word × Bool)
  deriving DecidableEq, Repr

/-- A queue context beside its registers (chapter Work Queues). -/
structure Wqc where
  /-- Jobs staged or delivered and not retired, in ring order (R413). Reset none. -/
  jobs : List WJob := []
  /-- Next staging slot (R412). Reset 0. -/
  nextSlot : Nat := 0
  /-- Ring indices retired and not yet passed by HEAD (R415). Reset none. -/
  done : List Nat := []
  /-- Ring reads outstanding, oldest first (R407). Reset none. -/
  reads : List RingRead := []
  /-- Cached lines (R409). Reset none. -/
  lines : List RingLine := []
  /-- Speculative reading stopped at an entry that was not valid (R408). Reset 0. -/
  stopped : Bool := false
  /-- Device time ns of the read that stopped it (R408). Reset 0. -/
  stopAt : Nat := 0
  /-- HEAD has advanced past the last head record (R417). Reset 0. -/
  headWait : Bool := false
  /-- A stop that writes nothing to host memory is under way (R427). Reset 0. -/
  silent : Bool := false
  /-- The queue is cleared when it is OFF (R376, R380). Reset 0. -/
  clear : Bool := false
  deriving DecidableEq, Repr
/-! ## Root ports -/

/-- A pipe, root side (R145, R150, R155, R161, R168). -/
structure Pipe where
  /-- S of an OUT pipe, E of an IN pipe. Reset 0. -/
  seq : BitVec 6 := 0
  /-- Credit last granted by the device (OUT). Reset 1. -/
  credit : Nat := 1
  /-- Waiting state. Reset 0. -/
  waiting : Bool := false
  /-- The probe interval has passed. Reset 0. -/
  due : Bool := false
  /-- Device time ns at which the probe interval under way ends (R156, R158, R562). Reset 0. -/
  dueAt : Nat := 0
  /-- Halted by a STALL. Reset 0. -/
  halted : Bool := false
  /-- The next token carries SYNC. Reset 0. -/
  sync : Bool := false
  deriving DecidableEq, Repr

/-- Progress of a transfer (R149, R204, R216). -/
structure Xfer where
  /-- The descriptor is a BTD. -/
  btd : Bool
  /-- DONE. -/
  done : Nat := 0
  /-- OUT packets acknowledged. -/
  acked : Nat := 0
  /-- OUT packets sent at least once. -/
  sent : Nat := 0
  /-- NAKS. -/
  naks : Nat := 0
  /-- RETX. -/
  retx : Nat := 0
  /-- Payloads of the packets sent and not acknowledged, oldest first (R145). -/
  kept : List (List Byte) := []
  deriving DecidableEq, Repr

/-- What a transaction of classes 1–3 is (R151, R152, R156, R161, R163, R182, R118). -/
inductive TxKind where
  | out | probe | inn | hub | setup | reply | clear | psync
  deriving DecidableEq, Repr

/-- A DATA packet in passage on a root port's lane: some of its blocks may not have left (R169, R170). -/
structure Passing where
  /-- Its device. -/
  addr : Nat
  /-- LENGTH. -/
  len : Nat
  /-- Its blocks, from SOP to EOP. -/
  blocks : List Block
  /-- Blocks that have left. -/
  sent : Nat
  /-- It stands cut: a packet was inserted where it stands, and CONT has not been sent (R75). -/
  cut : Bool
  deriving DecidableEq, Repr

/-- Where the walker took a PTD or BTD from (R213). -/
inductive Where where
  | periodic | retry | deferred | bulk
  deriving DecidableEq, Repr

/-- A transaction of classes 1–3 that is outstanding (R154). -/
structure Txn where
  kind : TxKind
  /-- Descriptor address; 0 for transactions without one. -/
  desc : Nat
  /-- Words of the descriptor as read at its start (R200). -/
  words : List Word
  src : Where
  addr : Nat
  gen : Nat
  dirIn : Bool
  ep : Nat
  tc : Nat
  /-- Packets sent, or asked for. -/
  n : Nat
  /-- Sequence of the first packet sent. -/
  seq0 : BitVec 6
  /-- A valid packet of the answer has arrived (R174). -/
  answered : Bool
  /-- The transfer has ended within the burst: its STATUS (R209). -/
  ended : Option Nat
  /-- A packet of the burst was not taken for want of room (R147). -/
  full : Bool
  deriving DecidableEq, Repr

/-- The class-0 TOKEN_IN that is outstanding (R154, R166). -/
structure Txn0 where
  pair : Nat
  addr : Nat
  gen : Nat
  ep : Nat
  deriving DecidableEq, Repr

/-- An EMIT accepted by a pair and not yet sent (R221, R222). -/
structure EmitRec where
  payload : List Byte
  deriving DecidableEq, Repr

/-- An open reflex pair (R219). -/
structure Pair where
  /-- PTD of the pair and its words. -/
  desc : Nat
  words : List Word
  /-- Inbound packet received. -/
  inbound : Bool
  /-- The commit after its token came before its inbound packet (R222). -/
  late : Bool
  /-- BSUSP (R225). -/
  bsusp : Bool
  /-- EMIT accepted. -/
  emit : Option EmitRec
  /-- DONE: inbound bytes. -/
  done : Nat
  deriving DecidableEq, Repr

/-- An operand held in a completion queue (R255). -/
structure CqEnt where
  c : Nat
  slot : Nat
  w0 : Word
  w1 : Word
  deriving DecidableEq, Repr

/-- The list walker of a root port (R193–R222). -/
structure Walk where
  /-- A frame is in progress. Reset 0. -/
  live : Bool := false
  /-- Number of that frame. Reset 0. -/
  fnum : BitVec 16 := 0
  /-- Periodic set of the frame, in order, without repeats (R194). Reset empty. -/
  set : List Nat := []
  /-- PTDs the periodic window has not visited (R213). Reset empty. -/
  todo : List Nat := []
  /-- Retry queue. Reset empty. -/
  retry : List Nat := []
  /-- Deferred queue. Reset empty. -/
  defer : List Nat := []
  /-- PTDs passed over: IN with credit 0, or of a stopped instance (R210, R374). Reset empty. -/
  starved : List Nat := []
  /-- Class-2 PTDs carried into the next frame (R216). Reset empty. -/
  carry : List Nat := []
  /-- Class-2 PTDs carried into this frame (R194). Reset empty. -/
  carried : List Nat := []
  /-- PTDs completed in this frame. Reset empty. -/
  fin : List Nat := []
  /-- PTDs started in this frame. Reset empty. -/
  started : List Nat := []
  /-- PTD whose next burst follows. Reset none. -/
  cont : Option (Nat × Where) := none
  /-- Class-0 PTDs not yet issued in this frame. Reset empty. -/
  c0 : List Nat := []
  /-- Pairs issued in this frame. Reset none. -/
  issued : List Nat := []
  /-- Hubs to poll in this frame. Reset none. -/
  hubs : List Nat := []
  /-- Hubs whose poll ended unanswered and is sent again, in a later frame too (R175, R642). Reset none. -/
  rehub : List Nat := []
  /-- Periodic sum, × 2.5 ps (R213). Reset 0. -/
  psum : Nat := 0
  /-- The frame has closed (R187). Reset 0. -/
  closed : Bool := false
  /-- GUARD of the frame has been sent (R188). Reset 0. -/
  guarded : Bool := false
  /-- Earlier frame whose GUARD is withheld (R191). Reset none. -/
  owed : Option (BitVec 16) := none
  /-- The earlier frame overran (R191). Reset 0. -/
  overran : Bool := false
  /-- Device time of the last GUARD, none where the frame had none before its SOF (R228). Reset none. -/
  gTime : Option Time80 := none
  /-- Device time of the last GUARD of any frame (R120). Reset none. -/
  bTime : Option Time80 := none
  /-- Class of the bulk round: class 3, else class 2 (R213). Reset 0. -/
  bcls3 : Bool := false
  /-- First BTD of the round. Reset none. -/
  bfirst : Option Nat := none
  /-- BTDs visited in the round. Reset 0. -/
  bvis : Nat := 0
  /-- The rounds of this pass have served something. Reset 0. -/
  bserved : Bool := false
  /-- Descriptor addresses read before LISTSYNC was set and still held (R202). Reset none. -/
  sync : List Nat := []
  deriving DecidableEq, Repr

/-- Who awaits a firmware transaction (R107, R161, R123). -/
inductive FwClient where
  | enum
  | clear (k : Nat)
  | parent
  /-- Change bit n of a hub port's record is cleared: hub address and hub port (R112). -/
  | bit (h hp n : Nat)
  deriving DecidableEq, Repr

/-- A control transfer or pipe resynchronisation of the firmware (R161, R163). -/
structure FwJob where
  client : FwClient
  /-- PIPE_CLEAR's token instead of a control transfer. -/
  isClear : Bool
  addr : Nat
  gen : Nat
  dirIn : Bool
  ep : Nat
  tc : Nat
  /-- Request words of a control transfer (R110). -/
  w0 : Word
  w1 : Word
  /-- The SETUP burst has been acknowledged; the reply is being read. -/
  setupDone : Bool
  /-- The SETUP burst's packet has been sent: it goes out again with RETX (R149). -/
  sent : Bool
  /-- Reply bytes received. -/
  reply : List Byte
  deriving DecidableEq, Repr

/-- An enumeration in progress (R107). -/
structure EnumJob where
  /-- Management core whose command it serves; none after that command has ended. -/
  core : Option Nat
  /-- Port location: hub address (0 = root link) and hub port. -/
  hub : Nat
  hport : Nat
  /-- Step of R107; 1 while the port has not reached L0. -/
  step : Nat
  /-- The hub port's status is being read. -/
  status : Bool
  /-- The port was Disabled, and SET_PORT_FEATURE(ENABLE) has been sent with DEFOPEN = 1 (R106, R112). -/
  opened : Bool := false
  /-- Accumulated delay of the path (R108). -/
  adelay : Nat
  /-- Device time ns of the reset of step 2. -/
  resetAt : Nat
  /-- Address of the device that PORT_RESET names. -/
  own : Option Nat
  /-- Identity record words 0–7. -/
  key : List Word
  addr : Nat
  gen : Nat
  /-- Its former address and generation, where it is recognised (R124, R180). -/
  former : Option (Nat × Nat) := none
  /-- Hub ports still to enable: hub address and port (step 9). -/
  scan : List (Nat × Nat)
  /-- Address and generation of the first device enumerated. -/
  found : Option (Nat × Nat)
  deriving DecidableEq, Repr

/-- A root port beside its registers (chapters 02–04). -/
structure Port where
  /-- PRESENCE was recognised in the last, and in this, 100 µs period (R90). Reset 0. -/
  presLast : Bool := false
  presNow : Bool := false
  /-- 10 ms without PRESENCE after a failed training (R80). Reset 0. -/
  quiet : Bool := false
  /-- TRAIN blocks of the partner in the last full training (R79). Reset none. -/
  train : List (BitVec 64) := []
  /-- DELAY_ECHOs received in this training, and the sum of their (round trip − turnaround) (R81). Reset 0. -/
  echoes : Nat := 0
  echoSum : Int := 0
  /-- PTU_PLAT.LAT has been measured since its reset (R56). Reset 0. -/
  latSeen : Bool := false
  /-- KEEP periods since the partner's last KEEP (R90). Reset 0. -/
  keepMiss : Nat := 0
  /-- Resume in progress, and who asked for it (R98). Reset 0. -/
  resuming : Bool := false
  hostWake : Bool := false
  remoteWake : Bool := false
  /-- The resume aborted a suspend entry (R98). Reset 0. -/
  during : Bool := false
  /-- Device time ns at which the resume began (R98). Reset 0. -/
  wakeAt : Nat := 0
  /-- Cause code of the resume in progress (R568). Reset 0. -/
  wakeCause : Nat := 0
  /-- Power state that the port left, 2 or 3, until its exit completes (R557, R568); 0: no exit under way. Reset 0. -/
  exitFrom : Nat := 0
  /-- Frame in which a suspend was refused: the planner waits for the next close (R563). Reset none. -/
  susRef : Option (BitVec 16) := none
  /-- Consecutive measurements with the width, and with the height, below its threshold (R84). Reset 0. -/
  lowWidth : Nat := 0
  lowHeight : Nat := 0
  /-- Frames since the fast retrain became pending (R87). Reset 0. -/
  waitFrames : Nat := 0
  /-- The class-0 bound is suspended until the next SOF (R89). Reset 0. -/
  unbound : Bool := false
  /-- Pipes by address × 32 + DIR × 16 + EP. Reset none. -/
  pipes : SMap Pipe := []
  /-- Transfers under way by descriptor address. Reset none. -/
  xfers : SMap Xfer := []
  /-- Outstanding transaction of classes 1–3. Reset none. -/
  cur : Option Txn := none
  /-- Outstanding class-0 TOKEN_IN. Reset none. -/
  cur0 : Option Txn0 := none
  /-- TOCNT of the address of the last accepted packet, before that packet (R149). Reset 0. -/
  toOld : Nat := 0
  /-- Open pairs by number. Reset none. -/
  pairs : SMap Pair := []
  /-- Pairs whose EMIT was accepted and is not sent, in the order in which they became ready (R171). Reset none. -/
  emitq : List Nat := []
  /-- SYNC tokens of R182 that ended unanswered and are sent again (R175). Reset none. -/
  psyncs : List Txn := []
  /-- DATA packets in passage on the lane, oldest first (R169, R170). Reset none. -/
  pass : List Passing := []
  /-- Handshakes that wait for PREWARN to end, oldest first (R189). Reset none. -/
  held : List (List Block) := []
  /-- Blocks sent since the last SKIP (R74). Reset 0. -/
  unskip : Nat := 0
  /-- Completion queue, oldest first (R255). Reset empty. -/
  cq : List CqEnt := []
  walk : Walk := {}
  /-- Device time ns at which a generation was retired, by address × 16 + generation (R103). Reset none. -/
  retired : SMap Nat := []
  /-- Identity record words 0–7 by address (R104). Reset none. -/
  ident : SMap (List Word) := []
  /-- Endpoint configuration by address (R111). Reset none. -/
  config : SMap (List Word) := []
  /-- Port status records by hub address × 16 + hub port (R113). Reset none. -/
  hubRec : SMap (Word × Word) := []
  /-- Lost-list entries in use, oldest first (R122). Reset empty. -/
  lostAge : List Nat := []
  /-- Firmware transactions waiting or in progress. Reset none. -/
  fw : List FwJob := []
  /-- Enumeration in progress. Reset none. -/
  enum : Option EnumJob := none
  /-- Ports that reported attach and await enumeration: hub address, 0 for the root link, hub port, and its hop delay (R107).
  Reset none. -/
  attach : List (Nat × Nat × Nat) := []
  deriving DecidableEq, Repr

/-! ## Command processor -/

/-- What a command that has not replied waits for (R441, R447–R456). -/
inductive CmdWait where
  /-- Taken; its opcode has not acted yet. -/
  | toAct
  | quiesce (i : Nat)
  | reset (i : Nat)
  | enum (p : Nat)
  | clear (p : Nat)
  /-- LISTSYNC of root port p; of every root port for p = 16. -/
  | unlink (p : Nat)
  | cancel (p : Nat)
  | maint (g : Nat)
  | retire (r : Nat)
  /-- A CODE_LOAD whose engine has not come to CLOAD without a thread. -/
  | code (e : Nat)
  | hostRead
  deriving DecidableEq, Repr

/-- A command being executed by a management core (R435, R437). -/
structure Cmd where
  /-- Context of its queue 0. -/
  ctx : Nat
  /-- Ring index of its entry. -/
  idx : Nat
  /-- Its words 0–15. -/
  words : List Word
  wait : CmdWait
  /-- Bytes of a CODE_LOAD that have been read, and the tag of its read under way (R450). -/
  pos : Nat := 0
  tag : Nat := 0
  deriving DecidableEq, Repr

/-- A maintenance token that is held (R457–R460, R465). -/
structure Token where
  /-- Activity code (R458). -/
  act : Nat
  /-- Starting instance, 0x7F for the health manager. -/
  inst : Nat
  /-- Device time ns of the grant. -/
  since : BitVec 64
  /-- The reply was sent at the grant (DEFER). -/
  deferred : Bool
  /-- Words W4–W7 of the command that started it. -/
  args : List Word
  deriving DecidableEq, Repr

/-- Result of the last activity of a group that ended (R452, R453). -/
structure MaintRes where
  status : Nat
  second : Nat
  words : List Word
  deriving DecidableEq, Repr

/-- The command processor beside its registers (chapters 10, 11). -/
structure CmdSt where
  /-- Executing commands by core. Reset none. -/
  cmd : SMap Cmd := []
  /-- Contexts with a staged command, in staging order (R437). Reset empty. -/
  order : List Nat := []
  /-- Tokens held by group (R457). Reset none. -/
  token : SMap Token := []
  /-- Results kept by group (R453). Reset none. -/
  result : SMap MaintRes := []
  /-- SUMMARY commands since BOOTID changed, by instance (R464). Reset 0. -/
  seq : SMap Nat := []
  /-- Rows that wait for a field repair: group, macro and row (R459, R488). Reset none. -/
  healthWait : List (Nat × Nat × Nat) := []
  deriving DecidableEq, Repr
/-! ## DMA engine -/

/-- A read of host memory by a channel that has not been staged (R503). -/
structure ChRead where
  tag : Nat
  /-- Byte address, and number of bytes. -/
  addr : Nat
  n : Nat
  /-- Its bytes, with poison marks, once they have arrived. -/
  got : Option (List (Byte × Bool)) := none
  deriving DecidableEq, Repr

/-- A DMA channel beside its registers (chapter DMA Engine). -/
structure Chan where
  /-- Words of the descriptor in progress (R510). Reset none. -/
  desc : Option (List Word) := none
  /-- Bytes whose read has been issued, and bytes written. Reset 0. -/
  rdN : Nat := 0
  wrN : Nat := 0
  /-- Staging buffer: bytes read and not written, each with the mark of its source word (R499, R507). Reset empty. -/
  buf : List (Byte × Bool) := []
  /-- Reads of host memory outstanding, oldest first. Reset none. -/
  reads : List ChRead := []
  /-- STOP was written: the channel stops after its current descriptor (R515). Reset 0. -/
  stop : Bool := false
  /-- Device time ns of the read that found OWN = 0 (R510). Reset 0. -/
  idleAt : Nat := 0
  /-- State that a bus error halted (R518). Reset 0. -/
  was : Nat := 0
  /-- The channel met the bus error (R518). Reset 0. -/
  met : Bool := false
  /-- The descriptor is skipped: ERR = 1 is written back (R519). Reset 0. -/
  skip : Bool := false
  deriving DecidableEq, Repr

/-- The turn of one direction of the datapath: channel and bytes moved in it (R501). -/
structure Turn where
  c : Nat
  n : Nat
  deriving DecidableEq, Repr

/-- The DMA engine beside its registers. -/
structure Dma where
  /-- Channels 0–15. -/
  chan : SMap Chan := []
  /-- By priority, the channel whose turn it is to write and to read a beat (R501). Reset none. -/
  wTurn : SMap Turn := []
  rTurn : SMap Turn := []
  /-- Channel of the last write beat and of the last read beat: the one that can be pre-empted (R502). Reset none. -/
  wLast : Option Nat := none
  rLast : Option Nat := none
  deriving DecidableEq, Repr
/-! ## Health, clocks, power and start-up -/

/-- What a health fuse entry records (R593). -/
inductive HealthEnt where
  /-- Physical engine i is retired, and logical engine e is carried by physical slot p, if any (R579). -/
  | retire (i e : Nat) (p : Option Nat)
  | reinstate (i : Nat)
  | guardBand (step : Nat)
  | pll
  | core (k : Nat)
  deriving DecidableEq, Repr

/-- The fuse map (R485, R583, R593, R602, R607). -/
structure Fuse where
  /-- PCI Vendor ID. -/
  vendor : BitVec 16 := 0
  /-- Lot, wafer and die of the chip identity (R595). -/
  lotLo : Word := 0
  lotHi : BitVec 16 := 0
  wafer : Byte := 0
  dieX : Byte := 0
  dieY : Byte := 0
  /-- Stepping code (R616). -/
  step : Byte := 0
  /-- SHA-384 of the boot key, and the security version floor (R607). -/
  keyHash : BitVec 384 := 0
  svnFloor : Byte := 0
  /-- VBASE in mV (R587). -/
  vbase : Nat := 750
  /-- Guard-band step reached (R588). -/
  gbStep : Nat := 0
  /-- SLPRBB, DEEPSB and RETSB (R575). -/
  slprbb : Byte := 0
  deepsb : Byte := 0
  retsb : Byte := 0
  /-- CPLL0 retired (R591). -/
  c0ret : Bool := false
  /-- States of the management cores that differ from those of reset (R592). -/
  core : SMap Nat := []
  /-- PSTATE of the physical engines whose state a fuse entry holds (R599). -/
  pstate : SMap Nat := []
  /-- Physical slot that carries a logical engine, where a fuse entry says so (R266). -/
  carried : SMap Nat := []
  /-- Health fuse entries left (R593). -/
  left : Nat := 64
  /-- Field repair entries used, by group (R485). -/
  field : SMap Nat := []
  /-- Spare rows and columns in use, by group × 256 + macro (R485). -/
  spare : SMap (Nat × Nat) := []
  deriving DecidableEq, Repr

/-- What one heartbeat carries (R305, R307). -/
structure Beat where
  seq : Byte
  /-- Physical slot of the rope that carries the logical engine. -/
  phys : Nat
  asleep : Bool := false
  /-- A self-check completed in the period, and passed. -/
  chk : Bool := false
  ok : Bool := false
  par : Bool := false
  prog : Bool := false
  deriving DecidableEq, Repr

/-- What the health manager has heard from a logical engine, and its counts (R576, R577). -/
structure Judge where
  /-- Sequence number of the last heartbeat. Reset none. -/
  last : Option Byte := none
  /-- Heartbeats of this period. Reset none. -/
  got : List Beat := []
  /-- PROG of the last heartbeat, recorded for diagnosis (R576). Reset none. -/
  prog : Option Bool := none
  /-- Consecutive misses, failed checks and parity periods. Reset 0. -/
  miss : Nat := 0
  fail : Nat := 0
  par : Nat := 0
  /-- A period that was not clean has been seen since the last clean one. Reset 0. -/
  suspect : Bool := false
  deriving DecidableEq, Repr

/-- The health manager beside its registers (chapter Reserves). -/
structure Hlt where
  /-- By logical engine. -/
  judge : SMap Judge := []
  /-- Health fuse entries waiting to be programmed, oldest first (R593). Reset none. -/
  fuseQ : List HealthEnt := []
  /-- Consecutive low margins (R587). Reset 0. -/
  low : Nat := 0
  /-- A guard-band step has been requested and does not yet count as applied (R588). Reset 0. -/
  settling : Bool := false
  /-- CPLL1 is being prepared (R590). Reset 0. -/
  prep : Bool := false
  /-- Device time ns of each core's last BEAT (R592). Reset 0. -/
  beat : SMap Nat := []
  /-- The reserve core is starting (R592). Reset 0. -/
  coreStart : Bool := false
  deriving DecidableEq, Repr

/-- Power states beside their registers (chapter Clocks and Power States). -/
structure Pwr where
  /-- Exits of ropes from Sleep or Deep Sleep under way (R557, R568). Reset none. -/
  rope : SMap ExitRec := []
  /-- Device time ns since which the conditions of Off have held (R564). Reset none. -/
  offFrom : Option Nat := none
  /-- PTU_CTL.EN and device time at entry into Off (R565). Reset 0. -/
  offEn : Bool := false
  offTime : Time80 := 0
  deriving DecidableEq, Repr

/-- Start-up and the I²C target beside their registers (chapters Start-up, Electrical). -/
structure Boot where
  /-- VERSION of the running firmware image (R446, R607). Reset 0. -/
  version : Word := 0
  /-- Soft repairs of BIST not yet made permanent (R603). Reset 0. -/
  soft : Nat := 0
  /-- WARMRST_N is low (R613, R619). Reset 0. -/
  warmPin : Bool := false
  /-- I²C index (R629). Reset 0. -/
  i2cIdx : Byte := 0
  /-- Bytes latched with the lowest byte of their field (R629), by index. Reset none. -/
  i2cLatch : SMap Byte := []
  deriving DecidableEq, Repr

/-- The DDR controllers beside their registers (R473–R476). -/
structure Ddr where
  /-- Channels in training (R473). Reset none. -/
  train : List Nat := []
  /-- Oscillator reading of a rank after its last full training, by 2 × channel + rank (R475). Reset none. -/
  osc : SMap Nat := []
  /-- Ranks refreshed at the faster rate, by 2 × channel + rank (R474). Reset none. -/
  hot : List Nat := []
  deriving DecidableEq, Repr


/-- The state of the TK4610. -/
structure State where
  /-- Commands that wait, first in, first out. Reset empty. -/
  pending : List Instr
  /-- Phase of the device (R601). Reset held. -/
  phase : Phase
  /-- Register fields by Field.key; a field not listed holds its Reset value (R3). -/
  regs : SMap Nat
  /-- High words latched by a read of a low word, by 2²⁶ × function + BAR0 offset (R7, R22, R544). Reset none. -/
  latch : SMap Word
  /-- Memory bytes by storage address (R271, R468). Reset: nothing listed. -/
  mem : SMap Byte
  /-- Words (storage address / 4) stored with P = 1 (R477). Reset none. -/
  poison : List Nat
  /-- Words whose next read meets an error: 1 single-bit, 2 uncorrectable, 3 datapath parity, 4 address parity (R478–R480).
  Reset none. -/
  upset : SMap Nat
  /-- Rows with corrected errors by unit (MEM unit × 16 + place): row and count (R488). Reset none. -/
  rowTab : SMap (Nat × Nat)
  /-- Pipe table bytes: VALID [7], INST [6:0] (R389). Reset 0. -/
  pipeTab : SMap Byte
  /-- MSI-X table words by (instance × 64 + vector) × 4 + word (R17, R362). Reset 0, Mask 1. -/
  msix : SMap Word
  /-- MSI-X pending bits by instance × 64 + vector (R17, R532). Reset none. -/
  pba : List Nat
  /-- Functions by instance number. -/
  func : SMap Func
  /-- Violation log by record (R371). Reset empty. -/
  vlog : SMap VRec
  /-- Event controller. -/
  evc : Evc
  /-- FAULT_N is driven low (R538, R614). Reset low. -/
  faultN : Bool
  /-- Tracks 0–15. -/
  track : SMap Track
  /-- Markers 0–31. -/
  marker : SMap Marker
  /-- Frame starts of root ports 0–15. -/
  frame : SMap FrameSt
  /-- Thread scheduler. -/
  tsc : Tsc
  /-- Logical engines 0–1,023. -/
  eng : SMap Eng
  /-- Logical slot under swap in each rope (R579). Reset none. -/
  swap : SMap SwapSt
  /-- Queue contexts 0–2,047. -/
  wq : SMap Wqc
  /-- Reads of host memory outstanding, by host port × 1,024 + tag (R356). Reset none. -/
  hostReads : SMap HostRead
  /-- Translation cache of host ports 0–3, newest first, at most 1,024 each (R359). Reset empty. -/
  xlat : SMap (List Xlat)
  /-- Fetch service of host ports 0–3. -/
  fetch : SMap FetchSt
  /-- Jobs dispatched to a cairn and not retired: context and ring index, by cairn (R414). Reset none. -/
  heldJobs : SMap (List (Nat × Nat))
  /-- Packet buffer space in use by root port: first 16-byte unit and length in bytes (R235, R236). Reset none. -/
  bufUse : SMap (List (Nat × Nat))
  /-- Root ports 0–15. -/
  port : SMap Port
  /-- DMA engine. -/
  dma : Dma
  /-- Command processor. -/
  cmds : CmdSt
  /-- Fuse map; power-on reset keeps it. -/
  fuse : Fuse
  /-- Health manager. -/
  hlt : Hlt
  /-- Power states. -/
  pwr : Pwr
  /-- Start-up and the I²C target. -/
  boot : Boot
  /-- DDR controllers. -/
  ddr : Ddr
  /-- Outputs, newest first (the model's own record). Reset empty. -/
  out : List Output
  /-- Free values drawn so far (the model's own; Config.freeWord). Reset 0. -/
  free : Nat
  deriving DecidableEq, Repr

/-- The state right after power-on reset is asserted: PORST_N low, every register at its Reset value, every memory empty
(R601, R610). -/
def State.reset : State where
  pending := []
  phase := .held
  regs := []
  latch := []
  mem := []
  poison := []
  upset := []
  rowTab := []
  pipeTab := []
  msix := []
  pba := []
  func := []
  vlog := []
  evc := {}
  faultN := true
  track := []
  marker := []
  frame := []
  tsc := {}
  eng := []
  swap := []
  wq := []
  hostReads := []
  xlat := []
  fetch := []
  heldJobs := []
  bufUse := []
  port := []
  dma := {}
  cmds := {}
  fuse := {}
  hlt := {}
  pwr := {}
  boot := {}
  ddr := {}
  out := []
  free := 0

end Sys2Proof.Machine
end

