-- ==== Sys2Proof/Machine/Ops.lean ====
section
/-! DEFINITION. The named operations every family of commands shares: register fields, counters, device time, free values,
outputs, memory words with their poison marks, and fault reports. -/

namespace Sys2Proof.Machine

/-! ## Bits -/

/-- Bits [hi:lo] of a word. -/
def bits (w : Word) (hi lo : Nat) : Nat := w.toNat / 2 ^ lo % 2 ^ (hi + 1 - lo)
/-- Bits [hi:lo] of a number. -/
def nbits (n hi lo : Nat) : Nat := n / 2 ^ lo % 2 ^ (hi + 1 - lo)
/-- Bit k of a number. -/
def nbit (n k : Nat) : Bool := n.testBit k
/-- A number as a 32-bit word. -/
def w32 (n : Nat) : Word := BitVec.ofNat 32 n
/-- 1 for true. -/
def b2n (b : Bool) : Nat := if b then 1 else 0
/-- `w` with bits [hi:lo] replaced by `v`. -/
def setBits (w : Word) (hi lo v : Nat) : Word :=
  let span := 2 ^ (hi + 1 - lo)
  w32 (w.toNat % 2 ^ lo + (v % span) * 2 ^ lo + w.toNat / 2 ^ (hi + 1) * 2 ^ (hi + 1))
/-- Bytes of a word, lowest address first (R2). -/
def wordBytes (w : Word) : List Byte :=
  [w.extractLsb' 0 8, w.extractLsb' 8 8, w.extractLsb' 16 8, w.extractLsb' 24 8]
/-- The word of four bytes, lowest address first; missing bytes are 0 (R2). -/
def bytesWord (l : List Byte) : Word :=
  w32 ((l.getD 0 0).toNat + 256 * (l.getD 1 0).toNat + 65536 * (l.getD 2 0).toNat + 16777216 * (l.getD 3 0).toNat)
/-- Bytes as words, the last padded with 0. -/
def bytesWords : List Byte → List Word
  | a :: b :: c :: d :: l => bytesWord [a, b, c, d] :: bytesWords l
  | [] => []
  | l => [bytesWord l]
/-- Words as bytes. -/
def wordsBytes (l : List Word) : List Byte := l.flatMap wordBytes
/-- Division rounded up. -/
def cdiv (a b : Nat) : Nat := (a + b - 1) / b

/-! ## Register fields (R3) -/

/-- The value of field `f` of indices i, j, within the field's width. -/
def State.rd (s : State) (f : Field) (i : Nat := 0) (j : Nat := 0) : Nat :=
  (smFind s.regs (f.key i j)).getD (f.resetAt i j) % f.span
/-- `s` with field `f` of indices i, j holding `v`. -/
def State.wr (s : State) (f : Field) (v : Nat) (i : Nat := 0) (j : Nat := 0) : State :=
  { s with regs := smPut s.regs (f.resetAt i j) (f.key i j) (v % f.span) }
/-- A field is not 0. -/
def State.on (s : State) (f : Field) (i : Nat := 0) (j : Nat := 0) : Bool := s.rd f i j != 0
/-- Hardware increments a CNT field: it saturates unless its description says it wraps (R5). -/
def State.count (s : State) (f : Field) (i : Nat := 0) (j : Nat := 0) : State :=
  let v := s.rd f i j
  if v + 1 < f.span then s.wr f (v + 1) i j else if f.wraps then s.wr f 0 i j else s
/-- A field as a 32-bit word. -/
def State.rdw (s : State) (f : Field) (i : Nat := 0) (j : Nat := 0) : Word := w32 (s.rd f i j)
/-- The word of one register from its fields (R3, R4). -/
def State.regWord (s : State) (fs : List Field) (i : Nat := 0) (j : Nat := 0) : Nat :=
  fs.foldl (fun n f => n + s.rd f i j * 2 ^ f.lo) 0

/-! ## Free values, outputs, time -/

/-- Draws a free value: a value the spec does not state (log entry 1). -/
def State.draw (s : State) : Word × State := (Config.freeWord s.free, { s with free := s.free + 1 })
/-- A free choice below `n`. -/
def State.choose (s : State) (n : Nat) : Nat × State := ((Config.freeWord s.free).toNat % n, { s with free := s.free + 1 })
/-- `n / d` rounded down or up: the spec does not state how an inexact quotient is rounded (log entry 6). -/
def State.quot (s : State) (n d : Nat) : Nat × State :=
  if d = 0 then s.choose (2 ^ 32)
  else if n % d = 0 then (n / d, s)
  else let (b, s) := s.choose 2; (n / d + b, s)
/-- Adds an output. -/
def State.emit (s : State) (o : Output) : State := { s with out := o :: s.out }
/-- Adds several outputs, the first first. -/
def State.emits (s : State) (l : List Output) : State := { s with out := l.reverse ++ s.out }

/-- Device time, 64.16 ns (R19, R62). -/
def State.time (s : State) : Time80 :=
  BitVec.ofNat 80 (s.rd R.PTU_TIMEHI_NS_HI * 2 ^ 48 + s.rd R.PTU_TIMELO_NS_LO * 2 ^ 16 + s.rd R.PTU_TIMEFR_FRAC)
/-- Sets device time. -/
def State.setTime (s : State) (t : Time80) : State :=
  ((s.wr R.PTU_TIMEHI_NS_HI (t.toNat / 2 ^ 48)).wr R.PTU_TIMELO_NS_LO (t.toNat / 2 ^ 16 % 2 ^ 32)).wr
    R.PTU_TIMEFR_FRAC (t.toNat % 2 ^ 16)
/-- Device time in whole ns. -/
def State.ns (s : State) : BitVec 64 := BitVec.ofNat 64 (s.time.toNat / 2 ^ 16)
/-- Device time ns [31:0]. -/
def State.nsLo (s : State) : Word := w32 s.ns.toNat
/-- Device time ns [47:0]. -/
def State.ns48 (s : State) : Nat := s.ns.toNat % 2 ^ 48

/-! ## Units held in tables -/

def State.getTrack (s : State) (t : Nat) : Track := smGet s.track {} t
def State.setTrack (s : State) (t : Nat) (x : Track) : State := { s with track := smPut s.track {} t x }
def State.getMarker (s : State) (m : Nat) : Marker := smGet s.marker {} m
def State.setMarker (s : State) (m : Nat) (x : Marker) : State := { s with marker := smPut s.marker {} m x }
def State.getFrame (s : State) (p : Nat) : FrameSt := smGet s.frame {} p
def State.setFrame (s : State) (p : Nat) (x : FrameSt) : State := { s with frame := smPut s.frame {} p x }
def State.getEng (s : State) (e : Nat) : Eng := smGet s.eng {} e
def State.setEng (s : State) (e : Nat) (x : Eng) : State := { s with eng := smPut s.eng {} e x }
def State.getFunc (s : State) (i : Nat) : Func := smGet s.func {} i
def State.setFunc (s : State) (i : Nat) (x : Func) : State := { s with func := smPut s.func {} i x }
def State.getPort (s : State) (p : Nat) : Port := smGet s.port {} p
def State.setPort (s : State) (p : Nat) (x : Port) : State := { s with port := smPut s.port {} p x }
/-- Applies `f` to each of 0 … n − 1 in rising order. -/
def State.forN (s : State) (n : Nat) (f : Nat → State → State) : State := (List.range n).foldl (fun s k => f k s) s
/-- Applies `f` to each element of a list in order. -/
def State.forL {α : Type} (s : State) (l : List α) (f : α → State → State) : State := l.foldl (fun s x => f x s) s

/-! ## Engines and physical slots (R266) -/

/-- Rope of logical engine e. -/
def ropeOf (e : Nat) : Nat := e / 32
/-- Logical slot of logical engine e. -/
def slotOf (e : Nat) : Nat := e % 32
/-- A field of ENG registers of logical engine e. -/
def State.erd (s : State) (f : Field) (e : Nat) : Nat := s.rd f (ropeOf e) (slotOf e)
/-- Writes a field of the ENG registers of logical engine e. -/
def State.ewr (s : State) (f : Field) (v e : Nat) : State := s.wr f v (ropeOf e) (slotOf e)
/-- The physical engine (33 r + slot) that carries logical engine e, if any (R266, R599). -/
def State.physOf (s : State) (e : Nat) : Option Nat :=
  let i := 33 * ropeOf e + s.erd R.ENG_STAT_PHYS e
  if s.erd R.ENG_STAT_PHYS e < 33 ∧ s.rd R.HLT_PSLOT_PSTATE i = 0 ∧ s.rd R.HLT_PSLOT_LOGICAL i = e then some i else none
/-- A reserve swap of logical engine e is in progress (R274, R579). -/
def State.swapping (s : State) (e : Nat) : Bool :=
  match smFind s.swap (ropeOf e) with
  | some x => x.slot == slotOf e
  | none => false

/-! ## Storage addresses

Memory is keyed by storage address: the global address of R271 for every memory but those of the physical engines, the
operand pool and DDR, which stand at bases of the model's own (log entry 4). -/

/-- Memories of physical engine i: instruction memory at +0, data memory at +0x8000. -/
def saEngine (i : Nat) : Nat := 0x2000000000 + i * 0x10000
/-- Operand pool entry n (8 bytes). -/
def saPool (n : Nat) : Nat := 0x2100000000 + n * 8
/-- Byte `off` of DDR channel ch. -/
def saDdr (ch off : Nat) : Nat := 0x8000000000 + ch * 0x1000000000 + off
/-- Rope shared memory of rope r. -/
def saRope (r : Nat) : Nat := 0x1000000000 + r * 0x80000
/-- List memory byte `off`. -/
def saList (off : Nat) : Nat := 0x1020000000 + off
/-- Word w of cairn c. -/
def saCairn (c w : Nat) : Nat := 0x1020800000 + c * 64 + w * 4
/-- Packet buffer of root port p. -/
def saBuf (p off : Nat) : Nat := 0x1030000000 + p * 0x40000 + off
/-- Host descriptor staging. -/
def saStage (off : Nat) : Nat := 0x1034000000 + off

/-- Size of DDR channel ch in bytes; 0 while not trained (R498). -/
def State.ddrSize (s : State) (ch : Nat) : Nat := s.rd R.MEM_DDRSIZE_SIZE ch * 2 ^ 30
/-- The channels interleave (R471). -/
def State.ddrIlv (s : State) : Bool :=
  s.on R.MEM_CTL_ILV && decide (s.ddrSize 0 ≠ 0) && decide (s.ddrSize 0 = s.ddrSize 1)

/-- The storage address of a global address; none where it is unmapped (R271, R471). -/
def State.globalSa (s : State) (a : Nat) : Option Nat :=
  if a < 0x1000000000 then
    if s.ddrIlv then
      if a < s.ddrSize 0 + s.ddrSize 1 then some (saDdr (a / 256 % 2) (a / 512 * 256 + a % 256)) else none
    else if a < s.ddrSize 0 then some (saDdr 0 a)
    else if a < s.ddrSize 0 + s.ddrSize 1 then some (saDdr 1 (a - s.ddrSize 0))
    else none
  else if a < 0x1001000000 then some a
  else if a < 0x1010000000 then none
  else if a < 0x1014000000 then
    let n := (a - 0x1010000000) / 0x10000
    let o := a % 0x10000
    if o < 0x4000 ∨ 0x8000 ≤ o then (s.physOf n).map (fun i => saEngine i + o) else none
  else if 0x1020000000 ≤ a ∧ a < 0x1020C00000 then some a
  else if 0x1030000000 ≤ a ∧ a < 0x1030400000 then some a
  else if 0x1034000000 ≤ a ∧ a < 0x1034100000 then some a
  else none

/-- Group, and offset within it, of a storage address (R469); none for the memories without a group. -/
def groupOf (a : Nat) : Option (Nat × Nat) :=
  if 0x8000000000 ≤ a then
    let o := a - 0x8000000000
    some (0x22 + o / 0x1000000000, o % 0x1000000000)
  else if 0x2100000000 ≤ a then some (0x21, 0x400000 + (a - 0x2100000000))
  else if 0x2000000000 ≤ a then
    let o := a - 0x2000000000
    let i := o / 0x10000
    some (i / 33, 0x100000 + (i % 33) * 0x10000 + o % 0x10000)
  else if 0x1020800000 ≤ a ∧ a < 0x1020C00000 then some (0x21, a - 0x1020800000)
  else if 0x1020000000 ≤ a ∧ a < 0x1020800000 then some (0x20, a - 0x1020000000)
  else if a < 0x1001000000 then
    let o := a - 0x1000000000
    some (o / 0x80000, o % 0x80000)
  else none

/-- The storage address of an offset of a group, the inverse of `groupOf`; none outside the group (R469). -/
def State.groupSa (s : State) (g o : Nat) : Option Nat :=
  if g < 0x20 then
    if o < 0x80000 then some (saRope g + o)
    else if 0x100000 ≤ o ∧ o < 0x100000 + 33 * 0x10000 then
      let q := o % 0x10000
      if q < 0x4000 ∨ 0x8000 ≤ q then some (saEngine (33 * g + (o - 0x100000) / 0x10000) + q) else none
    else none
  else if g = 0x20 then if o < 0x800000 then some (saList o) else none
  else if g = 0x21 then
    if o < 0x400000 then some (0x1020800000 + o)
    else if o < 0x480000 then some (0x2100000000 + (o - 0x400000)) else none
  else if g < 0x24 then if o < s.ddrSize (g - 0x22) then some (saDdr (g - 0x22) o) else none
  else none

/-- MEM unit of a storage address (R496). -/
def unitOf (a : Nat) : Nat :=
  match groupOf a with
  | some (g, _) => if g < 0x20 then g / 4 else if g = 0x20 then 8 else if g = 0x21 then 9 else 10 + (g - 0x22)
  | none => if a < 0x1034000000 then 12 else 13

/-- Macro and row of an offset of an SRAM group (R469). -/
def rowOf (g o : Nat) : Option (Nat × Nat) :=
  if g < 0x20 then
    if o < 0x80000 then some (o / 8 % 16, o / 256)
    else
      let p := (o - 0x100000) / 0x10000
      let q := o % 0x10000
      if q < 0x8000 then some (16 + 2 * p, q / 16) else some (17 + 2 * p, (q - 0x8000) / 16)
  else if g = 0x20 then some (o / 0x10000, o % 0x10000 / 16)
  else if g = 0x21 then
    if o < 0x400000 then some (o / 0x10000, o % 0x10000 / 16)
    else some (64 + (o - 0x400000) / 0x10000, (o - 0x400000) % 0x10000 / 16)
  else none

/-- Global address of a storage address, for ULAST of units 12–15 (R498). -/
def State.globalOf (s : State) (a : Nat) : Nat :=
  if 0x8000000000 ≤ a then
    let o := (a - 0x8000000000) % 0x1000000000
    let ch := (a - 0x8000000000) / 0x1000000000
    if s.ddrIlv then o / 256 * 512 + ch * 256 + o % 256 else ch * s.ddrSize 0 + o
  else if 0x2000000000 ≤ a ∧ a < 0x2100000000 then
    let i := (a - 0x2000000000) / 0x10000
    0x1010000000 + s.rd R.HLT_PSLOT_LOGICAL i * 0x10000 + (a - 0x2000000000) % 0x10000
  else a

/-! ## Fault reports (R539, R540) -/

/-- A unit sends a fault report with its DOMAIN, CAUSE and REPORTER (R539, R540). -/
def State.report (s : State) (reporter domain cause : Nat) : State :=
  if s.on R.EVC_FCFG_FEN then
    match smFind s.evc.held reporter with
    | none =>
      { s with evc := { s.evc with held := smIns s.evc.held reporter ⟨BitVec.ofNat 16 domain, BitVec.ofNat 8 cause, 1⟩ } }
    | some h =>
      if h.domain.toNat = domain ∧ h.cause.toNat = cause then
        { s with evc := { s.evc with held := smIns s.evc.held reporter { h with count := min 255 (h.count + 1) } } }
      else (s.count R.EVC_FCNT0_RLOST).wr R.EVC_FSTAT_RLOST 1
  else s

/-! ## Memory words (R477–R483) -/

/-- One stored byte; a byte nothing has written reads 0 (log entry 7). -/
def State.byteAt (s : State) (a : Nat) : Byte := smGet s.mem 0 a
/-- Stores one byte. -/
def State.putByte (s : State) (a : Nat) (b : Byte) : State := { s with mem := smPut s.mem 0 a b }
/-- The stored word at an aligned storage address, little-endian. -/
def State.rawWord (s : State) (a : Nat) : Word :=
  bytesWord [s.byteAt a, s.byteAt (a + 1), s.byteAt (a + 2), s.byteAt (a + 3)]
/-- Stores the bytes of a word. -/
def State.putRaw (s : State) (a : Nat) (w : Word) : State :=
  (((s.putByte a (w.extractLsb' 0 8)).putByte (a + 1) (w.extractLsb' 8 8)).putByte (a + 2) (w.extractLsb' 16 8)).putByte
    (a + 3) (w.extractLsb' 24 8)
/-- A word is stored with P = 1. -/
def State.poisoned (s : State) (a : Nat) : Bool := setHas s.poison (a / 4)
/-- Sets or clears P of a word. -/
def State.setPoison (s : State) (a : Nat) (p : Bool) : State :=
  { s with poison := if p then setAdd s.poison (a / 4) else setDel s.poison (a / 4) }
/-- Sets the error the next read of a word meets. -/
def State.setUpset (s : State) (a k : Nat) : State := { s with upset := smPut s.upset 0 (a / 4) k }

/-- Group code and location of ULAST for an event of unit u at storage address a (R498). -/
def State.ulast (s : State) (u a kind : Nat) : State :=
  let (g, l) := match groupOf a with
    | some (g, o) => if u < 12 then (g, o) else (0xFF, s.globalOf a)
    | none => (0xFF, s.globalOf a)
  let s := s.wr R.MEM_ULAST0_ADDR (l % 2 ^ 32) u
  let s := s.wr R.MEM_ULAST1_ADDR_HI (l / 2 ^ 32) u
  let s := s.wr R.MEM_ULAST1_GROUP g u
  let s := s.wr R.MEM_ULAST1_KIND kind u
  s.wr R.MEM_ULAST1_VALID 1 u

/-- A poison mark is made in the unit of the word (R481). -/
def State.notePois (s : State) (a : Nat) : State :=
  ((s.wr R.MEM_USTAT_POIS 1 (unitOf a)).ulast (unitOf a) a 2)

/-- The place of a row in a unit's table, or the place it takes: a free one, else the one with the lowest count (R488). -/
def rowPlace (t : SMap (Nat × Nat)) (u id : Nat) : Nat :=
  let e k := smFind t (16 * u + k)
  match (List.range 16).find? (fun k => match e k with | some x => x.1 == id | none => false) with
  | some k => k
  | none =>
    match (List.range 16).find? (fun k => (e k).isNone) with
    | some k => k
    | none =>
      (List.range 16).foldl (fun b k =>
        if ((e k).getD (0, 0)).2 < ((e b).getD (0, 0)).2 then k else b) 0

/-- A row produced a corrected error: its count, and THR when it reaches ROWTH; with AUTOREP the health manager will repair
it (R488). -/
def State.noteRow (s : State) (a : Nat) : State :=
  match groupOf a with
  | none => s
  | some (g, o) =>
    match rowOf g o with
    | none => s
    | some (m, r) =>
      let u := unitOf a
      let id := (g * 256 + m) * 65536 + r
      let k := 16 * u + rowPlace s.rowTab u id
      let n := match smFind s.rowTab k with
        | some x => if x.1 = id then x.2 + 1 else 1
        | none => 1
      let s := { s with rowTab := smIns s.rowTab k (id, n) }
      if n = s.rd R.MEM_UTH_ROWTH u then
        let s := (s.wr R.MEM_USTAT_THR 1 u).ulast u a 5
        if s.on R.MEM_CTL_AUTOREP then
          { s with cmds := { s.cmds with healthWait := s.cmds.healthWait ++ [(g, m, r)] } }
        else s
      else s

/-- A corrected read (R478). -/
def State.noteCe (s : State) (a : Nat) : State :=
  ((s.wr R.MEM_USTAT_CE 1 (unitOf a)).count R.MEM_UCNT_CE (unitOf a)).noteRow a

/-- An uncorrectable read: UE, ULAST, the poison mark in the delivered data and the fault report (R478, R481, R539). -/
def State.noteUe (s : State) (a : Nat) : State :=
  let u := unitOf a
  let g := match groupOf a with | some (g, _) => g | none => 0xFF
  ((((s.wr R.MEM_USTAT_UE 1 u).count R.MEM_UCNT_UE u).ulast u a 1).wr R.MEM_USTAT_POIS 1 u).report
    (0x3000 + u) (0x1000 + g) 0x02

/-- A parity failure of the data path (unit 14) or of an address (unit 15) (R479, R480). -/
def State.notePar (s : State) (u a : Nat) (mark : Bool) : State :=
  let s := ((s.wr R.MEM_USTAT_PAR 1 u).count R.MEM_UCNT_UE u).ulast u a (u - 11)
  if mark then s.wr R.MEM_USTAT_POIS 1 u else s

/-- Reads the word that holds storage address a: its data, whether it is delivered poisoned, and what the read counts. -/
def State.readWord (s : State) (a : Nat) : Word × Bool × State :=
  let b := a / 4 * 4
  match smGet s.upset 0 (b / 4) with
  | 1 => (s.rawWord b, s.poisoned b, s.noteCe b)
  | 2 => (s.rawWord b, true, s.noteUe b)
  | 3 => (s.rawWord b, true, (s.setUpset b 0).notePar 14 b true)
  | 4 => (s.rawWord b, true, (s.setUpset b 0).notePar 15 b true)
  | _ => (s.rawWord b, s.poisoned b, s)

/-- Stores a word with its poison mark, as data that is moved carries it (R482, R483). -/
def State.storeWordP (s : State) (a : Nat) (w : Word) (p : Bool) : State :=
  let b := a / 4 * 4
  match smGet s.upset 0 (b / 4) with
  | 4 => (s.setUpset b 0).notePar 15 b false
  | 3 => (((s.setUpset b 0).putRaw b w).setPoison b true).notePar 14 b true
  | _ => ((s.setUpset b 0).putRaw b w).setPoison b p

/-- A DDR write of part of a burst reads and writes back the rest of it: corrected words corrected, uncorrectable ones
poisoned (R472).  `skip` is the word the write replaces in full. -/
def State.burstMerge (s : State) (a : Nat) (skip : Option Nat) : State :=
  if a < 0x8000000000 then s
  else
    s.forN 16 (fun k s =>
      let b := a / 64 * 64 + 4 * k
      if skip = some b then s
      else match smGet s.upset 0 (b / 4) with
        | 1 => (s.noteCe b).setUpset b 0
        | 2 => (((s.noteUe b).setUpset b 0).setPoison b true).notePois b
        | _ => s)

/-- Stores a whole clean word (R483). -/
def State.storeWord (s : State) (a : Nat) (w : Word) : State :=
  (s.burstMerge a (some (a / 4 * 4))).storeWordP a w false

/-- Writes some bytes of the word that holds a: `n` bytes from byte `a % 4` (R472, R483). -/
def State.storePart (s : State) (a n : Nat) (v : Word) : State :=
  let b := a / 4 * 4
  let s := s.burstMerge a none
  let bytes s := (List.range n).foldl (fun s k => State.putByte s (a + k) (v.extractLsb' (8 * k) 8)) s
  match smGet s.upset 0 (b / 4) with
  | 1 => bytes ((s.noteCe b).setUpset b 0)
  | 2 => (((bytes ((s.noteUe b).setUpset b 0))).setPoison b true).notePois b
  | 3 => (((bytes (s.setUpset b 0))).setPoison b true).notePar 14 b true
  | 4 => (s.setUpset b 0).notePar 15 b false
  | _ => bytes s

/-- Reads `n` words from a word-aligned storage address: each with its poison mark. -/
def State.readWords (s : State) (a n : Nat) : List (Word × Bool) × State :=
  (List.range n).foldl (fun (acc : List (Word × Bool) × State) k =>
    let (w, p, s) := acc.2.readWord (a + 4 * k)
    (acc.1 ++ [(w, p)], s)) ([], s)

/-- Stores words with their marks from a word-aligned storage address. -/
def State.storeWords (s : State) (a : Nat) (l : List (Word × Bool)) : State :=
  (l.foldl (fun (acc : Nat × State) x => (acc.1 + 4, acc.2.storeWordP acc.1 x.1 x.2)) (a, s)).2

end Sys2Proof.Machine
end

