-- ==== Sys2Proof/Machine/WqCore.lean ====
section
/-! DEFINITION. Queue contexts: staged jobs, their retirement and their return to the ring (R392–R430). -/

namespace Sys2Proof.Machine

def State.getWq (s : State) (c : Nat) : Wqc := smGet s.wq {} c
def State.setWq (s : State) (c : Nat) (x : Wqc) : State := { s with wq := smPut s.wq {} c x }

/-- Context c is assigned (R392, R433). -/
def State.wqValid (s : State) (c : Nat) : Bool := decide (c < 128) || s.on R.WQ_QCFG_VALID c
/-- Instance of context c. -/
def State.wqInst (s : State) (c : Nat) : Nat := if c < 128 then c else s.rd R.WQ_QCFG_INST c
/-- Queue number of context c. -/
def State.wqQ (s : State) (c : Nat) : Nat := if c < 128 then 0 else s.rd R.WQ_QCFG_QNUM c
/-- The context of queue q of instance i (R392). -/
def State.wqCtx (s : State) (i q : Nat) : Option Nat :=
  if q = 0 then some i
  else (List.range 1920).findSome? (fun k =>
    let c := 128 + k
    if s.on R.WQ_QCFG_VALID c ∧ s.rd R.WQ_QCFG_INST c = i ∧ s.rd R.WQ_QCFG_QNUM c = q then some c else none)
/-- A function-side field of context c. -/
def State.wqf (s : State) (f : Field) (c : Nat) : Nat := s.rd f (s.wqInst c) (s.wqQ c)
def State.wqfSet (s : State) (f : Field) (v c : Nat) : State := s.wr f v (s.wqInst c) (s.wqQ c)
/-- Contexts of instance i. -/
def State.wqOf (s : State) (i : Nat) : List Nat :=
  i :: ((List.range 1920).map (· + 128)).filter (fun c => s.on R.WQ_QCFG_VALID c && s.rd R.WQ_QCFG_INST c == i)

/-- Entries of the ring (R395). -/
def State.ringN (s : State) (c : Nat) : Nat := 2 ^ s.wqf R.WQ_FCTL_LOG2N c
/-- Bytes of an entry (R395). -/
def entBytes (c : Nat) : Nat := if c < 128 then 64 else 32
/-- Staging slots of a context (R412). -/
def ctxSlots (c : Nat) : Nat := if c < 128 then 8 else 16
/-- Staging address of slot k of context c (R412). -/
def slotSa (c k : Nat) : Nat := saStage (c * 0x200 + k * entBytes c)
/-- The cairn and slot that a staged job is for: its own target where TGT = 1, else that of its queue (R413). -/
def State.jobTarget (s : State) (c : Nat) (j : WJob) : Nat × Nat :=
  let w0 := s.rawWord (slotSa c j.slot)
  if w0.getLsbD 28 then (bits (s.rawWord (slotSa c j.slot + 8)) 31 16, bits w0 26 24)
  else (s.rd R.WQ_QTGT_CAIRN c, s.rd R.WQ_QTGT_SLOT c)
/-- Host address of entry i (R395). -/
def State.entAddr (s : State) (c i : Nat) : Nat :=
  s.wqf R.WQ_FRBHI_BASE_HI c * 2 ^ 32 + s.wqf R.WQ_FRBLO_BASE c * 4096 + i * entBytes c
/-- PASID of a queue's requests (R396). -/
def State.wqPasid (s : State) (c : Nat) : Option Nat :=
  if s.wqf R.WQ_FPASID_EN c = 1 then some (s.wqf R.WQ_FPASID_PASID c) else none

/-- STATE of the queue, with its mirror (R433, R434). -/
def State.wqState (s : State) (c : Nat) : Nat := s.rd R.WQ_QSTATE_STATE c
def State.setWqState (s : State) (c v : Nat) : State :=
  (s.wr R.WQ_QSTATE_STATE v c).wqfSet R.WQ_FSTAT_STATE v c
/-- The queue may write host memory (R379, R427, R429). -/
def State.wqWrites (s : State) (c : Nat) : Bool :=
  !(s.wqState c == 4) && !(s.getWq c).silent && !(s.getFunc (s.wqInst c)).mute

/-- Writes the STAT byte of entry i (R421–R424); of an entry of queue 0, the STATUS byte of its reply (R436, R441). -/
def State.statWrite (s : State) (c i stat : Nat) : State :=
  let s := match stat with
    | 0x01 => s.count R.WQ_CNT1_ABORTED
    | 0x02 => s.count R.WQ_CNT0_MALFORMED
    | 0x03 => s.count R.WQ_CNT0_SPOOF
    | _ => s
  if s.wqWrites c then
    (s.wqfSet R.WQ_FSTAT_LASTERR stat c).emit
      (.hostWrite (s.wqInst c) (s.wqPasid c) (s.entAddr c i + (if c < 128 then 2 else 31)) [BitVec.ofNat 8 stat] false)
  else s

/-- HEAD passes the retired entries that follow it (R415). -/
def headRun (n : Nat) : Nat → Nat → List Nat → Nat × List Nat
  | 0, h, d => (h, d)
  | k + 1, h, d => if d.contains h then headRun n k ((h + 1) % n) (d.filter (· ≠ h)) else (h, d)

/-- Advances HEAD (R415); in ERROR, WQ_FHEAD shows it at once (R429). -/
def State.advanceHead (s : State) (c : Nat) : State :=
  let x := s.getWq c
  let h := s.rd R.WQ_QIDX_HEAD c
  let (h', d) := headRun (s.ringN c) x.done.length h x.done
  if h' = h then s
  else
    let s := (s.setWq c { x with done := d, headWait := true }).wr R.WQ_QIDX_HEAD h' c
    if s.wqState c = 4 then s.wqfSet R.WQ_FHEAD_HEAD h' c else s

/-- Staging slots in use (R433). -/
def State.syncStaged (s : State) (c : Nat) : State :=
  s.wr R.WQ_QSTATE_STAGED ((s.getWq c).jobs.foldl (fun n j => n + j.n) 0) c

/-- Retires job j of context c; `stat` is written in each entry where it is not 0 (R414, R415, R423). -/
def State.retire (s : State) (c : Nat) (j : WJob) (stat : Nat) : State :=
  let idx := (List.range j.n).map (fun k => (j.first + k) % s.ringN c)
  let s := if stat = 0 then s else s.forL idx (fun i s => s.statWrite c i stat)
  let x := s.getWq c
  let s := s.setWq c { x with jobs := x.jobs.filter (fun k => decide (k.first ≠ j.first)), done := idx.foldl setAdd x.done }
  (s.syncStaged c).advanceHead c

/-- Retires the job of context c whose first entry is `first` (R414). -/
def State.retireAt (s : State) (c first stat : Nat) : State :=
  match (s.getWq c).jobs.find? (fun j => j.first == first) with
  | some j => s.retire c j stat
  | none => s

/-- Retires the job a HOSTDESC operand names; other operands name none (R235, R414). -/
def State.retireOpd (s : State) (w1 : Word) (stat : Nat) : State :=
  if bits w1 31 28 = 5 then s.retireAt (bits w1 26 16) (bits w1 15 0) stat else s

/-- Moves FETCH back to ring index i: the expected phase turns again where FETCH passed the ring's end (R398, R428). -/
def State.fetchBack (s : State) (c i : Nat) : State :=
  let f := s.rd R.WQ_QSTATE_FETCH c
  let s := if i ≤ f then s else s.wr R.WQ_QSTATE_PHASE (1 - s.rd R.WQ_QSTATE_PHASE c) c
  s.wr R.WQ_QSTATE_FETCH i c

/-- Where FETCH goes when what is staged or being read and not delivered returns to the ring: the first entry of the
earliest such job, else of the earliest read under way (R428). -/
def Wqc.returnTo (x : Wqc) (cached : Bool) : Option (Nat × Nat) :=
  match x.jobs.find? (fun j => j.st != .delivered) with
  | some j => some (j.first, j.slot)
  | none => if cached then none else (x.reads.find? (fun r => !r.drop)).map (fun r => (r.first, x.nextSlot))

/-- A queue returns its undelivered staged jobs to the ring (R428). -/
def State.returnJobs (s : State) (c : Nat) : State :=
  let x := s.getWq c
  let s1 : State := match x.returnTo (s.wqf R.WQ_FCTL_PMODE c == 1) with
    | some (i, _) => s.fetchBack c i
    | none => s
  let slot := match x.returnTo (s.wqf R.WQ_FCTL_PMODE c == 1) with
    | some (_, k) => k
    | none => x.nextSlot
  let s2 := s1.setWq c
    { x with jobs := x.jobs.filter (fun j => j.st == .delivered), nextSlot := slot, lines := [],
             reads := x.reads.map (fun r => { r with drop := true }) }
  let s2 := if c < 128 then { s2 with cmds := { s2.cmds with order := s2.cmds.order.filter (· ≠ c) } } else s2
  let s3 := s2.syncStaged c
  if s3.wqState c = 2 then s3.setWqState c 1 else s3

/-- QUIESCE_RETURN: every queue of the instance returns its undelivered jobs (R428). -/
def State.quiesceReturn (s : State) (i : Nat) : State := s.forL (s.wqOf i) (fun c s => s.returnJobs c)

/-! ## Reads of host memory (R356, R358) -/

/-- Reads of host memory outstanding at host port h (R356). -/
def State.readsAt (s : State) (h : Nat) : Nat := (s.hostReads.filter (fun e => e.1 / 1024 == h)).length
/-- Max Read Request Size of function i (R356). -/
def State.mrrs (s : State) (i : Nat) : Nat := (s.getFunc i).cfg.mrrs
/-- Issues a read for function fn; which free tag it takes is not stated (log entry 12). -/
def State.issueRead (s : State) (who : Reader) (fn : Nat) (pasid : Option Nat) (addr words : Nat) : Nat × State :=
  let h := fn / 32
  let l := (List.range 1024).filter (fun t => (smFind s.hostReads (h * 1024 + t)).isNone)
  let (k, s) := s.choose (max 1 l.length)
  let t := l.getD k 0
  (t, { s with hostReads := smIns s.hostReads (h * 1024 + t) { who := who, fn := fn, flr := false, pasid := pasid, page := addr / 4096 } }.emit (.hostRead fn pasid t addr words))
/-- A translation that served a read of an ATS function is held in the port's cache of 1,024 (R359); the oldest makes room. -/
def State.translated (s : State) (h : Nat) (q : HostRead) : State :=
  if (s.getFunc q.fn).cfg.ats then
    let x : Xlat := ⟨q.fn, q.pasid, q.page⟩
    { s with xlat := smPut s.xlat [] h ((x :: (smGet s.xlat [] h).filter (fun y => decide (y ≠ x))).take 1024) }
  else s

end Sys2Proof.Machine
end

