-- ==== Sys2Proof/Machine/Vim.lean ====
section
/-! DEFINITION. The virtual instance manager: ownership, violations, containment and the checks of every BAR access
(R364–R385). -/

namespace Sys2Proof.Machine

/-- The manager's instance (R364, R365). -/
def State.mgr (s : State) : Nat := 32 * s.rd R.GLB_STRAP_MGR_PORT
/-- STATE of an instance: 0 ABSENT, 1 ACTIVE, 2 QUIESCING, 3 QUIESCED, 4 RESETTING (R373). -/
def State.inst (s : State) (i : Nat) : Nat := s.rd R.VIM_ISTATE_STATE i
/-- Sets STATE with its mirrors in the function window (R391). -/
def State.setInst (s : State) (i v : Nat) : State :=
  ((s.wr R.VIM_ISTATE_STATE v i).wr R.VIM_FSTAT_STATE v i).wr R.VIM_FSTAT_READY (if v = 1 then 1 else 0) i
/-- Bit i of VIM_ATTN follows the W1C flags of VIM_ISTATE (R390). -/
def State.syncAttn (s : State) (i : Nat) : State :=
  let any := s.on R.VIM_ISTATE_FLR i || s.on R.VIM_ISTATE_VFGONE i || s.on R.VIM_ISTATE_SELFRST i ||
    s.on R.VIM_ISTATE_CONTAIN i || s.on R.VIM_ISTATE_QDONE i
  let w := s.rdw R.VIM_ATTN_ATTN (i / 32)
  s.wr R.VIM_ATTN_ATTN (setBits w (i % 32) (i % 32) (b2n any)).toNat (i / 32)
/-- Sets a flag of VIM_ISTATE. -/
def State.setIflag (s : State) (f : Field) (i : Nat) : State := (s.wr f 1 i).syncAttn i

/-- The instance is QUIESCING or QUIESCED, or is being removed: nothing new of it is served (R373, R374). -/
def State.instStopped (s : State) (i : Nat) : Bool :=
  s.inst i == 2 || s.inst i == 3 || (s.inst i == 0 && (s.getFunc i).vfGone)

/-- An ACTIVE instance enters QUIESCING, with the flag that tells why (R373, R374, R428). -/
def State.enterQuiescing (s : State) (i : Nat) (f : Option Field) : State :=
  if s.inst i = 1 then
    let s : State := match f with | some f => s.setIflag f i | none => s
    (s.setInst i 2).quiesceReturn i
  else s

/-- The instance is confined as on the TK3200; the manager's instance ignores LEGACY (R382, R384). -/
def State.legacy (s : State) (i : Nat) : Bool := s.on R.VIM_ISTATE_LEGACY i && decide (i ≠ s.mgr)
/-- CONTAINMENT: in TK3200-compatible mode the instance enters QUIESCING with CONTAIN = 1 (R382). -/
def State.contain (s : State) (i : Nat) : State :=
  if s.legacy i then s.enterQuiescing i (some R.VIM_ISTATE_CONTAIN) else s

/-- Writes one record of the violation log, or counts it lost (R371, R372). -/
def State.vlogWrite (s : State) (i kind unit res : Nat) : State :=
  let h := s.rd R.VIM_VLOGHEAD_HEAD
  if (h + 1) % 16 = s.rd R.VIM_VLOGTAIL_TAIL then (s.count R.VIM_CNT_VLOST).wr R.VIM_STAT_VLOGFULL 1
  else
    let r : VRec := { w0 := w32 (i + kind * 256 + unit * 65536), w1 := w32 res, time := s.ns }
    { s with vlog := smPut s.vlog {} h r }.wr R.VIM_VLOGHEAD_HEAD ((h + 1) % 16)

/-- VIOLATION_RECORD: record, counts, VIM_FVLAST and the fault report of a failed check (R371, R391, R539). -/
def State.record (s : State) (i kind unit res : Nat) : State :=
  let s := ((s.vlogWrite i kind unit res).count R.VIM_CNT_VIOL).count R.VIM_IVIOL_COUNT i
  let s := s.wr R.VIM_FVIOL_COUNT (s.rd R.VIM_IVIOL_COUNT i) i
  let s := ((s.wr R.VIM_FVLAST_RES res i).wr R.VIM_FVLAST_KIND kind i).wr R.VIM_FVLAST_UNIT unit i
  s.report 0x5000 (0x5000 + i) (0x40 + kind)
/-- A failed spoof check: its record, and containment in TK3200-compatible mode (R370, R382). -/
def State.violate (s : State) (i kind unit res : Nat) : State := (s.record i kind unit res).contain i

/-! ## Ownership (R365, R367) -/

/-- Instance i owns cairn c. -/
def State.ownsCairn (s : State) (i c : Nat) : Bool :=
  i == s.mgr || (decide (s.rd R.VIM_ICAIRN_BASE i ≤ c) && decide (c ≤ s.rd R.VIM_ICAIRN_LIMIT i))
/-- Instance i owns flow f; flow 0 belongs to every instance. -/
def State.ownsFlow (s : State) (i f : Nat) : Bool :=
  f == 0 || i == s.mgr || (decide (s.rd R.VIM_IFLOW_BASE i ≤ f) && decide (f ≤ s.rd R.VIM_IFLOW_LIMIT i))
/-- Instance i owns the pool entries a … a + n − 1. -/
def State.ownsPool (s : State) (i a n : Nat) : Bool :=
  i == s.mgr || (decide (s.rd R.VIM_IPOOL_BASE i ≤ a) && decide (a + n ≤ s.rd R.VIM_IPOOL_LIMIT i + 1))
/-- Instance i owns DMA channel c. -/
def State.ownsChan (s : State) (i c : Nat) : Bool := i == s.mgr || nbit (s.rd R.VIM_IDMA_CHAN i) c
/-- A global range of instance i covers global address a, with stores allowed where asked (R273, R390). -/
def State.granted (s : State) (i a : Nat) (write : Bool) : Bool :=
  i == s.mgr || (List.range 4).any (fun k =>
    s.on R.VIM_IGRkB_EN i k && decide (s.rd R.VIM_IGRkB_BASE i k ≤ a / 65536) &&
    decide (a / 65536 ≤ s.rd R.VIM_IGRkL_LIMIT i k) && (!write || s.on R.VIM_IGRkB_WR i k))
/-- Index of a pipe's entry in the pipe table (R389). -/
def pipeIdx (p a d e : Nat) : Nat := p * 0x1000 + a * 0x20 + d * 0x10 + e
/-- The owner of a pipe; a pipe no entry assigns belongs to the manager (R367, R389). -/
def State.pipeOwner (s : State) (p a d e : Nat) : Nat :=
  let b := (smGet s.pipeTab 0 (pipeIdx p a d e)).toNat
  if a = 0 ∨ a = 127 ∨ b < 128 then s.mgr else b % 128
/-- Instance i owns a pipe. -/
def State.ownsPipe (s : State) (i p a d e : Nat) : Bool := i == s.mgr || i == s.pipeOwner p a d e
/-- A cairn range that is not empty (R368). -/
def State.cairnRange (s : State) (i : Nat) : List Nat :=
  let b := s.rd R.VIM_ICAIRN_BASE i
  (List.range (s.rd R.VIM_ICAIRN_LIMIT i + 1 - b)).map (· + b)

/-! ## BAR accesses (R14–R17, R366) -/

/-- The bit of HPC_GRANT0.BLK of the block that holds a BAR0 offset; none for HPC, VIM and reserved space (R14, R388). -/
def blockOf (off : Nat) : Option Nat :=
  if off < 0x10000 then some 0
  else if off < 0x20000 then some 1
  else if off < 0x28000 then some 2
  else if off < 0x30000 then some 3
  else if off < 0x40000 then some 4
  else if off < 0x80000 then some 5
  else if off < 0x100000 then none
  else if off < 0x200000 then some 6
  else if off < 0x400000 then some 7
  else if off < 0x500000 then some 8
  else if off < 0x600000 then some 9
  else if off < 0x700000 then some 10
  else if off < 0x800000 then some 11
  else if off < 0x900000 then some 12
  else if off < 0x1000000 then none
  else if off < 0x2000000 then some 13
  else if off < 0x2800000 then some 14
  else if off < 0x3000000 then none
  else if off < 0x3400000 then some 15
  else none

/-- The window of the function windows that holds an offset: instance (log entry 3). -/
def windowOf (off : Nat) : Option Nat := if off < 0x4000000 then none else some ((off - 0x4000000) / 0x10000)

/-- An offset of BAR0 that R14 leaves reserved: no block, aperture or window stands there. -/
def reservedOff (off : Nat) : Bool :=
  (decide (0x900000 ≤ off) && decide (off < 0x1000000)) || (decide (0x2800000 ≤ off) && decide (off < 0x3000000)) ||
  (decide (0x3400000 ≤ off) && decide (off < 0x4000000))

/-- Function fn has been granted the block of an offset (R366). -/
def State.grantedBlock (s : State) (fn off : Nat) : Bool :=
  let h := fn / 32
  match blockOf off with
  | none => false
  | some b =>
    nbit (s.rd R.HPC_GRANT0_BLK h) b &&
    (b != 8 || nbit (s.rd R.HPC_GRANT1_EWZ h) ((off - 0x400000) / 0x10000)) &&
    (b != 13 || nbit (s.rd R.HPC_GRANT2_ENG h) ((off - 0x1000000) / 0x80000))

/-- Whether an access of function fn reaches offset `off`, and the violation it leaves where it does not: the manager
reaches everything, another PF what it was granted, a VF its own window (R15–R17, R366).  DESIGN CHOICE (log entry 30): reserved
space does not respond to another PF, and its access leaves no violation; R16 names blocks alone. -/
def State.gate (s : State) (fn off : Nat) (write : Bool) : Bool × State :=
  match windowOf off with
  | some i => (i == fn, s)
  | none =>
    if fn = s.mgr then (true, s)
    else if fn % 32 ≠ 0 then (false, s)
    else
      let refuse : State := let (r, s) := s.draw; s.violate fn 0x06 (0x80 + fn / 32) r.toNat
      if reservedOff off then (false, s)
      else if s.grantedBlock fn off then
        if !write then (true, s)
        else match blockOf off with
          | some b => if nbit (s.rd R.HPC_GRANTRO_RO (fn / 32)) b then (false, refuse) else (decide (b ≠ 0), s)
          | none => (true, s)
      else (false, refuse)

/-- A register write of function fn at `off` that must reach the block before it acts. -/
def State.gated (s : State) (fn off : Nat) (f : State → State) : State :=
  match s.gate fn off true with
  | (true, s) => f s
  | (false, s) => s
/-- A poisoned TLP is sent on host port h (R385, R388). -/
def State.poisonTx (s : State) (h : Nat) : State := (s.wr R.HPC_ERR_POISONTX 1 h).count R.HPC_CNT0_POISONTX h
/-- A completion with a read's data goes to function fn; EP = 1 makes it a poisoned TLP (R385). -/
def State.answerRead (s : State) (fn : Nat) (w : Word) (ep : Bool) : State :=
  (if ep then s.poisonTx (fn / 32) else s).emit (.readData fn w ep)
/-- A register read of function fn: all ones where it does not reach the block (R16), else what `f` finds, with EP. -/
def State.gatedRead (s : State) (fn off : Nat) (f : State → Word × Bool × State) : State :=
  match s.gate fn off false with
  | (true, s) => let (w, ep, s) := f s; s.answerRead fn w ep
  | (false, s) => s.answerRead fn 0xFFFFFFFF false
/-- Latches a register for a later read of function fn (R7, R22). -/
def State.latchFor (s : State) (fn off : Nat) (v : Word) : State :=
  { s with latch := smIns s.latch (fn * 2 ^ 26 + off) v }
/-- BAR0 offset of a field's register. -/
def Field.off (f : Field) (i : Nat := 0) (j : Nat := 0) : Nat := f.base + f.s1 * i + f.s2 * j

end Sys2Proof.Machine
end

