-- ==== Sys2Proof/Machine/EvcCore.lean ====
section
/-! DEFINITION. The event controller's levels, vectors and delivery (R524–R538), and how a command's effect ends: the EVC
looks at every source in every cycle, so every command of the operating device closes with `settle`. -/

namespace Sys2Proof.Machine

/-- OR of status bits [n−1:0] of a register, each masked by the enable bit of the same position. -/
def State.masked (s : State) (fs : List Field) (en : Field) (i : Nat := 0) (j : Nat := 0) : Bool :=
  fs.any (fun f => s.on f i j && nbit (s.rd en i j) f.lo)

/-- WQ event sources that stand: the EVSRC of every context with HPEND or QERR (R431). -/
def State.wqRaised (s : State) : List Nat :=
  s.regs.filterMap (fun e =>
    let off := e.1 / 32
    if off < 0x4000000 ∨ e.2 = 0 ∨ 2 ≤ e.1 % 32 then none
    else
      let o := off - 0x4000000
      if o % 0x10000 < 0x1000 ∧ o % 0x40 = 8 then
        (s.wqCtx (o / 0x10000) (o % 0x10000 / 0x40)).map (fun c => s.rd R.WQ_QEV_EVSRC c)
      else none)

/-- The raw level of source n (R524, R525). -/
def State.level (s : State) (n : Nat) : Bool :=
  if n < 1024 then
    s.masked [R.ENG_ESTAT_FAULT, R.ENG_ESTAT_WDOG, R.ENG_ESTAT_DBGHALT, R.ENG_ESTAT_SWATTN] R.ENG_ESTEN_EN (n / 32) (n % 32)
  else if n < 1120 then
    let p := (n - 1024) / 6
    let fs := match (n - 1024) % 6 with
      | 0 => [R.EWZ_EVT_LINKUP, R.EWZ_EVT_DETACH, R.EWZ_EVT_TRAINFAIL, R.EWZ_EVT_BNDSUSP]
      | 1 => [R.EWZ_EVT_HUBEVT]
      | 2 => [R.EWZ_EVT_BABBLE]
      | 3 => [R.EWZ_EVT_RESUME]
      | 4 => [R.EWZ_EVT_ZOMBIE]
      | _ => [R.EWZ_EVT_MARGIN, R.EWZ_EVT_RTSTARVE, R.EWZ_EVT_RECOV, R.EWZ_EVT_MISSEDSOF]
    s.masked fs R.EWZ_EVTEN_EN p
  else if n < 1184 then s.wqRaised.contains (n - 1120)
  else if n < 1200 then
    s.masked [R.DMA_CSTAT_SREFUSE, R.DMA_CSTAT_MALF, R.DMA_CSTAT_SPOOF, R.DMA_CSTAT_HALTED, R.DMA_CSTAT_BUSERR]
      R.DMA_CEVTEN_EN (n - 1184)
  else if n < 1216 then
    [R.PTU_TRKSTAT_STALE, R.PTU_TRKSTAT_SRCERR, R.PTU_TRKSTAT_ZSEEN, R.PTU_TRKSTAT_OVF, R.PTU_TRKSTAT_QERR].any
      (fun f => s.on f (n - 1200))
  else if n < 1240 then
    decide (n < 1234) && s.masked [R.MEM_USTAT_CE, R.MEM_USTAT_UE, R.MEM_USTAT_POIS, R.MEM_USTAT_PAR, R.MEM_USTAT_THR,
      R.MEM_USTAT_FAIL] R.MEM_UEN_EN (n - 1216)
  else if n < 1248 then
    match n - 1240 with
    | 0 => s.masked [R.CLK_EVT_LOL] R.CLK_EVTEN_EN
    | 1 => s.masked [R.CLK_EVT_SWREF] R.CLK_EVTEN_EN
    | 2 => s.masked [R.PWR_EVT_OFFWAKE] R.PWR_EVTEN_EN
    | 3 => s.masked [R.PWR_EVT_NUDGELOST] R.PWR_EVTEN_EN
    | 4 => s.masked [R.PWR_EVT_LATEWAKE] R.PWR_EVTEN_EN
    | 5 => s.masked [R.PWR_EVT_SUSPREF] R.PWR_EVTEN_EN
    | _ => false
  else if n < 1256 then
    match n - 1248 with
    | 0 => s.masked [R.HLT_EVT_SUSPECT] R.HLT_EVTEN_EN
    | 1 => s.masked [R.HLT_EVT_SWAP] R.HLT_EVTEN_EN
    | 2 => s.masked [R.HLT_EVT_ZOMBIE] R.HLT_EVTEN_EN
    | 3 => s.masked [R.HLT_EVT_NORESV] R.HLT_EVTEN_EN
    | 4 => s.masked [R.HLT_EVT_AGE] R.HLT_EVTEN_EN
    | 5 => s.masked [R.HLT_EVT_GBMAX] R.HLT_EVTEN_EN
    | 6 => s.masked [R.HLT_EVT_PLLRES] R.HLT_EVTEN_EN
    | _ => s.masked [R.HLT_EVT_FUSELOW] R.HLT_EVTEN_EN
  else if n < 1264 then
    match n - 1256 with
    | 0 => s.masked [R.CMD_EVT_MAINT] R.CMD_EVTEN_EN
    | 1 => s.masked [R.CMD_EVT_CORELOST] R.CMD_EVTEN_EN
    | 2 => s.masked [R.CMD_EVT_FWLOG] R.CMD_EVTEN_EN
    | 3 => s.masked [R.CMD_EVT_ENUMFAIL] R.CMD_EVTEN_EN
    | _ => false
  else if n = 1264 then
    s.on R.TSC_STAT_CWERR || s.on R.TSC_STAT_ORPHAN || s.on R.TSC_STAT_CYCLE || s.on R.TSC_STAT_LOGFULL
  else if n < 1269 then
    [R.HPC_ERR_POISONRX, R.HPC_ERR_POISONTX, R.HPC_ERR_CTO, R.HPC_ERR_UR, R.HPC_ERR_CA, R.HPC_ERR_MALF,
      R.HPC_ERR_ATSFAIL].any (fun f => s.on f (n - 1265))
  else if n = 1269 then
    s.on R.VIM_STAT_OVLERR || s.on R.VIM_STAT_VLOGFULL || (List.range 4).any (fun k => s.on R.VIM_ATTN_ATTN k)
  else if n = 1270 then
    s.on R.EVC_FSTAT_NEWREC || s.on R.EVC_FSTAT_LOGFULL || s.on R.EVC_FSTAT_RLOST || s.on R.EVC_FSTAT_NOMERGE
  else false

/-- The vector a source is routed to: instance × 64 + v, or 8,192 + v for a core vector (R527). -/
def State.route (s : State) (n : Nat) : Option Nat :=
  match s.rd R.EVC_ROUTE_TYPE n with
  | 1 => some (s.rd R.EVC_ROUTE_INST n * 64 + s.rd R.EVC_ROUTE_VEC n)
  | 2 => some (8192 + s.rd R.EVC_ROUTE_VEC n)
  | _ => none

/-- Sources that stand, are enabled and are routed to a vector that may deliver, with their vectors (R526, R529, R536). -/
def State.standing (s : State) : List Nat :=
  ((List.range 40).filter (fun g => s.on R.EVC_GEN_EN g)).flatMap (fun g =>
    ((List.range 32).filter (nbit (s.rd R.EVC_GEN_EN g))).filterMap (fun b =>
      let n := 32 * g + b
      match s.route n with
      | none => none
      | some v =>
        if v < 8192 && (s.getFunc (v / 64)).mute then none
        else if s.level n then some (16384 * n + v) else none))

def State.getVec (s : State) (v : Nat) : Vec := smGet s.evc.vec {} v
/-- Sets a vector, with its STATE in EVC_VCFG or EVC_CVCFG. -/
def State.setVec (s : State) (v : Nat) (x : Vec) : State :=
  let n := match x.st with | .armed => 0 | .collecting => 1 | .fired => 2
  let s := if v < 8192 then s.wr R.EVC_VCFG_STATE n (v / 64) (v % 64) else s.wr R.EVC_CVCFG_STATE n ((v - 8192) % 64)
  { s with evc := { s.evc with vec := smPut s.evc.vec {} v x } }
/-- CCNT of a vector; 0 acts as 1 (R531). -/
def State.ccnt (s : State) (v : Nat) : Nat :=
  max 1 (if v < 8192 then s.rd R.EVC_VCFG_CCNT (v / 64) (v % 64) else s.rd R.EVC_CVCFG_CCNT (v - 8192))

/-- Word k of an MSI-X table entry; the Mask bit resets to 1 (R362, R379). -/
def State.msixWord (s : State) (v k : Nat) : Word := smGet s.msix (if k = 3 then 1 else 0) (4 * v + k)
/-- The messages of a function vector are masked (R532). -/
def State.vecMasked (s : State) (v : Nat) : Bool :=
  let f := s.getFunc (v / 64)
  (s.msixWord v 3).getLsbD 0 || f.fMask || !f.msixEn || f.d3hot
/-- The message of a vector leaves: an MSI-X message or a core interrupt (R532–R534). -/
def State.sendVec (s : State) (v : Nat) : State :=
  let s := s.count R.EVC_CNT_MSGS
  if v < 8192 then s.emit (.msix (v / 64) ((s.msixWord v 1 ++ s.msixWord v 0 : BitVec 64)) (s.msixWord v 2))
  else s.emit (.coreIrq (v - 8192))
/-- VECTOR_FIRE: a vector sends its message, or sets its pending bit where it is masked (R532). -/
def State.deliver (s : State) (v : Nat) : State :=
  if v < 8192 ∧ s.vecMasked v then { s with pba := setAdd s.pba v } else { s with pba := setDel s.pba v }.sendVec v
/-- A COLLECTING vector fires (R530). -/
def State.fireVec (s : State) (v : Nat) : State := (s.deliver v).setVec v { st := .fired, cnt := 0, since := s.ns.toNat }

/-- VECTOR_COLLECT: one vector meets the rises of a cycle and its level (R530, R532, R537). -/
def State.vecStep (s : State) (v rises : Nat) (level : Bool) : State :=
  let x := s.getVec v
  if !level then { s.setVec v {} with pba := setDel s.pba v }
  else if rises = 0 then s
  else match x.st with
    | .fired => s
    | .armed =>
      let s := s.setVec v { st := .collecting, cnt := min 255 rises, since := s.ns.toNat }
      if s.ccnt v ≤ min 255 rises then s.fireVec v else s
    | .collecting =>
      let n := min 255 (x.cnt + rises)
      let s := s.setVec v { x with cnt := n }
      if s.ccnt v ≤ n then s.fireVec v else s

/-- The vectors follow the sources of this cycle (R525–R530); while EN = 0 they stay ARMED, and a pending bit stands as long as
its vector's level does (R532, R535). -/
def State.evcLook (s : State) : State :=
  if s.on R.EVC_CTL_EN then
    let new := s.standing
    let old := s.evc.active
    if new = old then s
    else
      let vs := ((new ++ old).map (· % 16384)).foldl setAdd []
      let s := s.forL vs (fun v s =>
        let mine := new.filter (fun e => e % 16384 == v)
        s.vecStep v (mine.filter (fun e => !old.contains e)).length (!mine.isEmpty))
      { s with evc := { s.evc with active := new } }
  else
    let s := s.forL s.evc.vec (fun e s => s.setVec e.1 {})
    { s with evc := { s.evc with active := [] }, pba := s.pba.filter (fun v => s.standing.any (fun e => e % 16384 == v)) }

/-- Sources whose route entry has FPIN = 1 (R538). -/
def State.fpins (s : State) : List Nat :=
  s.regs.filterMap (fun e =>
    let off := e.1 / 32
    if e.1 % 32 = 29 ∧ e.2 ≠ 0 ∧ 0x34000 ≤ off ∧ off < 0x34000 + 1280 * 4 then some ((off - 0x34000) / 4) else none)
/-- FAULT_PIN_DRIVE: FAULT_N follows the sources with FPIN = 1 once the firmware has started after a power-on or warm reset
(R538, R614). -/
def State.drivePin (s : State) : State :=
  if s.on R.CMD_STAT_FWRDY || s.rd R.GLB_RSTCAUSE_CAUSE == 4 then { s with faultN := s.fpins.any s.level } else s

/-- LATE_WAKE: a known event meets a unit that is not back at Idle (R563). -/
def State.lateWake (s : State) : State := (s.wr R.PWR_EVT_LATEWAKE 1).count R.PWR_CNT_LATEWAKE
/-- A known event of the ropes that `sel` names arrives (R562, R563). -/
def State.lateRopes (s : State) (sel : Nat → Bool) : State :=
  s.forN 32 (fun r s => if sel r && decide (2 ≤ s.rd R.PWR_RCTL_STATE r) then s.lateWake else s)

/-- The next read of a CODE_LOAD, up to the next 4 KiB boundary and no longer than a read request may be; it waits while the port
has 256 requests outstanding (R356, R450). -/
def State.codeRead (s : State) (k : Nat) (c : Cmd) : State :=
  let a := (c.words.getD 5 0).toNat * 2 ^ 32 + (c.words.getD 4 0).toNat + c.pos
  let n := min (min ((c.words.getD 6 0).toNat - c.pos) (4096 - a % 4096)) (s.mrrs (s.wqInst c.ctx))
  if 256 ≤ s.readsAt (s.wqInst c.ctx / 32) then
    { s with cmds := { s.cmds with cmd := smIns s.cmds.cmd k { c with wait := .code (bits (c.words.getD 3 0) 9 0) } } }
  else
    let (t, s) := s.issueRead (.cmd k) (s.wqInst c.ctx) (s.wqPasid c.ctx) a (n / 4)
    { s with cmds := { s.cmds with cmd := smIns s.cmds.cmd k { c with wait := .hostRead, tag := t } } }
/-- A CODE_LOAD goes on once its engine is out of dispatch and runs no thread: TSTATE = 5 (R284, R450). -/
def State.codeGo (s : State) : State :=
  s.forL s.cmds.cmd (fun (e : Nat × Cmd) s =>
    match e.2.wait with
    | .code n => if s.erd R.ENG_STAT_TSTATE n = 5 then s.codeRead e.1 e.2 else s
    | _ => s)

/-- What the TK4610 does in the cycle that ends a command: code loads, the event controller and FAULT_N (R450, R525, R538). -/
def State.settle (s : State) : State := s.codeGo.evcLook.drivePin

/-- A command's effect while the device operates; in reset, during a power-on delay and in Off nothing but the commands of
start-up acts (R564, R601, R619). -/
def act (s : State) (f : State → State) : Host.Outcome State Fault Refusal :=
  .next (if s.phase = .running then (f s).settle else s)

end Sys2Proof.Machine
end

