-- ==== Sys2Proof/Machine/DmaCore.lean ====
section
/-! DEFINITION. A DMA channel and the fields of its descriptor (R504, R523). -/

namespace Sys2Proof.Machine

def State.getChan (s : State) (c : Nat) : Chan := smGet s.dma.chan {} c
def State.setChan (s : State) (c : Nat) (x : Chan) : State := { s with dma := { s.dma with chan := smPut s.dma.chan {} c x } }
/-- STATE of a channel: 0 STOPPED, 1 RUN, 2 IDLE, 3 PULSE, 4 HALTED, 5 ERROR (R523). -/
def State.chanState (s : State) (c : Nat) : Nat := s.rd R.DMA_CSTAT_STATE c
def State.setChanState (s : State) (c v : Nat) : State := s.wr R.DMA_CSTAT_STATE v c

/-! ## Descriptor fields (R504) -/

abbrev DmaDesc := List Word
def DmaDesc.f (d : DmaDesc) (n hi lo : Nat) : Nat := bits (d.getD n 0) hi lo
def DmaDesc.len (d : DmaDesc) : Nat := d.f 1 31 0
def DmaDesc.src (d : DmaDesc) : Nat := d.f 3 31 0 * 2 ^ 32 + d.f 2 31 0
def DmaDesc.dst (d : DmaDesc) : Nat := d.f 5 31 0 * 2 ^ 32 + d.f 4 31 0
def DmaDesc.ptgt (d : DmaDesc) : Nat := d.f 0 28 27
def DmaDesc.pslot (d : DmaDesc) : Nat := d.f 0 26 24
def DmaDesc.pchan (d : DmaDesc) : Nat := d.f 0 23 20
def DmaDesc.pcairn (d : DmaDesc) : Nat := d.f 6 15 0
def DmaDesc.sfix (d : DmaDesc) : Bool := d.f 0 17 17 == 1
def DmaDesc.dfix (d : DmaDesc) : Bool := d.f 0 16 16 == 1
def DmaDesc.shost (d : DmaDesc) : Bool := d.f 0 15 15 == 1
def DmaDesc.dhost (d : DmaDesc) : Bool := d.f 0 14 14 == 1
/-- Byte n of the stream as it leaves the staging buffer is byte n xor this of what was read (R507). -/
def DmaDesc.swap (d : DmaDesc) : Nat := d.f 0 18 18 + 2 * d.f 0 19 19

end Sys2Proof.Machine
end

