-- ==== Sys2Proof/Machine/TscCore.lean ====
section
/-! DEFINITION. Cairns, operand slots, readiness, belays and timers of the thread scheduler (R229–R256). -/

namespace Sys2Proof.Machine

/-! ## Cairn words (R229) -/

/-- Word w of cairn c as it is stored. -/
def State.cw (s : State) (c w : Nat) : Word := s.rawWord (saCairn c w)
/-- Hardware writes bits [hi:lo] of word w of cairn c. -/
def State.cwSet (s : State) (c w hi lo v : Nat) : State :=
  s.storeWordP (saCairn c w) (setBits (s.cw c w) hi lo v) (s.poisoned (saCairn c w))
/-- STATE: 0 FREE, 1 IDLE, 2 READY, 3 BELAYED, 4 PREFETCHED, 5 RUNNING, 6 WAITING, 7 DONE, 8 HALTED. -/
def State.cst (s : State) (c : Nat) : Nat := bits (s.cw c 0) 31 28
def State.cPrio (s : State) (c : Nat) : Nat := bits (s.cw c 0) 27 25
def State.cMode (s : State) (c : Nat) : Bool := (s.cw c 0).getLsbD 24
def State.cReq (s : State) (c : Nat) : Nat := bits (s.cw c 0) 23 16
def State.cPersist (s : State) (c : Nat) : Bool := (s.cw c 0).getLsbD 8
def State.cInst (s : State) (c : Nat) : Nat := bits (s.cw c 0) 6 0
def State.cRfx (s : State) (c : Nat) : Bool := (s.cw c 1).getLsbD 11
def State.cFlow (s : State) (c : Nat) : Nat := bits (s.cw c 3) 31 20
def State.cDepth (s : State) (c k : Nat) : Nat := bits (s.cw c 4) (4 * k + 3) (4 * k)
def State.cCnt (s : State) (c k : Nat) : Nat := bits (s.cw c 5) (4 * k + 3) (4 * k)
def State.cHead (s : State) (c k : Nat) : Nat := bits (s.cw c 6) (4 * k + 3) (4 * k)
def State.cOpBase (s : State) (c : Nat) : Nat := bits (s.cw c 7) 31 16
def State.cTmode (s : State) (c : Nat) : Bool := (s.cw c 7).getLsbD 15
def State.cTslot (s : State) (c : Nat) : Nat := bits (s.cw c 7) 14 12
def State.cTdl (s : State) (c : Nat) : Nat := (s.cw c 8).toNat + bits (s.cw c 9) 15 0 * 2 ^ 32
def State.cWreq (s : State) (c : Nat) : Nat := bits (s.cw c 11) 23 16
/-- Sum of the depths of slots below k. -/
def State.depthSum (s : State) (c k : Nat) : Nat := ((List.range k).map (s.cDepth c)).sum
/-- Storage address of place n of slot k (R233). -/
def State.opSa (s : State) (c k n : Nat) : Nat := saPool (s.cOpBase c + s.depthSum c k + n)

/-- A cairn that counts against QUIET (R264). -/
def stActive (st : Nat) : Bool := st == 2 || st == 4 || st == 5
/-- Sets STATE, with TSC_STAT.QUIET (R231, R264). -/
def State.setCst (s : State) (c v : Nat) : State :=
  let o := s.cst c
  let n := s.tsc.nAct + b2n (stActive v) - b2n (stActive o)
  ({ s.cwSet c 0 31 28 v with tsc := { s.tsc with nAct := n } }).wr R.TSC_STAT_QUIET (if n = 0 then 1 else 0)
/-- Sets LSTAT (R257). -/
def State.setLstat (s : State) (c v : Nat) : State := s.cwSet c 12 31 24 v

/-! ## Packet buffer space (R235, R236) -/

/-- Releases the packet buffer space that starts at unit `idx` of port p. -/
def State.bufFree (s : State) (p idx : Nat) : State :=
  { s with bufUse := smPut s.bufUse [] p ((smGet s.bufUse [] p).filter (fun e => decide (e.1 ≠ idx))) }
/-- Releases the space of a PACKET operand; one of LENGTH 0 holds none (R210). -/
def State.opdFree (s : State) (w0 w1 : Word) : State :=
  if bits w1 31 28 = 1 ∧ bits w0 27 15 ≠ 0 then s.bufFree (bits w0 31 28) (bits w0 13 0) else s
/-- Units of 16 bytes that a payload takes. -/
def bufUnits (len : Nat) : Nat := max 1 (cdiv len 16)
/-- The places of a packet buffer where `len` bytes fit beside the space in use. -/
def bufPlaces (use : List (Nat × Nat)) (len : Nat) : List Nat :=
  ((0 :: use.map (fun e => e.1 + bufUnits e.2)).filter (fun a =>
    decide (a + bufUnits len ≤ 16384) &&
    use.all (fun e => decide (a + bufUnits len ≤ e.1) || decide (e.1 + bufUnits e.2 ≤ a)))).eraseDups
/-- Room for `len` bytes in the packet buffer of port p. -/
def State.bufRoom (s : State) (p len : Nat) : Bool := !(bufPlaces (smGet s.bufUse [] p) len).isEmpty
/-- Takes space for `len` bytes; where it lies is not stated (log entry 8). -/
def State.bufTake (s : State) (p len : Nat) : Nat × State :=
  let l := bufPlaces (smGet s.bufUse [] p) len
  let (k, s) := s.choose (max 1 l.length)
  let a := l.getD k 0
  (a, { s with bufUse := smPut s.bufUse [] p ((a, len) :: smGet s.bufUse [] p) })

/-! ## Flows and readiness (R240–R243) -/

def State.flowQ (s : State) (f : Nat) : List Nat := smGet s.tsc.flowQ [] f
def State.setFlowQ (s : State) (f : Nat) (l : List Nat) : State :=
  { s with tsc := { s.tsc with flowQ := smPut s.tsc.flowQ [] f l } }.wr R.TSC_FLOW_QLEN (min 4095 l.length) f

/-- Order of a ready list: by tR, then by cairn number (R241). -/
def readyIns (e : ReadyEnt) : List ReadyEnt → List ReadyEnt
  | [] => [e]
  | x :: l => if e.tr < x.tr ∨ (e.tr = x.tr ∧ e.c < x.c) then e :: x :: l else x :: readyIns e l
/-- Cairn c enters ready list PRIO with its tR. -/
def State.enterReady (s : State) (c tr : Nat) : State :=
  let p := s.cPrio c
  let s := s.setCst c 2
  { s with tsc := { s.tsc with ready := readyIns ⟨c, p, tr⟩ s.tsc.ready } }.wr
    R.TSC_RDYCNT_COUNT (s.rd R.TSC_RDYCNT_COUNT p + 1) p
/-- Cairn c leaves its ready list. -/
def State.leaveReady (s : State) (c : Nat) : State :=
  match s.tsc.ready.find? (fun e => e.c == c) with
  | none => s
  | some e =>
    { s with tsc := { s.tsc with ready := s.tsc.ready.filter (fun x => decide (x.c ≠ c)) } }.wr
      R.TSC_RDYCNT_COUNT (s.rd R.TSC_RDYCNT_COUNT e.prio - 1) e.prio
/-- A cairn that met readiness takes its flow's belay and becomes READY, or queues BELAYED (R231, R242, R243). -/
def State.becomeReady (s : State) (c : Nat) : State :=
  let f := s.cFlow c
  if f = 0 then s.enterReady c s.tsc.cyc
  else if s.on R.TSC_FLOW_HELD f then (s.setCst c 3).setFlowQ f (s.flowQ f ++ [c])
  else ((s.wr R.TSC_FLOW_HELD 1 f).wr R.TSC_FLOW_HOLDER c f).enterReady c s.tsc.cyc
/-- BELAY_RELEASE: cairn c gives up its flow's belay, and the first cairn in the queue takes it (R243). -/
def State.releaseBelay (s : State) (c : Nat) : State :=
  let f := s.cFlow c
  if f = 0 ∨ ¬ s.on R.TSC_FLOW_HELD f ∨ s.rd R.TSC_FLOW_HOLDER f ≠ c then s
  else match s.flowQ f with
    | [] => s.wr R.TSC_FLOW_HELD 0 f
    | d :: l => ((s.setFlowQ f l).wr R.TSC_FLOW_HOLDER d f).enterReady d s.tsc.cyc
/-- Slots of a mask hold operands under MODE (R240). -/
def State.slotsMet (s : State) (c mask : Nat) : Bool :=
  let l := (List.range 8).filter (nbit mask)
  if s.cMode c then l.any (fun k => decide (s.cCnt c k ≠ 0))
  else !l.isEmpty && l.all (fun k => decide (s.cCnt c k ≠ 0))

/-! ## Timers (R239) -/

/-- Timers armed. -/
def State.tmrCount (s : State) : Nat := s.tsc.tmrP.length + s.tsc.tmrY.length
/-- TSC_TMRSTAT follows the timers armed. -/
def State.syncTmr (s : State) : State :=
  (s.wr R.TSC_TMRSTAT_ARMED s.tmrCount).wr R.TSC_TMRSTAT_FULL (if 16384 ≤ s.tmrCount then 1 else 0)
/-- A deadline has passed: (device time [47:0] − deadline) mod 2⁴⁸ is below 2⁴⁷ (R239). -/
def State.passed (s : State) (d : Nat) : Bool := decide ((s.ns48 + 2 ^ 48 - d % 2 ^ 48) % 2 ^ 48 < 2 ^ 47)
def State.armPeriodic (s : State) (c : Nat) : State :=
  ({ s with tsc := { s.tsc with tmrP := setAdd s.tsc.tmrP c } }).syncTmr
def State.armTimeout (s : State) (c d : Nat) : State :=
  ({ s with tsc := { s.tsc with tmrY := smIns s.tsc.tmrY c d } }).syncTmr
def State.disarmTimeout (s : State) (c : Nat) : State :=
  ({ s with tsc := { s.tsc with tmrY := smDel s.tsc.tmrY c } }).syncTmr
def State.disarm (s : State) (c : Nat) : State :=
  ({ s with tsc := { s.tsc with tmrP := setDel s.tsc.tmrP c, tmrY := smDel s.tsc.tmrY c } }).syncTmr

/-- A wait resolves with a code, and the cairn proceeds as from IDLE (R231, R252). -/
def State.resolveWait (s : State) (c code : Nat) : State :=
  let s := (s.disarmTimeout c).cwSet c 11 29 24 code
  ((s.cwSet c 14 19 19 1)).becomeReady c
/-- CAIRN_READY: readiness of an IDLE or WAITING cairn (R240). -/
def State.evalReady (s : State) (c : Nat) : State :=
  if s.cst c = 1 then if s.slotsMet c (s.cReq c) then s.becomeReady c else s
  else if s.cst c = 6 then if s.slotsMet c (s.cWreq c) then s.resolveWait c 0 else s
  else s

/-! ## Dropping and accepting operands (R233–R236) -/

/-- Operand n of slot k, counted from its head. -/
def State.opAt (s : State) (c k n : Nat) : Word × Word :=
  let a := s.opSa c k ((s.cHead c k + n) % max 1 (s.cDepth c k))
  (s.rawWord a, s.rawWord (a + 4))
/-- Drops every operand of the slots of cairn c: buffer space is released, host jobs retire with `stat` (R231, R414). -/
def State.dropSlots (s : State) (c stat : Nat) : State :=
  let s := s.forN 8 (fun k s => s.forN (s.cCnt c k) (fun n s =>
    let (w0, w1) := s.opAt c k n
    (s.opdFree w0 w1).retireOpd w1 stat))
  (s.storeWordP (saCairn c 5) 0 false).storeWordP (saCairn c 6) 0 false
/-- Jobs held by cairn c retire with `stat` (R414). -/
def State.retireHeld (s : State) (c stat : Nat) : State :=
  let l := smGet s.heldJobs [] c
  let s := { s with heldJobs := smDel s.heldJobs c }
  s.forL l (fun x s => s.retireAt x.1 x.2 stat)
/-- Takes cairn c out of whatever it waits in: ready list, belay and belay queue, timers. -/
def State.unlinkCairn (s : State) (c : Nat) : State :=
  let s := if s.cst c = 2 then (s.leaveReady c).releaseBelay c else s
  let f := s.cFlow c
  let s := if s.cst c = 3 then s.setFlowQ f ((s.flowQ f).filter (fun d => decide (d ≠ c))) else s
  s.disarm c
/-- DEACTIVATE: the cairn becomes FREE, its operands are dropped and its jobs end ABORTED (R231, R257, R414). -/
def State.deactivateCairn (s : State) (c : Nat) : State :=
  let s := s.unlinkCairn c
  let s := (s.dropSlots c 1).retireHeld c 1
  (s.setCst c 0).setLstat c 0x82
/-- Cairn c leaves the prefetch slot that holds it, and the operands there are dropped with it. -/
def State.dropPref (s : State) (c stat : Nat) : State :=
  s.forL s.eng (fun x s =>
    match x.2.pref with
    | some p =>
      if p.c = c then
        let s := s.forL p.ops (fun o s => (s.opdFree o.w0 o.w1).retireOpd o.w1 stat)
        (s.setEng x.1 { s.getEng x.1 with pref := none }).ewr R.ENG_STAT_PREF 0 x.1
      else s
    | none => s)
/-- The scheduler reads a poisoned cairn: HALTED with LSTAT = FAULT, belay released, operands dropped (R484); a prefetched one
leaves its engine's prefetch slot. -/
def State.haltPoisoned (s : State) (c : Nat) : State :=
  let s := if s.cst c = 4 then s.dropPref c 7 else s
  let s := if s.cst c = 5 ∨ s.cst c = 4 then (s.releaseBelay c).disarm c else s.unlinkCairn c
  let s := (s.dropSlots c 7).retireHeld c 7
  let s := (s.setCst c 8).setLstat c 0x80
  s.contain (s.cInst c)
/-- The scheduler reads cairn c: true where no word of it is delivered poisoned (R478, R484). -/
def State.tscRead (s : State) (c : Nat) : Bool × State :=
  let (l, s) := s.readWords (saCairn c 0) 16
  if l.any (·.2) then (false, s.haltPoisoned c) else (true, s)

/-- What became of an offered operand (R233). -/
inductive Offer where
  | accepted | refused | dropped
  deriving DecidableEq, Repr

/-- An operand for a cairn that cannot take it is dropped and counted (R233). -/
def State.orphan (s : State) (w0 w1 : Word) : State :=
  (((s.opdFree w0 w1).retireOpd w1 8).count R.TSC_CNT0_ORPHAN).wr R.TSC_STAT_ORPHAN 1
/-- Places of slot k kept for the operand that cairn c's prefetch slot took from it (R246). -/
def State.reserved (s : State) (c k : Nat) : Nat :=
  if s.cst c = 4 then
    match (s.getEng (bits (s.cw c 1) 9 0)).pref with
    | some p => if p.c = c ∧ p.ops.any (fun o => o.slot == k) then 1 else 0
    | none => 0
  else 0
/-- OPERAND_ACCEPT, OPERAND_ORPHAN: an operand offered to slot k of cairn c (R233). -/
def State.offer (s : State) (c k : Nat) (w0 w1 : Word) : Offer × State :=
  let (_, s) := s.tscRead c
  let st := s.cst c
  if st = 0 ∨ st = 7 ∨ st = 8 ∨ s.cDepth c k = 0 then (.dropped, s.orphan w0 w1)
  else if s.cCnt c k + s.reserved c k < s.cDepth c k then
    let a := s.opSa c k ((s.cHead c k + s.cCnt c k) % s.cDepth c k)
    let s := (s.storeWord a w0).storeWord (a + 4) w1
    let s := s.cwSet c 5 (4 * k + 3) (4 * k) (s.cCnt c k + 1)
    (.accepted, s.evalReady c)
  else (.refused, s)
/-- Slot k of cairn c drops what it is offered (R233). -/
def State.drops (s : State) (c k : Nat) : Bool :=
  let st := s.cst c
  decide (st = 0 ∨ st = 7 ∨ st = 8 ∨ s.cDepth c k = 0)
/-- Slot k of cairn c has room, or would drop what it is offered (R233). -/
def State.wouldTake (s : State) (c k : Nat) : Bool :=
  s.drops c k || decide (s.cCnt c k + s.reserved c k < s.cDepth c k)

/-! ## The order of the sources of one fabric cycle (R237) -/

/-- Sources of operands. -/
inductive Source where
  | packet (p : Nat)
  | completion (p : Nat)
  | marker (m : Nat)
  | timer
  | channel (c : Nat)
  | queue (c : Nat)
  | send (e : Nat)
  deriving DecidableEq, Repr
/-- The place of a source among those that offer in one fabric cycle (R237). -/
def Source.place : Source → Nat
  | .packet p => 2 * p
  | .completion p => 2 * p + 1
  | .marker m => 32 + m
  | .timer => 64
  | .channel c => 65 + c
  | .queue c => 128 + c
  | .send e => 4096 + e
/-- Sources that hold an operand for slot k of cairn c, which they offer again in every fabric cycle (R255). -/
def State.holders (s : State) (c k : Nat) : List Source :=
  ((List.range 16).filter (fun p => (s.getPort p).cq.any (fun e => e.c == c && e.slot == k))).map .completion ++
  ((List.range 32).filter (fun m => s.on R.TSC_MKROUTE_EN m && s.rd R.TSC_MKROUTE_CAIRN m == c && s.rd R.TSC_MKROUTE_SLOT m == k &&
    s.on R.PTU_MKSTAT_PEND m && (s.getMarker m).nf != 0)).map .marker ++
  (if s.tsc.tmrP.contains c && s.cTmode c && s.cTslot c == k && s.passed (s.cTdl c) then [.timer] else []) ++
  ((List.range 16).filter (fun ch => s.chanState ch == 3 && (match (s.getChan ch).desc with
    | some d => DmaDesc.pcairn d == c && DmaDesc.pslot d == k
    | none => false))).map .channel ++
  (s.wq.filter (fun x => s.wqState x.1 == 2 && (match x.2.jobs.find? (fun j => j.st != .delivered) with
    | some j => j.st == .ready && s.jobTarget x.1 j == (c, k)
    | none => false))).map (fun x => .queue x.1) ++
  (s.eng.filter (fun x => match x.2.send with
    | some r => r.target == c && r.slot == k
    | none => false)).map (fun x => .send x.1)
/-- A source of an earlier place holds an operand for slot k of cairn c: it is served first (R237). -/
def State.outranked (s : State) (src : Source) (c k : Nat) : Bool := (s.holders c k).any (fun h => decide (h.place < src.place))
/-- OPERAND_ACCEPT by a source in its place among the sources of the fabric cycle (R233, R237). -/
def State.offerFrom (s : State) (src : Source) (c k : Nat) (w0 w1 : Word) : Offer × State :=
  if !s.drops c k && s.outranked src c k then (.refused, s) else s.offer c k w0 w1

/-! ## ACTIVATE and DEACTIVATE (R231, R232) -/

/-- Reserved fields of a cairn are 0 (R229). -/
def State.cReservedOk (s : State) (c : Nat) : Bool :=
  bits (s.cw c 0) 15 9 == 0 && bits (s.cw c 0) 7 7 == 0 && bits (s.cw c 1) 10 10 == 0 && bits (s.cw c 3) 5 0 == 0 &&
  bits (s.cw c 7) 11 0 == 0 && bits (s.cw c 9) 31 16 == 0 && bits (s.cw c 11) 31 30 == 0 && bits (s.cw c 14) 18 0 == 0
/-- The MALFORMED checks of R232. -/
def State.cairnMalformed (s : State) (c : Nat) : Bool :=
  !s.cReservedOk c || s.cReq c == 0 || (List.range 8).any (fun k => nbit (s.cReq c) k && s.cDepth c k == 0) ||
  (s.cTmode c && s.cDepth c (s.cTslot c) == 0) || s.cw c 2 == 0 || (s.cRfx c && s.cPrio c != 0) ||
  decide (65536 < s.cOpBase c + s.depthSum c 8)
/-- What a SPOOF check of ACTIVATE names: KIND and resource, none where INST owns everything (R232, R372). -/
def State.cairnSpoof (s : State) (c : Nat) : Option (Nat × Nat) :=
  let i := s.cInst c
  if !s.ownsCairn i c then some (0x02, c)
  else if !s.ownsFlow i (s.cFlow c) then some (0x03, s.cFlow c)
  else if !s.ownsPool i (s.cOpBase c) (s.depthSum c 8) then some (0x04, s.cOpBase c)
  else none

/-- ACTIVATE of cairn c: the RESULT of TSC_CMD (1 done, 2 MALFORMED, 3 SPOOF, 4 BAD_STATE, 5 TIMERFULL) (R232). -/
def State.activateCairn (s : State) (c : Nat) : Nat × State :=
  let (ok, s) := s.tscRead c
  if !ok then let (k, s) := s.choose 4; (2 + k, s)
  else if ¬ (s.cst c = 0 ∨ s.cst c = 7 ∨ s.cst c = 8) then (4, s)
  else if s.cairnMalformed c then (2, s)
  else match s.cairnSpoof c with
    | some (k, r) => (3, s.violate (s.cInst c) k 0x20 r)
    | none =>
      if s.cTmode c ∧ 16384 ≤ s.tmrCount then (5, s)
      else
        let s := (s.dropSlots c 8).retireHeld c 8
        let s := (s.setCst c 1).storeWord (saCairn c 13) 0
        let s := (s.cwSet c 3 7 7 0).cwSet c 14 19 19 0
        let s := if s.cTmode c then s.armPeriodic c else s.disarm c
        (1, s.evalReady c)
/-- DEACTIVATE of cairn c: the RESULT of TSC_CMD (R231, R232). -/
def State.deactivateReq (s : State) (c : Nat) : Nat × State :=
  let (_, s) := s.tscRead c
  let st := s.cst c
  if st = 4 ∨ st = 5 ∨ st = 0 then (4, s) else (1, s.deactivateCairn c)

end Sys2Proof.Machine
end

