-- ==== Sys2Proof/Machine/EngCore.lean ====
section
/-! DEFINITION. What every engine instruction shares: when an engine issues, its registers, its local map, loads and
stores with their checks, exceptions, and how an instruction retires (R265–R321). -/

namespace Sys2Proof.Machine

/-! ## Registers of the engine (R316, R317, R346) -/

/-- gn; g0 reads 0. -/
def Eng.gr (x : Eng) (n : Nat) : Word := if n = 0 then 0 else smGet x.g 0 n
/-- Writes gn; a write of g0 is discarded.  Writing a register makes its parity good. -/
def Eng.setG (x : Eng) (n : Nat) (v : Word) : Eng :=
  if n = 0 then x else { x with g := smPut x.g 0 n v, parBad := setDel x.parBad n }
def Eng.vr (x : Eng) (n : Nat) : BitVec 128 := smGet x.v 0 n
/-- Writes vn. -/
def Eng.setV (x : Eng) (n : Nat) (v : BitVec 128) : Eng :=
  { x with v := smPut x.v 0 n v, parBad := setDel x.parBad (32 + n) }
/-- Lane i of accumulator aN. -/
def Eng.ac (x : Eng) (n i : Nat) : BitVec 64 := smGet x.acc 0 (4 * n + i)
def Eng.setAc (x : Eng) (n i : Nat) (v : BitVec 64) : Eng := { x with acc := smPut x.acc 0 (4 * n + i) v }
/-- Lane i of a vector register (R293). -/
def lane (v : BitVec 128) (i : Nat) : Word := v.extractLsb' (32 * i) 32
/-- A vector register from its lanes, lane 0 first. -/
def lanes (a b c d : Word) : BitVec 128 := d ++ c ++ b ++ a
/-- A lane operation on every lane. -/
def mapLanes (f : Nat → Word) : BitVec 128 := lanes (f 0) (f 1) (f 2) (f 3)
def Eng.flagZ (x : Eng) : Bool := x.flags.getLsbD 0
def Eng.flagN (x : Eng) : Bool := x.flags.getLsbD 1
def Eng.flagC (x : Eng) : Bool := x.flags.getLsbD 2
def Eng.flagV (x : Eng) : Bool := x.flags.getLsbD 3
def Eng.flagDZ (x : Eng) : Bool := x.flags.getLsbD 4
/-- Sets N, Z, C, V and leaves DZ (R318). -/
def Eng.setNZCV (x : Eng) (n z c v : Bool) : Eng :=
  { x with flags := BitVec.ofNat 5 (b2n z + 2 * b2n n + 4 * b2n c + 8 * b2n v + 16 * b2n x.flagDZ) }
/-- Sets DZ, which only WRF and a thread start clear (R318). -/
def Eng.setDZ (x : Eng) : Eng := { x with flags := x.flags ||| 16 }
/-- Sets ACP status bits (R346). -/
def Eng.orAcp (x : Eng) (b : BitVec 12) : Eng := { x with acp := x.acp ||| b }

/-! ## Condition of the engine -/

/-- TSTATE of an engine (R312). -/
def State.tstate (s : State) (e : Nat) : Nat :=
  let x := s.getEng e
  if x.thr.isNone then if s.erd R.ENG_CTL_CLOAD e = 1 then 5 else 0
  else if s.erd R.ENG_DBG_HALTED e = 1 then 4
  else if x.wait.isSome then 2
  else if x.xact then 3 else 1
/-- ENG_STAT follows the engine (R312). -/
def State.syncEng (s : State) (e : Nat) : State :=
  let x := s.getEng e
  let s := s.ewr R.ENG_STAT_TSTATE (s.tstate e) e
  let s := s.ewr R.ENG_STAT_PREF (b2n x.pref.isSome) e
  s.ewr R.ENG_STAT_CAIRN (match x.thr with | some t => t.c | none => 0) e
/-- The thread has reached its run limit: only the watchdog acts (R297, R302). -/
def State.atLimit (s : State) (e : Nat) : Bool :=
  let l := s.erd R.ENG_RUNLIM_LIMIT e
  l != 0 && decide (l ≤ (s.getEng e).lcyc.toNat)
/-- The engine issues an instruction now. -/
def State.issues (s : State) (e : Nat) : Bool :=
  let x := s.getEng e
  x.thr.isSome && x.wait.isNone && x.send.isNone && x.stalled.isNone && (s.physOf e).isSome &&
  (s.erd R.ENG_DBG_HALTED e == 0 || x.step) && !s.atLimit e
/-- INST of the running thread. -/
def Eng.tinst (x : Eng) : Nat := match x.thr with | some t => t.inst | none => 0
/-- Cairn of the running thread. -/
def Eng.tcairn (x : Eng) : Nat := match x.thr with | some t => t.c | none => 0

/-! ## The local map (R269, R270) -/

/-- What a local address names. -/
inductive Local where
  | imem (off : Nat)
  | dmem (off : Nat)
  | win (off : Nat)
  | lreg (off : Nat)
  | rope (off : Nat)
  | glob (a : Nat)
  | none
  deriving DecidableEq, Repr

/-- The local map of an engine (R269, R270). -/
def Eng.localMap (x : Eng) (a : Nat) : Local :=
  if a < 0x4000 then .imem a
  else if 0x10000 ≤ a ∧ a < 0x18000 then .dmem (a - 0x10000)
  else if 0x20000 ≤ a ∧ a < 0x20200 then .win (a - 0x20000)
  else if 0x30000 ≤ a ∧ a < 0x30040 then .lreg (a - 0x30000)
  else if 0x80000 ≤ a ∧ a < 0x100000 then .rope (a - 0x80000)
  else if 0x40000000 ≤ a ∧ a < 0x80000000 then .glob (x.lgw0.toNat * 2 ^ 30 + a % 2 ^ 30)
  else if 0x80000000 ≤ a ∧ a < 0xC0000000 then .glob (x.lgw1.toNat * 2 ^ 30 + a % 2 ^ 30)
  else .none

/-- The logical engine whose memories a global address names (R271). -/
def engOfGlobal (a : Nat) : Option Nat :=
  if 0x1010000000 ≤ a ∧ a < 0x1014000000 then some ((a - 0x1010000000) / 0x10000) else none
/-- A global address in the instruction memory of a logical engine. -/
def imemOfGlobal (a : Nat) : Option Nat :=
  match engOfGlobal a with
  | some n => if a % 0x10000 < 0x4000 then some n else none
  | none => none
/-- Global address a is in the instruction memory of an engine with CLOAD = 0, which refuses every write from outside (R272). -/
def State.imemShut (s : State) (a : Nat) : Bool :=
  match imemOfGlobal a with
  | some n => s.erd R.ENG_CTL_CLOAD n == 0
  | none => false
/-- The firmware region, the last 1 MiB of list memory (R606). -/
def inFirmware (a : Nat) : Bool := decide (0x1020700000 ≤ a) && decide (a < 0x1020800000)

/-- Storage address of a local address; local control registers and absent addresses have none. -/
def State.localSa (s : State) (e : Nat) : Local → Option Nat
  | .imem o => (s.physOf e).map (fun i => saEngine i + o)
  | .dmem o => (s.physOf e).map (fun i => saEngine i + 0x8000 + o)
  | .rope o => some (saRope (ropeOf e) + o)
  | .glob a => s.globalSa a
  | _ => none

/-! ## Exceptions (R296–R302) -/

/-- A cause with its faulting address. -/
structure Cause where
  code : Nat
  addr : Word
  regpar : Bool := false
  deriving DecidableEq, Repr

/-- Cause codes of R297. -/
def xACCESS : Nat := 1
def xILLEGAL : Nat := 2
def xALIGN : Nat := 3
def xFENCE : Nat := 4
def xPOISON : Nat := 5
def xDIVZERO : Nat := 6
def xWATCHDOG : Nat := 7
def xCGOWN : Nat := 8
def xDOUBLE : Nat := 9

/-- Where one instruction meets several causes, the lowest code is raised; the earlier of two with one code (R297). -/
def lowest : List Cause → Option Cause
  | [] => none
  | c :: l =>
    match lowest l with
    | none => some c
    | some d => if c.code ≤ d.code then some c else some d

/-- An engine with no thread and an empty prefetch slot enters Idle, unless its rope's limit is Run (R559). -/
def State.idleEntry (s : State) (e : Nat) : State :=
  let x := s.getEng e
  if x.thr.isNone && x.pref.isNone && s.on R.PWR_RCTL_LIMIT (ropeOf e) && s.erd R.ENG_STAT_PSTATE e == 0 then
    (s.ewr R.ENG_STAT_PSTATE 1 e).setEng e { x with entry := some s.tsc.cyc }
  else s

/-- The engine halts for debug (R308). -/
def State.dbgHalt (s : State) (e : Nat) : State :=
  let s := s.setEng e { s.getEng e with step := false, hbHalt := true }
  let s := (s.ewr R.ENG_DBG_HALTED 1 e).ewr R.ENG_DBG_HALTREQ 0 e
  let s := s.ewr R.ENG_DBG_STEP 0 e
  let s := s.ewr R.ENG_DBGPC_PC ((s.getEng e).pc.toNat / 4) e
  (s.ewr R.ENG_ESTAT_DBGHALT 1 e).syncEng e
/-- After an instruction: a completed step or, while DBGEN = 1, a pending halt request halts the engine (R308). -/
def State.afterInstr (s : State) (e : Nat) : State :=
  if (s.getEng e).step || (s.erd R.ENG_DBG_HALTREQ e == 1 && s.erd R.ENG_DBG_DBGEN e == 1) then s.dbgHalt e else s.syncEng e

/-- The record of a thread's end enters the completion buffer, or waits for it, and the engine lets go of the thread
(R258). -/
def State.placeRecord (s : State) (e : Nat) (r : EndRec) : State :=
  let x := s.getEng e
  let x := match x.cbuf with
    | none => { x with cbuf := some r, thr := none, xact := false, wait := none, send := none }
    | some _ => { x with stalled := some r, thr := none, xact := false, wait := none, send := none }
  s.setEng e x
/-- The record of engine e's thread, ended with LSTAT `l`, or by a YIELD; its run is the cycles up to the END or YIELD (R260). -/
def State.mkRecord (s : State) (e : Nat) (l : Option Byte) (y : Option YieldRec) (halted : Bool) : EndRec :=
  let x := s.getEng e
  { c := x.tcairn, lstat := l, yield := y, halted := halted,
    ops := match x.thr with | some t => t.ops | none => [],
    runCyc := w32 (min (2 ^ 32 - 1) (if halted then x.lcyc else x.lcyc - 1).toNat), tEnd := s.nsLo }

/-- THREAD_FAULT: the thread ends with LSTAT = FAULT and the fault is captured (R301). -/
def State.threadFault (s : State) (e : Nat) (c : Cause) : State :=
  let x := s.getEng e
  let s :=
    if s.erd R.ENG_XSTAT_VALID e = 0 then
      let s := (s.ewr R.ENG_XSTAT_CAUSE c.code e).ewr R.ENG_XSTAT_XPC (x.pc.toNat / 4) e
      ((s.ewr R.ENG_XCAIRN_CAIRN x.tcairn e).ewr R.ENG_XADDR_ADDR c.addr.toNat e).ewr R.ENG_XSTAT_VALID 1 e
    else s.ewr R.ENG_XSTAT_OVF 1 e
  let s := if c.code = xWATCHDOG then s.ewr R.ENG_ESTAT_WDOG 1 e else s.ewr R.ENG_ESTAT_FAULT 1 e
  let s := s.count R.ENG_CNT0_FAULTS (ropeOf e) (slotOf e)
  let s := if c.code = xPOISON then s
    else s.report (0x1000 + e) (0x2000 + s.erd R.ENG_CTL_CGRP e) (0x10 + c.code)
  (s.placeRecord e (s.mkRecord e (some 0x80) none true)).idleEntry e

/-- EXCEPTION_ENTRY: the cause goes to the handler, or ends the thread; a cause while the handler is active is DOUBLE
(R297, R300, R301). -/
def State.raise (s : State) (e : Nat) (c : Cause) : State :=
  let x := s.getEng e
  let c := if x.xact then { c with code := xDOUBLE } else c
  if s.erd R.ENG_XVEC_XEN e = 1 ∧ c.code ≤ 6 then
    let x := { x with lxpc := BitVec.ofNat 12 (x.pc.toNat / 4), xact := true, regpar := c.regpar,
                      cause := BitVec.ofNat 4 c.code, lxaddr := c.addr,
                      pc := w32 (4 * s.erd R.ENG_XVEC_VEC e) }
    ((s.setEng e x).count R.ENG_CNT1_HANDLED (ropeOf e) (slotOf e)).afterInstr e
  else (s.threadFault e c).afterInstr e

/-- What POISON of a memory word adds: the fault report of its group, and containment (R382, R539). -/
def State.poisonSeen (s : State) (e : Nat) (sa : Option Nat) : State :=
  let g := match sa with
    | some a => (match groupOf a with | some (g, _) => g | none => 0xFF)
    | none => 0xFF
  s.report (0x1000 + e) (0x1000 + g) 0x01
/-- What POISON of a register adds (R298, R539). -/
def State.parSeen (s : State) (e : Nat) : State :=
  let s := s.setEng e { s.getEng e with hbPar := true }
  (s.count R.ENG_CNT1_PARERR (ropeOf e) (slotOf e)).report (0x1000 + e) (0x6000 + ropeOf e) 0x05

/-! ## One instruction -/

/-- An instruction counts its cycle, and the stalls before it, whose number is left free (R285, R302; log entry 9). -/
def State.tick (s : State) (e : Nat) : State :=
  let (w, s) := s.draw
  let x := s.getEng e
  let n := min (2 ^ 32) (x.lcyc.toNat + 1 + w.toNat)
  let l := s.erd R.ENG_RUNLIM_LIMIT e
  let n := if l ≠ 0 ∧ l < n then l else n
  s.setEng e { x with lcyc := BitVec.ofNat 33 n, hbRet := true }

/-- The instruction retires and the next one follows it. -/
def State.retireNext (s : State) (e : Nat) : State :=
  let x := s.getEng e
  (s.setEng e { x with pc := x.pc + 4 }).afterInstr e
/-- The instruction retires and execution continues at `pc`. -/
def State.retireAtPc (s : State) (e : Nat) (pc : Word) : State :=
  (s.setEng e { s.getEng e with pc := pc }).afterInstr e

/-- Causes every instruction can meet: R321 (`falls` = it would be followed by the next word), an encoding with a field
that must be 0 (`ok` false), a poisoned fetch, a register source with bad parity (R297, R320, R321). -/
def State.baseCauses (s : State) (e : Nat) (ok falls : Bool) (regs : List Nat) : List Cause × State :=
  let x := s.getEng e
  let pc := x.pc.toNat
  let (p, s) : Bool × State := match s.physOf e with
    | some i => if pc < 0x4000 then let (_, p, s) := s.readWord (saEngine i + pc); (p, s) else (false, s)
    | none => (false, s)
  let (free, s) := s.draw
  let a := if 0x4000 ≤ pc then [⟨xACCESS, x.pc, false⟩] else []
  let b := if pc / 4 = 4095 ∧ falls then [⟨xACCESS, 0x4000, false⟩] else []
  let i := if ok then [] else [⟨xILLEGAL, free, false⟩]
  let f := if p then [⟨xPOISON, x.pc, false⟩] else []
  let r := match regs.find? (fun n => n != 0 && x.parBad.contains n) with
    | some n => [⟨xPOISON, w32 (n % 32), true⟩]
    | none => []
  (a ++ b ++ i ++ f ++ r, s)

/-- Raises a cause with what POISON adds; `sa` is where a poisoned load stands. -/
def State.except (s : State) (e : Nat) (c : Cause) (sa : Option Nat) : State :=
  let inst := (s.getEng e).tinst
  let s : State :=
    if c.code = xPOISON then
      let s := if c.regpar then s.parSeen e
        else s.poisonSeen e (if sa.isSome then sa else (s.physOf e).map (fun i => saEngine i))
      s.contain inst
    else s
  s.raise e c

/-- Runs an instruction of engine e: nothing where the engine does not issue; the lowest of its causes; else its effect.
`extra` gives the causes of the instruction itself, the storage address of a poisoned load and what the effect needs; its
first argument says that no other cause stands, so that data may be read. -/
def State.instr {α : Type} (s : State) (e : Nat) (ok falls : Bool) (regs : List Nat)
    (extra : Bool → State → List Cause × Option Nat × α × State) (effect : α → State → State) : State :=
  if !s.issues e then s
  else
    let s := s.tick e
    let (base, s) := s.baseCauses e ok falls regs
    match lowest base with
    | some c =>
      if c.code = xACCESS then s.except e c none
      else
        let (more, sa, _, s) := extra false s
        match lowest (base ++ more) with
        | some c => s.except e c sa
        | none => s
    | none =>
      let (more, sa, x, s) := extra true s
      match lowest more with
      | some c => s.except e c sa
      | none => effect x s
/-- No causes beyond those of every instruction. -/
def noCause (_ : Bool) (s : State) : List Cause × Option Nat × Unit × State := ([], none, (), s)
/-- An instruction that only changes its engine's registers. -/
def State.regInstr (s : State) (e : Nat) (ok : Bool) (regs : List Nat) (f : Eng → Eng) : State :=
  s.instr e ok true regs noCause (fun _ s => (s.setEng e (f (s.getEng e))).retireNext e)

/-! ## Loads and stores (R269–R279, R328, R329) -/

/-- Reads ENG_LTIMELO … of the local control registers (R314).  ENG_LCYC counts the cycles before the one in which the load itself is
executed, and saturates (R302, R314). -/
def State.lregRead (s : State) (e o : Nat) : Word × State :=
  let x := s.getEng e
  match o with
  | 0x00 => (w32 (min (2 ^ 32 - 1) (x.lcyc - 1).toNat), s)
  | 0x04 => (w32 x.lxpc.toNat, s)
  | 0x08 => (w32 (b2n x.xact * 2 ^ 31 + b2n x.regpar * 16 + x.cause.toNat), s)
  | 0x0C => (x.lxaddr, s)
  | 0x10 => (w32 x.lgw0.toNat, s)
  | 0x14 => (w32 x.lgw1.toNat, s)
  | 0x18 => (s.nsLo, s.setEng e { x with ltimeHi := w32 (s.ns.toNat / 2 ^ 32) })
  | 0x1C => (x.ltimeHi, s)
  | _ => (0, s)
/-- Writes a local control register; RO and reserved fields ignore it (R314, R329). -/
def State.lregWrite (s : State) (e o : Nat) (v : Word) : State :=
  let x := s.getEng e
  match o with
  | 0x04 => s.setEng e { x with lxpc := v.extractLsb' 0 12 }
  | 0x10 => s.setEng e { x with lgw0 := v.extractLsb' 0 10 }
  | 0x14 => s.setEng e { x with lgw1 := v.extractLsb' 0 10 }
  | 0x20 => if v.getLsbD 0 then s.ewr R.ENG_ESTAT_SWATTN 1 e else s
  | _ => s

/-- The checks of a global access: mapped, granted, not fenced, and instruction memory only under CLOAD (R271–R274). -/
def State.globCauses (s : State) (e a : Nat) (addr : Word) (write : Bool) : List Cause × State :=
  let x := s.getEng e
  let mapped : Bool := (s.globalSa a).isSome || (match engOfGlobal a with
    | some _ => decide (a % 0x10000 < 0x4000 ∨ 0x8000 ≤ a % 0x10000)
    | none => false)
  if !mapped || !s.granted x.tinst a write then
    ([⟨xACCESS, addr, false⟩], s.violate x.tinst 0x05 0x40 e)
  else
    match engOfGlobal a with
    | none => ([], s)
    | some n =>
      if write && n != e && s.imemShut a then
        ([⟨xACCESS, addr, false⟩], s)
      else if s.swapping n || (s.physOf n).isNone then ([⟨xFENCE, addr, false⟩], s)
      else ([], s)

/-- What an access may name besides memory of the whole map. -/
structure AccessKind where
  /-- Bytes. -/
  size : Nat
  write : Bool
  /-- Global windows and instruction memory are allowed (not for vector accesses, R345). -/
  wide : Bool
  deriving DecidableEq, Repr

/-- The causes of an access at local address `a`, before its data is read (R269, R297, R329). -/
def State.accCauses (s : State) (e : Nat) (a : Word) (k : AccessKind) : List Cause × State :=
  let al : List Cause := if a.toNat % k.size = 0 then [] else [⟨xALIGN, a, false⟩]
  match (s.getEng e).localMap a.toNat with
  | .none => (⟨xACCESS, a, false⟩ :: al, s)
  | .imem _ => (if k.wide then al else ⟨xACCESS, a, false⟩ :: al, s)
  | .win _ => (if k.write then ⟨xACCESS, a, false⟩ :: al else al, s)
  | .lreg _ => (if k.wide ∧ k.size = 4 then al else ⟨xACCESS, a, false⟩ :: al, s)
  | .glob g =>
    if k.wide then let (l, s) := s.globCauses e g a k.write; (l ++ al, s) else (⟨xACCESS, a, false⟩ :: al, s)
  | _ => (al, s)

/-- Reads `n` aligned words at local address `a`: data, poison, state. -/
def State.loadWords (s : State) (e : Nat) (a : Word) (n : Nat) : List (Word × Bool) × State :=
  let x := s.getEng e
  match x.localMap a.toNat with
  | .win o => ((List.range n).map (fun k => (smGet x.win 0 (o / 4 + k), x.winPois.contains (o / 4 + k))), s)
  | .lreg o => let (w, s) := s.lregRead e (o / 4 * 4); ([(w, false)], s)
  | .glob g =>
    if inFirmware g then
      ((List.range n).map (fun _ => (0xFFFFFFFF, false)), s.violate x.tinst 0x05 0x40 e)
    else match s.globalSa g with
      | some sa => s.readWords (sa / 4 * 4) n
      | none => ([], s)
  | l => match s.localSa e l with
    | some sa => s.readWords (sa / 4 * 4) n
    | none => ([], s)

/-- Bits of word w of a cairn that hardware alone writes (R229). -/
def cairnHw (w : Nat) : Word :=
  match w with
  | 0 => 0xF0000000
  | 1 => 0x3FF
  | 3 => 0x80
  | 5 => 0xFFFFFFFF
  | 6 => 0xFFFFFFFF
  | 11 => 0x3FFFFFFF
  | 12 => 0xFFFFFFFF
  | 13 => 0xFFFFFFFF
  | 14 => 0xFFF80000
  | _ => 0
/-- A software write of `n` bytes at byte `o` of the cairn store: only while the cairn is FREE, DONE or HALTED (R230). -/
def State.cairnWrite (s : State) (o n : Nat) (v : Word) (pois : Bool) : State :=
  let c := o / 64
  let w := o % 64 / 4
  let st := s.cst c
  if st = 0 ∨ st = 7 ∨ st = 8 then
    let old := s.cw c w
    let hw := cairnHw w
    let s := if n = 4 then (s.storeWord (saCairn c w) v) else s.storePart (0x1020800000 + o) n v
    let s := s.putRaw (saCairn c w) ((s.cw c w &&& ~~~hw) ||| (old &&& hw))
    if pois then (s.setPoison (saCairn c w) true).notePois (saCairn c w) else s
  else s.wr R.TSC_STAT_CWERR 1

/-- Stores `n` bytes (1, 2 or 4) of `v` at storage address `sa`; staging discards stores (R412). -/
def State.storeAt (s : State) (sa n : Nat) (v : Word) : State :=
  if 0x1034000000 ≤ sa ∧ sa < 0x1034100000 then s
  else if 0x1020800000 ≤ sa ∧ sa < 0x1020C00000 then s.cairnWrite (sa - 0x1020800000) n v false
  else if n = 4 then s.storeWord sa v
  else s.storePart sa n v

/-! ## The write buffer (R277–R279) -/

/-- A number of the memory that holds storage address `sa`: DDR channels, the memories of the physical engines, packet buffers, the
cairn store, list memory and rope shared memories are memories of their own (R271, R278; log entry 214). -/
def memoryOf (sa : Nat) : Nat :=
  if 0x8000000000 ≤ sa then sa / 0x1000000000 * 0x1000000000
  else if 0x2000000000 ≤ sa then sa / 0x8000 * 0x8000
  else if 0x1030000000 ≤ sa then sa / 0x40000 * 0x40000
  else if 0x1020800000 ≤ sa then 0x1020800000
  else if 0x1020000000 ≤ sa then 0x1020000000
  else sa / 0x80000 * 0x80000
/-- A posted store becomes visible; a logical engine that no physical engine carries any more takes none. -/
def State.land (s : State) (p : Posted) : State :=
  match s.globalSa p.g with
  | some sa => s.storeAt sa p.n p.v
  | none => s
/-- The oldest store that engine e has posted to memory m becomes visible (R278). -/
def State.landOne (s : State) (e m : Nat) : State :=
  let x := s.getEng e
  match x.wbuf.find? (·.mem == m) with
  | some p => (s.setEng e { x with wbuf := x.wbuf.erase p }).land p
  | none => s
/-- Every posted store of engine e becomes visible (R279). -/
def State.landAll (s : State) (e : Nat) : State :=
  match (s.getEng e).wbuf with
  | [] => s
  | l => (s.setEng e { s.getEng e with wbuf := [] }).forL l (fun p s => s.land p)
/-- Any of the posted stores of engine e become visible, in program order for each memory (R278; log entry 214). -/
def State.landSome (s : State) (e : Nat) : State :=
  s.forN 8 (fun _ s =>
    let l := (s.getEng e).wbuf
    if l.isEmpty then s
    else
      let (k, s) := s.choose (2 * l.length)
      match l[k]? with
      | some p => s.landOne e p.mem
      | none => s)
/-- Engine e posts a global store; it stalls while the buffer is full (R278). -/
def State.post (s : State) (e : Nat) (p : Posted) : State :=
  let l := (s.getEng e).wbuf
  let s : State :=
    if 8 ≤ l.length then let (k, s) := s.choose 8; s.landOne e (l.getD k p).mem else s
  (s.setEng e { s.getEng e with wbuf := (s.getEng e).wbuf ++ [p] }).landSome e
/-- The store p writes bytes of the `n` from global address `g` on. -/
def Posted.over (p : Posted) (g n : Nat) : Bool := decide (p.g < g + n) && decide (g < p.g + p.n)
/-- A global load of `n` bytes at local address `a` waits until every earlier global store to them is visible (R277). -/
def State.awaitPosted (s : State) (e : Nat) (a : Word) (n : Nat) : State :=
  match (s.getEng e).localMap a.toNat with
  | .glob g => s.forN 8 (fun _ s => match (s.getEng e).wbuf.find? (fun p => p.over g n) with
    | some p => s.landOne e p.mem
    | none => s)
  | _ => s

/-- A store of `n` bytes (1, 2 or 4) at local address `a`: into the engine's own memories at once (R275, R276), through a global window
by the write buffer (R278). -/
def State.storeLocal (s : State) (e : Nat) (a : Word) (n : Nat) (v : Word) : State :=
  let x := s.getEng e
  match x.localMap a.toNat with
  | .lreg o => s.lregWrite e (o / 4 * 4) v
  | .glob g =>
    if inFirmware g then s.violate x.tinst 0x05 0x40 e
    else match s.globalSa g with
      | some sa => s.post e ⟨g, n, v, memoryOf sa⟩
      | none => s
  | l => match s.localSa e l with
    | some sa => s.storeAt sa n v
    | none => s

end Sys2Proof.Machine
end

