-- ==== Sys2Proof/Machine/Operands.lean ====
section
/-! DEFINITION. Operand forms of the engine instructions: shift amounts, immediates, register pairs, conditions and branch
targets (R316, R319, R326, R327, R331, R332). -/

namespace Sys2Proof.Machine

/-- sext(IMM) (R327). -/
def sext (imm : BitVec 16) : Word := imm.signExtend 32
/-- zext(IMM) (R327). -/
def zext (imm : BitVec 16) : Word := imm.setWidth 32
/-- Shift left logical by an amount of 0–255 (R326). -/
def shl (a : Word) (n : Nat) : Word := if n < 32 then a <<< n else 0
/-- Shift right logical (R326). -/
def shr (a : Word) (n : Nat) : Word := if n < 32 then a >>> n else 0
/-- Shift right arithmetic (R326). -/
def sar (a : Word) (n : Nat) : Word := if n < 32 then a.sshiftRight n else if a.msb then 0xFFFFFFFF else 0
/-- Rotate right (R326). -/
def ror (a : Word) (n : Nat) : Word := a.rotateRight (n % 32)
/-- The shift amount of a register operand: bits [7:0] (R326). -/
def amt (b : Word) : Nat := b.toNat % 256
/-- A field that names a register pair must be even (R316). -/
def evenPair (n : BitVec 5) : Bool := !n.getLsbD 0
/-- The 64-bit value of the register pair n, n + 1, lower word in n (R316). -/
def Eng.pair (x : Eng) (n : Nat) : BitVec 64 := x.gr (n + 1) ++ x.gr n
/-- Writes the register pair n, n + 1. -/
def Eng.setPair (x : Eng) (n : Nat) (v : BitVec 64) : Eng :=
  (x.setG n (v.extractLsb' 0 32)).setG (n + 1) (v.extractLsb' 32 32)
/-- A condition of R331 over the flags. -/
def condHolds (x : Eng) (c : BitVec 4) : Bool :=
  match c.toNat with
  | 0x0 => true
  | 0x1 => x.flagZ
  | 0x2 => !x.flagZ
  | 0x3 => x.flagC
  | 0x4 => !x.flagC
  | 0x5 => x.flagC || x.flagZ
  | 0x6 => !x.flagC && !x.flagZ
  | 0x7 => x.flagN != x.flagV
  | 0x8 => x.flagN == x.flagV
  | 0x9 => x.flagZ || (x.flagN != x.flagV)
  | 0xA => !x.flagZ && (x.flagN == x.flagV)
  | 0xB => x.flagN
  | 0xC => !x.flagN
  | 0xD => x.flagV
  | 0xE => !x.flagV
  | _ => x.flagDZ
/-- A relative target: PC + 4 × offset (R332), as an integer so that a target below 0 shows. -/
def target (pc : Word) (off : Int) : Int := pc.toNat + 4 * off
/-- A target inside the instruction memory (R333). -/
def inImem (t : Int) : Bool := decide (0 ≤ t) && decide (t < 0x4000)
/-- Population count (R323). -/
def popcount (a : Word) : Nat := ((List.range 32).filter (fun k => a.getLsbD k)).length
/-- Leading zero bits (R323). -/
def leadZeros (a : Word) : Nat := ((List.range 32).takeWhile (fun k => !a.getLsbD (31 - k))).length
/-- Byte order reversed (R323). -/
def byteSwap (a : Word) : Word :=
  a.extractLsb' 0 8 ++ a.extractLsb' 8 8 ++ a.extractLsb' 16 8 ++ a.extractLsb' 24 8
/-- Signed minimum, maximum. -/
def smin (a b : Word) : Word := if a.toInt ≤ b.toInt then a else b
def smax (a b : Word) : Word := if a.toInt ≤ b.toInt then b else a
/-- Signed quotient with the results of R325 at its edges. -/
def sdivEdge (a b : Word) : Word :=
  if b = 0 then if a.msb then 0x80000000 else 0x7FFFFFFF
  else if a = 0x80000000 ∧ b = 0xFFFFFFFF then 0x80000000
  else BitVec.ofInt 32 (Int.tdiv a.toInt b.toInt)
/-- Unsigned quotient with the result of R325 for divisor 0. -/
def udivEdge (a b : Word) : Word := if b = 0 then 0xFFFFFFFF else a / b
/-- Signed remainder with the results of R325 at its edges. -/
def sremEdge (a b : Word) : Word :=
  if b = 0 then a
  else if a = 0x80000000 ∧ b = 0xFFFFFFFF then 0
  else BitVec.ofInt 32 (Int.tmod a.toInt b.toInt)
/-- Unsigned remainder with the result of R325 for divisor 0. -/
def uremEdge (a b : Word) : Word := if b = 0 then a else a % b
/-- The signed 32-bit range. -/
def inS32 (n : Int) : Bool := decide (-2147483648 ≤ n) && decide (n ≤ 2147483647)
/-- Saturation to the signed 32-bit range (R347). -/
def sat32 (n : Int) : Word :=
  if n < -2147483648 then 0x80000000 else if 2147483647 < n then 0x7FFFFFFF else BitVec.ofInt 32 n
/-- The signed 64-bit range. -/
def inS64 (n : Int) : Bool := decide (-9223372036854775808 ≤ n) && decide (n ≤ 9223372036854775807)
/-- Saturation to the signed 64-bit range (R350). -/
def sat64 (n : Int) : BitVec 64 :=
  if n < -9223372036854775808 then 0x8000000000000000
  else if 9223372036854775807 < n then 0x7FFFFFFFFFFFFFFF else BitVec.ofInt 64 n
/-- Status bits for the lanes in which `p` holds, at bit position `base` (R346). -/
def laneBits (base : Nat) (p : Nat → Bool) : BitVec 12 :=
  BitVec.ofNat 12 (((List.range 4).map (fun i => if p i then 2 ^ (base + i) else 0)).sum)

end Sys2Proof.Machine
end

