-- ==== Sys2Proof/Machine/Flags.lean ====
section
/-! DEFINITION. The flag computations of R318, R323–R325. -/

namespace Sys2Proof.Machine

/-- Flag code A for result = a + b + c: carry out of bit 31, overflow of like signs (R318, R323). -/
def Eng.flagsA (x : Eng) (a b : Word) (c : Bool) : Eng :=
  let r := a + b + w32 (b2n c)
  x.setNZCV r.msb (r == 0) (decide (2 ^ 32 ≤ a.toNat + b.toNat + b2n c)) (a.msb == b.msb && r.msb != a.msb)
/-- Flag code S for result = a − b − c: unsigned borrow, overflow of unlike signs (R318, R323). -/
def Eng.flagsS (x : Eng) (a b : Word) (c : Bool) : Eng :=
  let r := a - b - w32 (b2n c)
  x.setNZCV r.msb (r == 0) (decide (a.toNat < b.toNat + b2n c)) (a.msb != b.msb && r.msb != a.msb)
/-- Flag code L (R318). -/
def Eng.flagsL (x : Eng) (r : Word) : Eng := x.setNZCV r.msb (r == 0) false false
/-- N and Z from the result, C = 0, V as given (R323–R325). -/
def Eng.flagsV (x : Eng) (r : Word) (v : Bool) : Eng := x.setNZCV r.msb (r == 0) false v
/-- Z alone, as ACAS sets it (R330). -/
def Eng.setZ (x : Eng) (z : Bool) : Eng := x.setNZCV x.flagN z x.flagC x.flagV

end Sys2Proof.Machine
end

