-- ==== Sys2Proof/Machine/EngInt.lean ====
section
/-! DEFINITION. Integer instructions of an engine: register forms, multiply and divide, immediate forms (R323–R327). -/

namespace Sys2Proof.Machine

/-- Must-be-zero fields of a format R row that uses RD, RA and RB (R319, R320). -/
def rOk3 (f : RFmt) : Bool := f.z == 0 && f.aux == 0
/-- … that uses RD and RA. -/
def rOk2 (f : RFmt) : Bool := f.z == 0 && f.aux == 0 && f.rb == 0
/-- … that uses RA and RB. -/
def rOkCmp (f : RFmt) : Bool := f.z == 0 && f.aux == 0 && f.rd == 0

/-- rd = res ra rb, then the flags as `fl` gives them. -/
def alu3 (e : EngNo) (f : RFmt) (res : Eng → Word → Word → Word) (fl : Eng → Word → Word → Eng) (s : State) : State :=
  s.regInstr e.toNat (rOk3 f) [f.ra.toNat, f.rb.toNat] (fun x =>
    let a := x.gr f.ra.toNat
    let b := x.gr f.rb.toNat
    fl (x.setG f.rd.toNat (res x a b)) a b)
/-- rd = res ra rb with flag code L. -/
def aluL (e : EngNo) (f : RFmt) (res : Word → Word → Word) (s : State) : State :=
  alu3 e f (fun _ a b => res a b) (fun x a b => x.flagsL (res a b)) s
/-- rd = res ra, then the flags. -/
def alu2 (e : EngNo) (f : RFmt) (res : Word → Word) (fl : Eng → Word → Eng) (s : State) : State :=
  s.regInstr e.toNat (rOk2 f) [f.ra.toNat] (fun x =>
    let a := x.gr f.ra.toNat
    fl (x.setG f.rd.toNat (res a)) a)
/-- Nothing written; the flags of ra and rb. -/
def aluCmp (e : EngNo) (f : RFmt) (fl : Eng → Word → Word → Eng) (s : State) : State :=
  s.regInstr e.toNat (rOkCmp f) [f.ra.toNat, f.rb.toNat] (fun x => fl x (x.gr f.ra.toNat) (x.gr f.rb.toNat))
/-- Division by zero while TRAPDZ = 1 raises DIVZERO and sets DZ (R299, R325). -/
def divCauses (e : EngNo) (f : RFmt) (clean : Bool) (s : State) : List Cause × Option Nat × Unit × State :=
  let x := s.getEng e.toNat
  if x.gr f.rb.toNat = 0 ∧ s.erd R.ENG_CTL_TRAPDZ e.toNat = 1 then
    let (w, s) := s.draw
    ([⟨xDIVZERO, w, false⟩], none, (), if clean then s.setEng e.toNat (s.getEng e.toNat).setDZ else s)
  else ([], none, (), s)
/-- A division: rd = res ra rb, the flags, and DZ for divisor 0 (R324, R325). -/
def aluDiv (e : EngNo) (f : RFmt) (res : Word → Word → Word) (fl : Eng → Word → Word → Word → Eng) (s : State) : State :=
  s.instr e.toNat (rOk3 f) true [f.ra.toNat, f.rb.toNat] (divCauses e f) (fun _ s =>
    let x := s.getEng e.toNat
    let a := x.gr f.ra.toNat
    let b := x.gr f.rb.toNat
    let x := fl (x.setG f.rd.toNat (res a b)) a b (res a b)
    (s.setEng e.toNat (if b = 0 then x.setDZ else x)).retireNext e.toNat)
/-- Flags of DIV and REM: V for MIN by −1 (R324, R325). -/
def Eng.flagsDiv (x : Eng) (a b r : Word) : Eng := x.flagsV r (a == 0x80000000 && b == 0xFFFFFFFF)
/-- An immediate form that writes rd and leaves the flags. -/
def immOp (e : EngNo) (f : IFmt) (ok : Bool) (res : Word → Word) (s : State) : State :=
  s.regInstr e.toNat ok [f.ra.toNat] (fun x => x.setG f.rd.toNat (res (x.gr f.ra.toNat)))
/-- An immediate shift: IMM[15:8] = 0 (R326, R327). -/
def immShift (e : EngNo) (f : IFmt) (op : Word → Nat → Word) (s : State) : State :=
  immOp e f (decide (f.imm.toNat < 256)) (fun a => op a f.imm.toNat) s

/-- ADD (R323): rd = ra + rb, flags A. -/
def execAdd (e : EngNo) (f : RFmt) (s : State) : Host.Outcome State Fault Refusal :=
  act s (alu3 e f (fun _ a b => a + b) (fun x a b => x.flagsA a b false))
/-- SUB (R323): rd = ra − rb, flags S. -/
def execSub (e : EngNo) (f : RFmt) (s : State) : Host.Outcome State Fault Refusal :=
  act s (alu3 e f (fun _ a b => a - b) (fun x a b => x.flagsS a b false))
/-- ADC (R323): Add with carry. -/
def execAdc (e : EngNo) (f : RFmt) (s : State) : Host.Outcome State Fault Refusal :=
  act s (alu3 e f (fun x a b => a + b + w32 (b2n x.flagC)) (fun x a b => x.flagsA a b x.flagC))
/-- SBC (R323): Subtract with borrow. -/
def execSbc (e : EngNo) (f : RFmt) (s : State) : Host.Outcome State Fault Refusal :=
  act s (alu3 e f (fun x a b => a - b - w32 (b2n x.flagC)) (fun x a b => x.flagsS a b x.flagC))
/-- AND (R323): Bitwise AND. -/
def execAndr (e : EngNo) (f : RFmt) (s : State) : Host.Outcome State Fault Refusal :=
  act s (aluL e f (fun a b => a &&& b))
/-- OR (R323): Bitwise OR. -/
def execOrr (e : EngNo) (f : RFmt) (s : State) : Host.Outcome State Fault Refusal :=
  act s (aluL e f (fun a b => a ||| b))
/-- XOR (R323): Bitwise XOR. -/
def execXorr (e : EngNo) (f : RFmt) (s : State) : Host.Outcome State Fault Refusal :=
  act s (aluL e f (fun a b => a ^^^ b))
/-- ANDN (R323): ra AND NOT rb. -/
def execAndn (e : EngNo) (f : RFmt) (s : State) : Host.Outcome State Fault Refusal :=
  act s (aluL e f (fun a b => a &&& ~~~b))
/-- SLL (R326): Shift left logical by rb[7:0]. -/
def execSll (e : EngNo) (f : RFmt) (s : State) : Host.Outcome State Fault Refusal :=
  act s (aluL e f (fun a b => shl a (amt b)))
/-- SRL (R326): Shift right logical by rb[7:0]. -/
def execSrl (e : EngNo) (f : RFmt) (s : State) : Host.Outcome State Fault Refusal :=
  act s (aluL e f (fun a b => shr a (amt b)))
/-- SRA (R326): Shift right arithmetic by rb[7:0]. -/
def execSra (e : EngNo) (f : RFmt) (s : State) : Host.Outcome State Fault Refusal :=
  act s (aluL e f (fun a b => sar a (amt b)))
/-- ROR (R326): Rotate right by rb[7:0]. -/
def execRor (e : EngNo) (f : RFmt) (s : State) : Host.Outcome State Fault Refusal :=
  act s (aluL e f (fun a b => ror a (amt b)))
/-- MIN (R323): Signed minimum. -/
def execMins (e : EngNo) (f : RFmt) (s : State) : Host.Outcome State Fault Refusal :=
  act s (aluL e f (fun a b => smin a b))
/-- MAX (R323): Signed maximum. -/
def execMaxs (e : EngNo) (f : RFmt) (s : State) : Host.Outcome State Fault Refusal :=
  act s (aluL e f (fun a b => smax a b))
/-- MINU (R323): Unsigned minimum. -/
def execMinu (e : EngNo) (f : RFmt) (s : State) : Host.Outcome State Fault Refusal :=
  act s (aluL e f (fun a b => if a ≤ b then a else b))
/-- MAXU (R323): Unsigned maximum. -/
def execMaxu (e : EngNo) (f : RFmt) (s : State) : Host.Outcome State Fault Refusal :=
  act s (aluL e f (fun a b => if a ≤ b then b else a))
/-- NEG (R325): rd = 0 − ra. -/
def execNeg (e : EngNo) (f : RFmt) (s : State) : Host.Outcome State Fault Refusal :=
  act s (alu2 e f (fun a => 0 - a)
    (fun x a => if a = 0x80000000 then x.flagsV a true else x.flagsS 0 a false))
/-- ABS (R325): Absolute value with V set for MIN. -/
def execAbs (e : EngNo) (f : RFmt) (s : State) : Host.Outcome State Fault Refusal :=
  act s (alu2 e f (fun a => if a.msb then 0 - a else a)
    (fun x a => x.flagsV (if a.msb then 0 - a else a) (a == 0x80000000)))
/-- CLZ (R323): Count leading zeros. -/
def execClz (e : EngNo) (f : RFmt) (s : State) : Host.Outcome State Fault Refusal :=
  act s (alu2 e f (fun a => w32 (leadZeros a)) (fun x a => x.flagsL (w32 (leadZeros a))))
/-- POPC (R323): Count one bits. -/
def execPopc (e : EngNo) (f : RFmt) (s : State) : Host.Outcome State Fault Refusal :=
  act s (alu2 e f (fun a => w32 (popcount a)) (fun x a => x.flagsL (w32 (popcount a))))
/-- BSWAP (R323): Reverse byte order. -/
def execBswap (e : EngNo) (f : RFmt) (s : State) : Host.Outcome State Fault Refusal :=
  act s (alu2 e f (fun a => byteSwap a) (fun x a => x.flagsL (byteSwap a)))
/-- SEXTB (R323): Sign-extend a byte. -/
def execSextb (e : EngNo) (f : RFmt) (s : State) : Host.Outcome State Fault Refusal :=
  act s (alu2 e f (fun a => (a.extractLsb' 0 8).signExtend 32) (fun x a => x.flagsL ((a.extractLsb' 0 8).signExtend 32)))
/-- SEXTH (R323): Sign-extend a half-word. -/
def execSexth (e : EngNo) (f : RFmt) (s : State) : Host.Outcome State Fault Refusal :=
  act s (alu2 e f (fun a => (a.extractLsb' 0 16).signExtend 32) (fun x a => x.flagsL ((a.extractLsb' 0 16).signExtend 32)))
/-- CMP (R323): Compare ra with rb, setting flags S. -/
def execCmp (e : EngNo) (f : RFmt) (s : State) : Host.Outcome State Fault Refusal :=
  act s (aluCmp e f (fun x a b => x.flagsS a b false))
/-- TST (R323): Test ra AND rb, setting flags L. -/
def execTst (e : EngNo) (f : RFmt) (s : State) : Host.Outcome State Fault Refusal :=
  act s (aluCmp e f (fun x a b => x.flagsL (a &&& b)))
/-- SEL (R323): Select ra or rb by condition AUX. -/
def execSel (e : EngNo) (f : RFmt) (s : State) : Host.Outcome State Fault Refusal :=
  act s (fun s => s.regInstr e.toNat (f.z == 0) [f.ra.toNat, f.rb.toNat] (fun x =>
    x.setG f.rd.toNat (if condHolds x f.aux then x.gr f.ra.toNat else x.gr f.rb.toNat)))
/-- MUL (R324): Low 32 bits of the product. -/
def execMul (e : EngNo) (f : RFmt) (s : State) : Host.Outcome State Fault Refusal :=
  act s (alu3 e f (fun _ a b => a * b)
    (fun x a b => x.flagsV (a * b) (!inS32 (a.toInt * b.toInt))))
/-- MULH (R324): High bits of the signed product. -/
def execMulh (e : EngNo) (f : RFmt) (s : State) : Host.Outcome State Fault Refusal :=
  act s (aluL e f (fun a b => (BitVec.ofInt 64 (a.toInt * b.toInt)).extractLsb' 32 32))
/-- MULHU (R324): High bits of the unsigned product. -/
def execMulhu (e : EngNo) (f : RFmt) (s : State) : Host.Outcome State Fault Refusal :=
  act s (aluL e f (fun a b => (BitVec.ofNat 64 (a.toNat * b.toNat)).extractLsb' 32 32))
/-- DIV (R325): Signed quotient, with the edge results and DIVZERO. -/
def execDiv (e : EngNo) (f : RFmt) (s : State) : Host.Outcome State Fault Refusal :=
  act s (aluDiv e f sdivEdge Eng.flagsDiv)
/-- DIVU (R325): Unsigned quotient. -/
def execDivu (e : EngNo) (f : RFmt) (s : State) : Host.Outcome State Fault Refusal :=
  act s (aluDiv e f udivEdge (fun x _ _ r => x.flagsL r))
/-- REM (R325): Signed remainder. -/
def execRem (e : EngNo) (f : RFmt) (s : State) : Host.Outcome State Fault Refusal :=
  act s (aluDiv e f sremEdge Eng.flagsDiv)
/-- REMU (R325): Unsigned remainder. -/
def execRemu (e : EngNo) (f : RFmt) (s : State) : Host.Outcome State Fault Refusal :=
  act s (aluDiv e f uremEdge (fun x _ _ r => x.flagsL r))
/-- ADDI (R327): Add the sign-extended immediate. -/
def execAddi (e : EngNo) (f : IFmt) (s : State) : Host.Outcome State Fault Refusal :=
  act s (immOp e f true (fun a => a + sext f.imm))
/-- CMPI (R327): Compare with the immediate. -/
def execCmpi (e : EngNo) (f : IFmt) (s : State) : Host.Outcome State Fault Refusal :=
  act s (fun s => s.regInstr e.toNat (f.rd == 0) [f.ra.toNat] (fun x =>
    x.flagsS (x.gr f.ra.toNat) (sext f.imm) false))
/-- ANDI (R327): AND with the zero-extended immediate. -/
def execAndi (e : EngNo) (f : IFmt) (s : State) : Host.Outcome State Fault Refusal :=
  act s (immOp e f true (fun a => a &&& zext f.imm))
/-- ORI (R327): OR with the immediate. -/
def execOri (e : EngNo) (f : IFmt) (s : State) : Host.Outcome State Fault Refusal :=
  act s (immOp e f true (fun a => a ||| zext f.imm))
/-- XORI (R327): XOR with the immediate. -/
def execXori (e : EngNo) (f : IFmt) (s : State) : Host.Outcome State Fault Refusal :=
  act s (immOp e f true (fun a => a ^^^ zext f.imm))
/-- LUI (R327): Load the immediate into the upper half. -/
def execLui (e : EngNo) (f : IFmt) (s : State) : Host.Outcome State Fault Refusal :=
  act s (fun s => s.regInstr e.toNat (f.ra == 0) [] (fun x => x.setG f.rd.toNat (f.imm ++ (0 : BitVec 16))))
/-- SLLI (R327): Shift left by the immediate. -/
def execSlli (e : EngNo) (f : IFmt) (s : State) : Host.Outcome State Fault Refusal :=
  act s (immShift e f shl)
/-- SRLI (R327): Shift right logical by the immediate. -/
def execSrli (e : EngNo) (f : IFmt) (s : State) : Host.Outcome State Fault Refusal :=
  act s (immShift e f shr)
/-- SRAI (R327): Shift right arithmetic by the immediate. -/
def execSrai (e : EngNo) (f : IFmt) (s : State) : Host.Outcome State Fault Refusal :=
  act s (immShift e f sar)
/-- RORI (R327): Rotate right by the immediate. -/
def execRori (e : EngNo) (f : IFmt) (s : State) : Host.Outcome State Fault Refusal :=
  act s (immShift e f ror)
/-- TSTI (R327): Test with the immediate. -/
def execTsti (e : EngNo) (f : IFmt) (s : State) : Host.Outcome State Fault Refusal :=
  act s (fun s => s.regInstr e.toNat (f.rd == 0) [f.ra.toNat] (fun x =>
    x.flagsL (x.gr f.ra.toNat &&& zext f.imm)))

end Sys2Proof.Machine
end

