-- ==== Sys2Proof/Machine/EngMem.lean ====
section
/-! DEFINITION. Loads, stores, atomics, vector loads and stores, branches and jumps of an engine (R328–R333, R345), and the
two local-control-register accesses that stand as rows of their own (R314). -/

namespace Sys2Proof.Machine

/-- EA = ra + sext(IMM) (R328, R345). -/
def ea (x : Eng) (ra : BitVec 5) (imm : BitVec 16) : Word := x.gr ra.toNat + sext imm
/-- The words an access reads, with the causes it meets: those of its address first, then POISON (R297, R298). -/
def loadCauses (e : Nat) (a : Word) (k : AccessKind) (clean : Bool) (s : State) :
    List Cause × Option Nat × List (Word × Bool) × State :=
  let sa := s.localSa e ((s.getEng e).localMap a.toNat)
  let (l, s) := s.accCauses e a k
  if clean && l.isEmpty then
    let (ws, s) := (s.awaitPosted e a k.size).loadWords e a (max 1 (k.size / 4))
    if ws.any (·.2) then ([⟨xPOISON, a, false⟩], sa, ws, s) else ([], sa, ws, s)
  else (l, sa, [], s)
/-- Word k of what a load read. -/
def wordAt (l : List (Word × Bool)) (k : Nat) : Word := (l.getD k (0, false)).1
/-- A load of `size` bytes: `fin` writes the register from the words read and the byte address (R328). -/
def load (e : EngNo) (f : IFmt) (size : Nat) (ok : Bool) (fin : Eng → Word → List (Word × Bool) → Eng) (s : State) : State :=
  let a := ea (s.getEng e.toNat) f.ra f.imm
  s.instr e.toNat ok true [f.ra.toNat] (loadCauses e.toNat a ⟨size, false, true⟩) (fun ws s =>
    (s.setEng e.toNat (fin (s.getEng e.toNat) a ws)).retireNext e.toNat)
/-- The byte at a in its word. -/
def byteOf (a : Word) (l : List (Word × Bool)) : Byte := (wordAt l 0 >>> (8 * (a.toNat % 4))).extractLsb' 0 8
/-- The half-word at a in its word. -/
def halfOf (a : Word) (l : List (Word × Bool)) : BitVec 16 := (wordAt l 0 >>> (8 * (a.toNat % 4))).extractLsb' 0 16
/-- A store of `size` bytes of the register in the RD field (R328). -/
def store (e : EngNo) (f : IFmt) (size : Nat) (ok : Bool) (s : State) : State :=
  let a := ea (s.getEng e.toNat) f.ra f.imm
  let regs := if size = 8 then [f.ra.toNat, f.rd.toNat, f.rd.toNat + 1] else [f.ra.toNat, f.rd.toNat]
  s.instr e.toNat ok true regs
    (fun _ s => let (l, s) := s.accCauses e.toNat a ⟨size, true, true⟩; (l, none, (), s))
    (fun _ s =>
      let x := s.getEng e.toNat
      let s :=
        if size = 8 then
          (s.storeLocal e.toNat a 4 (x.gr f.rd.toNat)).storeLocal e.toNat (a + 4) 4 (x.gr (f.rd.toNat + 1))
        else s.storeLocal e.toNat a size (x.gr f.rd.toNat)
      s.retireNext e.toNat)

/-- Causes and old value of an atomic at EA = ra: own rope shared memory only (R330). -/
def atomCauses (e : Nat) (a : Word) (size : Nat) (clean : Bool) (s : State) :
    List Cause × Option Nat × List (Word × Bool) × State :=
  match (s.getEng e).localMap a.toNat with
  | .rope _ => loadCauses e a ⟨size, false, true⟩ clean s
  | _ => ([⟨xACCESS, a, false⟩], none, [], s)
/-- A .W atomic: memory becomes `op old rb rd`, rd the old value; `z` says that rd is a source and Z is set, as in ACAS (R330). -/
def atomW (e : EngNo) (f : RFmt) (op : Word → Word → Word → Option Word) (z : Bool) (s : State) : State :=
  let a := (s.getEng e.toNat).gr f.ra.toNat
  s.instr e.toNat (rOk3 f) true (f.ra.toNat :: f.rb.toNat :: if z then [f.rd.toNat] else []) (atomCauses e.toNat a 4) (fun ws s =>
    let x := s.getEng e.toNat
    let old := wordAt ws 0
    let new := op old (x.gr f.rb.toNat) (x.gr f.rd.toNat)
    let s : State := match new with
      | some w => s.storeLocal e.toNat a 4 w
      | none => s
    let x := (s.getEng e.toNat).setG f.rd.toNat old
    (s.setEng e.toNat (if z then x.setZ new.isSome else x)).retireNext e.toNat)
/-- A .D atomic on the 64-bit word at EA, with RD and RB naming even pairs (R316, R330). -/
def atomD (e : EngNo) (f : RFmt) (op : BitVec 64 → BitVec 64 → BitVec 64 → Option (BitVec 64)) (z : Bool) (s : State) :
    State :=
  let a := (s.getEng e.toNat).gr f.ra.toNat
  s.instr e.toNat (rOk3 f && evenPair f.rd && evenPair f.rb) true
    (f.ra.toNat :: f.rb.toNat :: (f.rb.toNat + 1) :: if z then [f.rd.toNat, f.rd.toNat + 1] else []) (atomCauses e.toNat a 8) (fun ws s =>
    let x := s.getEng e.toNat
    let old : BitVec 64 := wordAt ws 1 ++ wordAt ws 0
    let new := op old (x.pair f.rb.toNat) (x.pair f.rd.toNat)
    let s : State := match new with
      | some w => (s.storeLocal e.toNat a 4 (w.extractLsb' 0 32)).storeLocal e.toNat (a + 4) 4 (w.extractLsb' 32 32)
      | none => s
    let x := (s.getEng e.toNat).setPair f.rd.toNat old
    (s.setEng e.toNat (if z then x.setZ new.isSome else x)).retireNext e.toNat)

/-- The regions a vector access may name (R345). -/
def vecCauses (e : Nat) (a : Word) (write : Bool) (s : State) : List Cause × State :=
  let al : List Cause := if a.toNat % 16 = 0 then [] else [⟨xALIGN, a, false⟩]
  match (s.getEng e).localMap a.toNat with
  | .dmem _ => (al, s)
  | .rope _ => (al, s)
  | .win _ => if write then (⟨xACCESS, a, false⟩ :: al, s) else (al, s)
  | _ => (⟨xACCESS, a, false⟩ :: al, s)

/-- A taken transfer to `t`: ACCESS for a target outside the instruction memory (R333). -/
def jumpCauses (t : Int) (_ : Bool) (s : State) : List Cause × Option Nat × Unit × State :=
  (if inImem t then [] else [⟨xACCESS, BitVec.ofInt 32 t, false⟩], none, (), s)
/-- A register jump target: ALIGN, ACCESS (R333). -/
def jregCauses (t : Word) (_ : Bool) (s : State) : List Cause × Option Nat × Unit × State :=
  ((if t.toNat < 0x4000 then [] else [⟨xACCESS, t, false⟩]) ++ (if t.toNat % 4 = 0 then [] else [⟨xALIGN, t, false⟩]),
    none, (), s)

/-- LB (R328): Load a sign-extended byte. -/
def execLb (e : EngNo) (f : IFmt) (s : State) : Host.Outcome State Fault Refusal :=
  act s (load e f 1 true (fun x a l => x.setG f.rd.toNat ((byteOf a l).signExtend 32)))
/-- LBU (R328): Load a zero-extended byte. -/
def execLbu (e : EngNo) (f : IFmt) (s : State) : Host.Outcome State Fault Refusal :=
  act s (load e f 1 true (fun x a l => x.setG f.rd.toNat ((byteOf a l).setWidth 32)))
/-- LH (R328): Load a sign-extended half-word. -/
def execLh (e : EngNo) (f : IFmt) (s : State) : Host.Outcome State Fault Refusal :=
  act s (load e f 2 true (fun x a l => x.setG f.rd.toNat ((halfOf a l).signExtend 32)))
/-- LHU (R328): Load a zero-extended half-word. -/
def execLhu (e : EngNo) (f : IFmt) (s : State) : Host.Outcome State Fault Refusal :=
  act s (load e f 2 true (fun x a l => x.setG f.rd.toNat ((halfOf a l).setWidth 32)))
/-- LW (R328): Load a word. -/
def execLw (e : EngNo) (f : IFmt) (s : State) : Host.Outcome State Fault Refusal :=
  act s (load e f 4 true (fun x _ l => x.setG f.rd.toNat (wordAt l 0)))
/-- LD (R328): Load a register pair. -/
def execLd (e : EngNo) (f : IFmt) (s : State) : Host.Outcome State Fault Refusal :=
  act s (load e f 8 (evenPair f.rd) (fun x _ l => (x.setG f.rd.toNat (wordAt l 0)).setG (f.rd.toNat + 1) (wordAt l 1)))
/-- SB (R328): Store a byte. -/
def execSb (e : EngNo) (f : IFmt) (s : State) : Host.Outcome State Fault Refusal :=
  act s (store e f 1 true)
/-- SH (R328): Store a half-word. -/
def execSh (e : EngNo) (f : IFmt) (s : State) : Host.Outcome State Fault Refusal :=
  act s (store e f 2 true)
/-- SW (R328): Store a word. -/
def execSw (e : EngNo) (f : IFmt) (s : State) : Host.Outcome State Fault Refusal :=
  act s (store e f 4 true)
/-- SD (R328): Store a register pair. -/
def execSd (e : EngNo) (f : IFmt) (s : State) : Host.Outcome State Fault Refusal :=
  act s (store e f 8 (evenPair f.rd))
/-- AADD_W (R330): Atomic 32-bit add. -/
def execAaddW (e : EngNo) (f : RFmt) (s : State) : Host.Outcome State Fault Refusal :=
  act s (atomW e f (fun o b _ => some (o + b)) false)
/-- AAND_W (R330): Atomic 32-bit AND. -/
def execAandW (e : EngNo) (f : RFmt) (s : State) : Host.Outcome State Fault Refusal :=
  act s (atomW e f (fun o b _ => some (o &&& b)) false)
/-- AOR_W (R330): Atomic 32-bit OR. -/
def execAorW (e : EngNo) (f : RFmt) (s : State) : Host.Outcome State Fault Refusal :=
  act s (atomW e f (fun o b _ => some (o ||| b)) false)
/-- AXOR_W (R330): Atomic 32-bit XOR. -/
def execAxorW (e : EngNo) (f : RFmt) (s : State) : Host.Outcome State Fault Refusal :=
  act s (atomW e f (fun o b _ => some (o ^^^ b)) false)
/-- ASWP_W (R330): Atomic 32-bit swap. -/
def execAswpW (e : EngNo) (f : RFmt) (s : State) : Host.Outcome State Fault Refusal :=
  act s (atomW e f (fun _ b _ => some b) false)
/-- ACAS_W (R330): Atomic 32-bit compare and swap, setting Z. -/
def execAcasW (e : EngNo) (f : RFmt) (s : State) : Host.Outcome State Fault Refusal :=
  act s (atomW e f (fun o b r => if o = r then some b else none) true)
/-- AADD_D (R330): Atomic 64-bit add. -/
def execAaddD (e : EngNo) (f : RFmt) (s : State) : Host.Outcome State Fault Refusal :=
  act s (atomD e f (fun o b _ => some (o + b)) false)
/-- AAND_D (R330): Atomic 64-bit AND. -/
def execAandD (e : EngNo) (f : RFmt) (s : State) : Host.Outcome State Fault Refusal :=
  act s (atomD e f (fun o b _ => some (o &&& b)) false)
/-- AOR_D (R330): Atomic 64-bit OR. -/
def execAorD (e : EngNo) (f : RFmt) (s : State) : Host.Outcome State Fault Refusal :=
  act s (atomD e f (fun o b _ => some (o ||| b)) false)
/-- AXOR_D (R330): Atomic 64-bit XOR. -/
def execAxorD (e : EngNo) (f : RFmt) (s : State) : Host.Outcome State Fault Refusal :=
  act s (atomD e f (fun o b _ => some (o ^^^ b)) false)
/-- ASWP_D (R330): Atomic 64-bit swap. -/
def execAswpD (e : EngNo) (f : RFmt) (s : State) : Host.Outcome State Fault Refusal :=
  act s (atomD e f (fun _ b _ => some b) false)
/-- ACAS_D (R330): Atomic 64-bit compare and swap. -/
def execAcasD (e : EngNo) (f : RFmt) (s : State) : Host.Outcome State Fault Refusal :=
  act s (atomD e f (fun o b r => if o = r then some b else none) true)
/-- BR (R332): Conditional relative branch. -/
def execBr (e : EngNo) (f : BFmt) (s : State) : Host.Outcome State Fault Refusal :=
  act s (fun s =>
    let x := s.getEng e.toNat
    let t := target x.pc f.off.toInt
    if condHolds x f.cond then
      s.instr e.toNat true false [] (jumpCauses t) (fun _ s => s.retireAtPc e.toNat (BitVec.ofInt 32 t))
    else s.instr e.toNat true true [] noCause (fun _ s => s.retireNext e.toNat))
/-- J (R332): Direct jump. -/
def execJ (e : EngNo) (f : JFmt) (s : State) : Host.Outcome State Fault Refusal :=
  act s (fun s =>
    let t := target (s.getEng e.toNat).pc f.off.toInt
    s.instr e.toNat true false [] (jumpCauses t) (fun _ s => s.retireAtPc e.toNat (BitVec.ofInt 32 t)))
/-- JAL (R332): Direct call, linking in g31. -/
def execJal (e : EngNo) (f : JFmt) (s : State) : Host.Outcome State Fault Refusal :=
  act s (fun s =>
    let x := s.getEng e.toNat
    let t := target x.pc f.off.toInt
    s.instr e.toNat true false [] (jumpCauses t) (fun _ s =>
      (s.setEng e.toNat ((s.getEng e.toNat).setG 31 (x.pc + 4))).retireAtPc e.toNat (BitVec.ofInt 32 t)))
/-- JR (R332): Jump through a register. -/
def execJr (e : EngNo) (f : RFmt) (s : State) : Host.Outcome State Fault Refusal :=
  act s (fun s =>
    let t := (s.getEng e.toNat).gr f.ra.toNat
    s.instr e.toNat (rOk2 f && f.rd == 0) false [f.ra.toNat] (jregCauses t) (fun _ s => s.retireAtPc e.toNat t))
/-- JALR (R332): Call through a register. -/
def execJalr (e : EngNo) (f : RFmt) (s : State) : Host.Outcome State Fault Refusal :=
  act s (fun s =>
    let x := s.getEng e.toNat
    let t := x.gr f.ra.toNat
    s.instr e.toNat (rOk2 f) false [f.ra.toNat] (jregCauses t) (fun _ s =>
      (s.setEng e.toNat ((s.getEng e.toNat).setG f.rd.toNat (x.pc + 4))).retireAtPc e.toNat t))
/-- VLD (R345): Load a 16-byte vector. -/
def execVld (e : EngNo) (f : VMFmt) (s : State) : Host.Outcome State Fault Refusal :=
  act s (fun s =>
    let a := ea (s.getEng e.toNat) f.ra f.imm
    s.instr e.toNat (f.z == 0) true [f.ra.toNat]
      (fun clean s =>
        let (l, s) := vecCauses e.toNat a false s
        if clean && l.isEmpty then
          let sa := s.localSa e.toNat ((s.getEng e.toNat).localMap a.toNat)
          let (ws, s) := s.loadWords e.toNat a 4
          if ws.any (·.2) then ([⟨xPOISON, a, false⟩], sa, ws, s) else ([], sa, ws, s)
        else (l, none, [], s))
      (fun ws s => (s.setEng e.toNat ((s.getEng e.toNat).setV f.vd.toNat (mapLanes (wordAt ws)))).retireNext e.toNat))
/-- VST (R345): Store a 16-byte vector. -/
def execVst (e : EngNo) (f : VMFmt) (s : State) : Host.Outcome State Fault Refusal :=
  act s (fun s =>
    let a := ea (s.getEng e.toNat) f.ra f.imm
    s.instr e.toNat (f.z == 0) true [f.ra.toNat, 32 + f.vd.toNat]
      (fun _ s => let (l, s) := vecCauses e.toNat a true s; (l, none, (), s))
      (fun _ s =>
        let v := (s.getEng e.toNat).vr f.vd.toNat
        (s.forN 4 (fun k s => s.storeLocal e.toNat (a + w32 (4 * k)) 4 (lane v k))).retireNext e.toNat))
/-- SOFTWARE_ATTENTION (R314): A write of ENG_LATTN.SET sets ENG_ESTAT.SWATTN. -/
def execSoftwareAttention (e : EngNo) (s : State) : Host.Outcome State Fault Refusal :=
  act s (fun s => s.instr e.toNat true true [] noCause (fun _ s => (s.lregWrite e.toNat 0x20 1).retireNext e.toNat))
/-- LOCAL_TIME_READ (R314): A read of ENG_LTIMELO latches ENG_LTIMEHI. -/
def execLocalTimeRead (e : EngNo) (rd : BitVec 5) (s : State) : Host.Outcome State Fault Refusal :=
  act s (fun s => s.instr e.toNat true true [] noCause (fun _ s =>
    let (w, s) := s.lregRead e.toNat 0x18
    (s.setEng e.toNat ((s.getEng e.toNat).setG rd.toNat w)).retireNext e.toNat))

end Sys2Proof.Machine
end

