-- ==== Sys2Proof/Machine/Float.lean ====
section
/-! DEFINITION. Binary32 arithmetic of a coprocessor lane (R293, R349): exact values as integers, one rounding to nearest
with ties to even at the end, subnormal inputs and results replaced by zero of the same sign. -/

namespace Sys2Proof.Machine

/-- What a binary32 lane holds: value of `fin` is (−1)^neg × m × 2^e with m ≠ 0. -/
inductive Fp where
  | nan (signalling : Bool)
  | inf (neg : Bool)
  | zero (neg : Bool)
  | fin (neg : Bool) (m : Nat) (e : Int)
  deriving DecidableEq, Repr

/-- A lane result with its status: INV, DZ. -/
structure FpRes where
  w : Word
  inv : Bool := false
  dz : Bool := false
  deriving DecidableEq, Repr

/-- Every NaN result (R293). -/
def qnan : Word := 0x7FC00000
def fpZero (neg : Bool) : Word := if neg then 0x80000000 else 0
def fpInf (neg : Bool) : Word := if neg then 0xFF800000 else 0x7F800000

/-- Decodes a lane; a subnormal input is zero of its sign (R293). -/
def fpOf (w : Word) : Fp :=
  let neg := w.getLsbD 31
  let ex := bits w 30 23
  let fr := bits w 22 0
  if ex = 255 then if fr = 0 then .inf neg else .nan (decide (fr < 2 ^ 22))
  else if ex = 0 then .zero neg
  else .fin neg (2 ^ 23 + fr) ((ex : Int) - 150)

/-- m / 2^k rounded to nearest, ties to even. -/
def rneShift (m k : Nat) : Nat :=
  if k = 0 then m
  else
    let q := m / 2 ^ k
    let r := m % 2 ^ k
    let h := 2 ^ (k - 1)
    if h < r ∨ (r = h ∧ q % 2 = 1) then q + 1 else q

/-- (−1)^neg × m × 2^e rounded to binary32; beyond the largest finite value ∞, below the smallest normal zero (R293, R349).
The bits of `m` below its 24 highest may carry a sticky bit. -/
def fpPack (neg : Bool) (m : Nat) (e : Int) : Word :=
  if m = 0 then fpZero neg
  else
    let n := Nat.log2 m
    let q := if 23 < n then rneShift m (n - 23) else m * 2 ^ (23 - n)
    let x : Int := e + n - 23
    let (q, x) := if q = 2 ^ 24 then (2 ^ 23, x + 1) else (q, x)
    let b := x + 150
    if 255 ≤ b then fpInf neg
    else if b ≤ 0 then fpZero neg
    else w32 (b2n neg * 2 ^ 31 + b.toNat * 2 ^ 23 + (q - 2 ^ 23))

/-- A signed exact value n × 2^e rounded; `negZero` is the sign of an exact zero. -/
def fpPackInt (n : Int) (e : Int) (negZero : Bool) : Word :=
  if n = 0 then fpZero negZero else fpPack (decide (n < 0)) n.natAbs e

/-- (−1)^neg × m as an integer. -/
def signed (neg : Bool) (m : Nat) : Int := if neg then -(m : Int) else m

/-- Any NaN among the inputs: the result of R349, INV for a signalling one. -/
def anyNan (l : List Fp) : Option FpRes :=
  if l.any (fun x => match x with | .nan s => s | _ => false) then some ⟨qnan, true, false⟩
  else if l.any (fun x => match x with | .nan _ => true | _ => false) then some ⟨qnan, false, false⟩
  else none

/-- n1 × 2^e1 + n2 × 2^e2 as one integer times a power of two. -/
def addExact (n1 : Int) (e1 : Int) (n2 : Int) (e2 : Int) : Int × Int :=
  let e := min e1 e2
  (n1 * 2 ^ (e1 - e).toNat + n2 * 2 ^ (e2 - e).toNat, e)

/-- a × b + c, rounded once (R348, R349). -/
def fpFma (a b c : Word) : FpRes :=
  let x := fpOf a
  let y := fpOf b
  let z := fpOf c
  let prodInv := match x, y with
    | .zero _, .inf _ => true
    | .inf _, .zero _ => true
    | _, _ => false
  if prodInv then ⟨qnan, true, false⟩
  else match anyNan [x, y, z] with
    | some r => r
    | none =>
      let sg := fun v => match v with
        | .inf n => n
        | .zero n => n
        | .fin n _ _ => n
        | .nan _ => false
      let pn := sg x != sg y
      match x, y, z with
      | .inf _, _, .inf n => if pn == n then ⟨fpInf pn, false, false⟩ else ⟨qnan, true, false⟩
      | _, .inf _, .inf n => if pn == n then ⟨fpInf pn, false, false⟩ else ⟨qnan, true, false⟩
      | .inf _, _, _ => ⟨fpInf pn, false, false⟩
      | _, .inf _, _ => ⟨fpInf pn, false, false⟩
      | _, _, .inf n => ⟨fpInf n, false, false⟩
      | .fin _ m1 e1, .fin _ m2 e2, .fin n3 m3 e3 =>
        let (n, e) := addExact (signed pn (m1 * m2)) (e1 + e2) (signed n3 m3) e3
        ⟨fpPackInt n e false, false, false⟩
      | .fin _ m1 e1, .fin _ m2 e2, _ => ⟨fpPack pn (m1 * m2) (e1 + e2), false, false⟩
      | _, _, .fin n3 m3 e3 => ⟨fpPack n3 m3 e3, false, false⟩
      | _, _, .zero n => ⟨fpZero (pn && n), false, false⟩
      | _, _, _ => ⟨0, false, false⟩

/-- a + b. -/
def fpAdd (a b : Word) : FpRes :=
  match fpOf a, fpOf b with
  | .nan s, y => (anyNan [.nan s, y]).getD ⟨qnan, false, false⟩
  | x, .nan s => (anyNan [x, .nan s]).getD ⟨qnan, false, false⟩
  | .inf n, .inf k => if n == k then ⟨fpInf n, false, false⟩ else ⟨qnan, true, false⟩
  | .inf n, _ => ⟨fpInf n, false, false⟩
  | _, .inf n => ⟨fpInf n, false, false⟩
  | .zero n, .zero k => ⟨fpZero (n && k), false, false⟩
  | .zero _, .fin n m e => ⟨fpPack n m e, false, false⟩
  | .fin n m e, .zero _ => ⟨fpPack n m e, false, false⟩
  | .fin n1 m1 e1, .fin n2 m2 e2 =>
    let (n, e) := addExact (signed n1 m1) e1 (signed n2 m2) e2
    ⟨fpPackInt n e false, false, false⟩
/-- The sign inverted, NaN or not. -/
def flipSign (a : Word) : Word := a ^^^ 0x80000000
/-- a − b. -/
def fpSub (a b : Word) : FpRes := fpAdd a (flipSign b)
/-- a × b. -/
def fpMul (a b : Word) : FpRes :=
  match fpOf a, fpOf b with
  | .nan s, y => (anyNan [.nan s, y]).getD ⟨qnan, false, false⟩
  | x, .nan s => (anyNan [x, .nan s]).getD ⟨qnan, false, false⟩
  | .inf _, .zero _ => ⟨qnan, true, false⟩
  | .zero _, .inf _ => ⟨qnan, true, false⟩
  | .inf n, .inf k => ⟨fpInf (n != k), false, false⟩
  | .inf n, .fin k _ _ => ⟨fpInf (n != k), false, false⟩
  | .fin n _ _, .inf k => ⟨fpInf (n != k), false, false⟩
  | .zero n, .zero k => ⟨fpZero (n != k), false, false⟩
  | .zero n, .fin k _ _ => ⟨fpZero (n != k), false, false⟩
  | .fin n _ _, .zero k => ⟨fpZero (n != k), false, false⟩
  | .fin n m e, .fin k l d => ⟨fpPack (n != k) (m * l) (e + d), false, false⟩
/-- a / b (R349). -/
def fpDiv (a b : Word) : FpRes :=
  match fpOf a, fpOf b with
  | .nan s, y => (anyNan [.nan s, y]).getD ⟨qnan, false, false⟩
  | x, .nan s => (anyNan [x, .nan s]).getD ⟨qnan, false, false⟩
  | .inf _, .inf _ => ⟨qnan, true, false⟩
  | .zero _, .zero _ => ⟨qnan, true, false⟩
  | .inf n, .zero k => ⟨fpInf (n != k), false, false⟩
  | .inf n, .fin k _ _ => ⟨fpInf (n != k), false, false⟩
  | .zero n, .inf k => ⟨fpZero (n != k), false, false⟩
  | .zero n, .fin k _ _ => ⟨fpZero (n != k), false, false⟩
  | .fin n _ _, .inf k => ⟨fpZero (n != k), false, false⟩
  | .fin n _ _, .zero k => ⟨fpInf (n != k), false, true⟩
  | .fin n m e, .fin k l d =>
    let q := m * 2 ^ 40 / l
    ⟨fpPack (n != k) (2 * q + b2n (m * 2 ^ 40 % l != 0)) (e - d - 41), false, false⟩

/-- Integer square root of a number below 2^52, bit by bit. -/
def isqrt (n : Nat) : Nat :=
  ((List.range 26).map (fun k => 25 - k)).foldl (fun r k => if (r + 2 ^ k) * (r + 2 ^ k) ≤ n then r + 2 ^ k else r) 0
/-- The binary32 values within 1 unit in the last place of 1 / √(m × 2^e), least first (R349). -/
def rsqCands (m : Nat) (e : Int) : List Word :=
  let odd := e % 2 != 0
  let m2 := if odd then 2 * m else m
  let t : Int := (if odd then e - 1 else e) / 2
  let q36 := isqrt (2 ^ 72 / m2)
  let (q, k) : Nat × Nat := if q36 < 2 ^ 24 then (q36, 36) else (isqrt (2 ^ 70 / m2), 35)
  let v := fun (n : Nat) => fpPack false n (-(k : Int) - t)
  let low := if q = 2 ^ 23 ∧ 4 * 2 ^ (2 * k) ≤ (2 * q + 1) * (2 * q + 1) * m2 then
      [fpPack false (2 * q - 1) (-(k : Int) - 1 - t)] else []
  (if q * q * m2 = 2 ^ (2 * k) then [v (q - 1)] else []) ++ low ++ [v q, v (q + 1)]
/-- 1 / √a: the spec bounds the error and leaves the value; `pick` chooses (R349, log entry 10). -/
def fpRsq (a : Word) (pick : Nat) : FpRes :=
  match fpOf a with
  | .nan s => ⟨qnan, s, false⟩
  | .zero n => ⟨fpInf n, false, true⟩
  | .inf false => ⟨0, false, false⟩
  | .inf true => ⟨qnan, true, false⟩
  | .fin true _ _ => ⟨qnan, true, false⟩
  | .fin false m e =>
    let l := rsqCands m e
    ⟨l.getD (pick % l.length) qnan, false, false⟩
/-- ((c3 t + c2) t + c1) t + c0, each step one fused multiply-add (R348). -/
def fpSpl (c : BitVec 128) (t : Word) : FpRes :=
  let l := fun i => c.extractLsb' (32 * i) 32
  let r1 := fpFma (l 3) t (l 2)
  let r2 := fpFma r1.w t (l 1)
  let r3 := fpFma r2.w t (l 0)
  ⟨r3.w, r1.inv || r2.inv || r3.inv, false⟩

/-- The lane as an encoding with subnormals replaced. -/
def fpEnc : Fp → Word
  | .nan _ => qnan
  | .inf n => fpInf n
  | .zero n => fpZero n
  | .fin n m e => fpPack n m e
/-- Order key: −0 below +0 (R348). -/
def fpKey (w : Word) : Int := if w.getLsbD 31 then -((w.toNat % 2 ^ 31 : Nat) : Int) - 1 else (w.toNat : Int)
def fpMinMax (isMin : Bool) (a b : Word) : FpRes :=
  match anyNan [fpOf a, fpOf b] with
  | some r => r
  | none =>
    let x := fpEnc (fpOf a)
    let y := fpEnc (fpOf b)
    ⟨if (decide (fpKey x ≤ fpKey y)) == isMin then x else y, false, false⟩
/-- Value order with +0 = −0. -/
def fpVal (w : Word) : Int := if w.getLsbD 31 then -((w.toNat % 2 ^ 31 : Nat) : Int) else (w.toNat : Int)
/-- A compare: all ones or 0; 0 with a NaN input (R348, R349). -/
def fpCmp (lt : Bool) (a b : Word) : FpRes :=
  match anyNan [fpOf a, fpOf b] with
  | some r => ⟨0, r.inv, false⟩
  | none =>
    let x := fpVal (fpEnc (fpOf a))
    let y := fpVal (fpEnc (fpOf b))
    ⟨if (if lt then decide (x < y) else decide (x = y)) then 0xFFFFFFFF else 0, false, false⟩
/-- Sign cleared, or inverted (R348). -/
def fpSign (clear : Bool) (a : Word) : FpRes :=
  match fpOf a with
  | .nan s => ⟨qnan, s, false⟩
  | x => let w := fpEnc x; ⟨if clear then w &&& 0x7FFFFFFF else flipSign w, false, false⟩

/-- Signed integer to binary32 (R351). -/
def fpOfInt (a : Word) : Word := fpPackInt a.toInt 0 false
/-- Binary32 to signed integer, to nearest even or towards zero: value, SAT, INV (R351). -/
def fpToInt (zero : Bool) (a : Word) : Word × Bool × Bool :=
  match fpOf a with
  | .nan _ => (0, false, true)
  | .inf n => (if n then 0x80000000 else 0x7FFFFFFF, true, false)
  | .zero _ => (0, false, false)
  | .fin n m e =>
    let v := if 0 ≤ e then m * 2 ^ e.toNat
      else if zero then m / 2 ^ (-e).toNat else rneShift m (-e).toNat
    let i := signed n v
    (sat32 i, !inS32 i, false)

end Sys2Proof.Machine
end

