-- ==== Sys2Proof/Machine/Acp.lean ====
section
/-! DEFINITION. The array coprocessor of an engine: integer, binary32, accumulator, conversion and move operations
(R293–R295, R346–R352). -/

namespace Sys2Proof.Machine

/-- The fields a format V row that uses VD, VA and VB leaves at 0 (R319, R320). -/
def vOk3 (f : VFmt) : Bool := f.vc == 0 && f.ac == 0 && f.rm == 0
/-- … that uses VD and VA. -/
def vOk2 (f : VFmt) : Bool := f.vb == 0 && vOk3 f
/-- … that uses VD, VA, VB and VC. -/
def vOk4 (f : VFmt) : Bool := f.ac == 0 && f.rm == 0
/-- … of VACC, that uses AC, VA and VB. -/
def vOkAcc (f : VFmt) : Bool := f.vd == 0 && f.vc == 0 && f.rm == 0
/-- Register number of a vector source, for its parity (R297). -/
def vsrc (n : BitVec 4) : Nat := 32 + n.toNat

/-- One lane result: value, SAT, DZ, INV (R346). -/
structure LaneRes where
  w : Word
  sat : Bool := false
  dz : Bool := false
  inv : Bool := false
  deriving DecidableEq, Repr

/-- Status bits of four lane results (R346). -/
def laneStatus (r : Nat → LaneRes) : BitVec 12 :=
  laneBits 0 (fun i => (r i).sat) ||| laneBits 4 (fun i => (r i).dz) ||| laneBits 8 (fun i => (r i).inv)
/-- vd = the lane results, with their status (R346, R347). -/
def Eng.vput (x : Eng) (vd : BitVec 4) (r : Nat → LaneRes) : Eng :=
  (x.setV vd.toNat (mapLanes (fun i => (r i).w))).orAcp (laneStatus r)
/-- vd = g of the lanes of va and vb. -/
def vop3 (e : EngNo) (f : VFmt) (g : Word → Word → LaneRes) (s : State) : State :=
  s.regInstr e.toNat (vOk3 f) [vsrc f.va, vsrc f.vb] (fun x =>
    x.vput f.vd (fun i => g (lane (x.vr f.va.toNat) i) (lane (x.vr f.vb.toNat) i)))
/-- vd = g of the lanes of va. -/
def vop2 (e : EngNo) (f : VFmt) (g : Word → LaneRes) (s : State) : State :=
  s.regInstr e.toNat (vOk2 f) [vsrc f.va] (fun x => x.vput f.vd (fun i => g (lane (x.vr f.va.toNat) i)))
/-- vd = g of the lanes of va, vb and vc. -/
def vop4 (e : EngNo) (f : VFmt) (g : Word → Word → Word → LaneRes) (s : State) : State :=
  s.regInstr e.toNat (vOk4 f) [vsrc f.va, vsrc f.vb, vsrc f.vc] (fun x =>
    x.vput f.vd (fun i => g (lane (x.vr f.va.toNat) i) (lane (x.vr f.vb.toNat) i) (lane (x.vr f.vc.toNat) i)))
/-- A plain lane value. -/
def plain (w : Word) : LaneRes := { w := w }
/-- All ones for true (R347). -/
def maskOf (b : Bool) : Word := if b then 0xFFFFFFFF else 0
/-- A sum saturated to 32 bits (R347). -/
def satRes (n : Int) : LaneRes := { w := sat32 n, sat := !inS32 n }
/-- A value clamped to [lo, hi] (R351). -/
def clampRes (lo hi : Int) (w : Word) : LaneRes :=
  let n := w.toInt
  if n < lo then { w := BitVec.ofInt 32 lo, sat := true } else if hi < n then { w := BitVec.ofInt 32 hi, sat := true }
  else { w := w }
/-- A binary32 result. -/
def ofFp (r : FpRes) : LaneRes := { w := r.w, dz := r.dz, inv := r.inv }
/-- aN = aN ± va × vb in every lane, exact before saturation (R350). -/
def accOp (e : EngNo) (f : VFmt) (g : Int → Int → Int) (s : State) : State :=
  s.regInstr e.toNat (vOkAcc f) [vsrc f.va, vsrc f.vb] (fun x =>
    let r := fun i =>
      g (x.ac f.ac.toNat i).toInt ((lane (x.vr f.va.toNat) i).toInt * (lane (x.vr f.vb.toNat) i).toInt)
    ((List.range 4).foldl (fun y i => y.setAc f.ac.toNat i (sat64 (r i))) x).orAcp (laneBits 0 (fun i => !inS64 (r i))))
/-- ARD's shift with rounding: 0 floor, 1 half up, 2 half to even (R350). -/
def ardRound (n : Int) (sh rm : Nat) : Int :=
  let d : Int := 2 ^ sh
  let q := n / d
  let r := n % d
  if sh = 0 then n
  else match rm with
    | 1 => (n + 2 ^ (sh - 1)) / d
    | 2 => if d < 2 * r ∨ (2 * r = d ∧ q % 2 = 1) then q + 1 else q
    | _ => q

/-- VADD (R347): Lane add. -/
def execVadd (e : EngNo) (f : VFmt) (s : State) : Host.Outcome State Fault Refusal :=
  act s (vop3 e f (fun a b => plain (a + b)))
/-- VSUB (R347): Lane subtract. -/
def execVsub (e : EngNo) (f : VFmt) (s : State) : Host.Outcome State Fault Refusal :=
  act s (vop3 e f (fun a b => plain (a - b)))
/-- VAND (R347): Lane AND. -/
def execVand (e : EngNo) (f : VFmt) (s : State) : Host.Outcome State Fault Refusal :=
  act s (vop3 e f (fun a b => plain (a &&& b)))
/-- VOR (R347): Lane OR. -/
def execVor (e : EngNo) (f : VFmt) (s : State) : Host.Outcome State Fault Refusal :=
  act s (vop3 e f (fun a b => plain (a ||| b)))
/-- VXOR (R347): Lane XOR. -/
def execVxor (e : EngNo) (f : VFmt) (s : State) : Host.Outcome State Fault Refusal :=
  act s (vop3 e f (fun a b => plain (a ^^^ b)))
/-- VMIN (R347): Lane signed minimum. -/
def execVmin (e : EngNo) (f : VFmt) (s : State) : Host.Outcome State Fault Refusal :=
  act s (vop3 e f (fun a b => plain (smin a b)))
/-- VMAX (R347): Lane signed maximum. -/
def execVmax (e : EngNo) (f : VFmt) (s : State) : Host.Outcome State Fault Refusal :=
  act s (vop3 e f (fun a b => plain (smax a b)))
/-- VSLL (R347): Lane shift left. -/
def execVsll (e : EngNo) (f : VFmt) (s : State) : Host.Outcome State Fault Refusal :=
  act s (vop3 e f (fun a b => plain (shl a (amt b))))
/-- VSRL (R347): Lane shift right logical. -/
def execVsrl (e : EngNo) (f : VFmt) (s : State) : Host.Outcome State Fault Refusal :=
  act s (vop3 e f (fun a b => plain (shr a (amt b))))
/-- VSRA (R347): Lane shift right arithmetic. -/
def execVsra (e : EngNo) (f : VFmt) (s : State) : Host.Outcome State Fault Refusal :=
  act s (vop3 e f (fun a b => plain (sar a (amt b))))
/-- VCMPEQ (R347): Lane compare equal. -/
def execVcmpeq (e : EngNo) (f : VFmt) (s : State) : Host.Outcome State Fault Refusal :=
  act s (vop3 e f (fun a b => plain (maskOf (a == b))))
/-- VCMPGT (R347): Lane signed compare greater. -/
def execVcmpgt (e : EngNo) (f : VFmt) (s : State) : Host.Outcome State Fault Refusal :=
  act s (vop3 e f (fun a b => plain (maskOf (decide (b.toInt < a.toInt)))))
/-- VMUL (R347): Lane multiply low. -/
def execVmul (e : EngNo) (f : VFmt) (s : State) : Host.Outcome State Fault Refusal :=
  act s (vop3 e f (fun a b => plain (a * b)))
/-- VADDS (R347): Saturating lane add. -/
def execVadds (e : EngNo) (f : VFmt) (s : State) : Host.Outcome State Fault Refusal :=
  act s (vop3 e f (fun a b => satRes (a.toInt + b.toInt)))
/-- VSUBS (R347): Saturating lane subtract. -/
def execVsubs (e : EngNo) (f : VFmt) (s : State) : Host.Outcome State Fault Refusal :=
  act s (vop3 e f (fun a b => satRes (a.toInt - b.toInt)))
/-- VMOV (R347): Vector move. -/
def execVmov (e : EngNo) (f : VFmt) (s : State) : Host.Outcome State Fault Refusal :=
  act s (vop2 e f plain)
/-- VSEL (R347): Bitwise lane select. -/
def execVsel (e : EngNo) (f : VFmt) (s : State) : Host.Outcome State Fault Refusal :=
  act s (vop4 e f (fun a b c => plain ((a &&& c) ||| (b &&& ~~~c))))
/-- VDIV (R347): Lane signed divide. -/
def execVdiv (e : EngNo) (f : VFmt) (s : State) : Host.Outcome State Fault Refusal :=
  act s (vop3 e f (fun a b =>
    { w := sdivEdge a b, sat := a == 0x80000000 && b == 0xFFFFFFFF, dz := b == 0 }))
/-- VDIVU (R347): Lane unsigned divide. -/
def execVdivu (e : EngNo) (f : VFmt) (s : State) : Host.Outcome State Fault Refusal :=
  act s (vop3 e f (fun a b => { w := udivEdge a b, dz := b == 0 }))
/-- FADD (R348): Binary32 add. -/
def execFadd (e : EngNo) (f : VFmt) (s : State) : Host.Outcome State Fault Refusal :=
  act s (vop3 e f (fun a b => ofFp (fpAdd a b)))
/-- FSUB (R348): Binary32 subtract. -/
def execFsub (e : EngNo) (f : VFmt) (s : State) : Host.Outcome State Fault Refusal :=
  act s (vop3 e f (fun a b => ofFp (fpSub a b)))
/-- FMUL (R348): Binary32 multiply. -/
def execFmul (e : EngNo) (f : VFmt) (s : State) : Host.Outcome State Fault Refusal :=
  act s (vop3 e f (fun a b => ofFp (fpMul a b)))
/-- FDIV (R348): Binary32 divide. -/
def execFdiv (e : EngNo) (f : VFmt) (s : State) : Host.Outcome State Fault Refusal :=
  act s (vop3 e f (fun a b => ofFp (fpDiv a b)))
/-- FMIN (R348): Binary32 minimum. -/
def execFmin (e : EngNo) (f : VFmt) (s : State) : Host.Outcome State Fault Refusal :=
  act s (vop3 e f (fun a b => ofFp (fpMinMax true a b)))
/-- FMAX (R348): Binary32 maximum. -/
def execFmax (e : EngNo) (f : VFmt) (s : State) : Host.Outcome State Fault Refusal :=
  act s (vop3 e f (fun a b => ofFp (fpMinMax false a b)))
/-- FCMPLT (R348): Binary32 compare less. -/
def execFcmplt (e : EngNo) (f : VFmt) (s : State) : Host.Outcome State Fault Refusal :=
  act s (vop3 e f (fun a b => ofFp (fpCmp true a b)))
/-- FCMPEQ (R348): Binary32 compare equal. -/
def execFcmpeq (e : EngNo) (f : VFmt) (s : State) : Host.Outcome State Fault Refusal :=
  act s (vop3 e f (fun a b => ofFp (fpCmp false a b)))
/-- FMA (R348): Binary32 fused multiply-add. -/
def execFma (e : EngNo) (f : VFmt) (s : State) : Host.Outcome State Fault Refusal :=
  act s (vop4 e f (fun a b c => ofFp (fpFma a b c)))
/-- FSPL (R348): Cubic spline evaluation. -/
def execFspl (e : EngNo) (f : VFmt) (s : State) : Host.Outcome State Fault Refusal :=
  act s (fun s => s.regInstr e.toNat (vOk3 f) [vsrc f.va, vsrc f.vb] (fun x =>
    x.vput f.vd (fun i => ofFp (fpSpl (x.vr f.va.toNat) (lane (x.vr f.vb.toNat) i)))))
/-- FRSQ (R348): Binary32 reciprocal square root. -/
def execFrsq (e : EngNo) (f : VFmt) (s : State) : Host.Outcome State Fault Refusal :=
  act s (fun s =>
    s.instr e.toNat (vOk2 f) true [vsrc f.va] noCause (fun _ s =>
      let (p0, s) := s.draw
      let (p1, s) := s.draw
      let (p2, s) := s.draw
      let (p3, s) := s.draw
      let x := s.getEng e.toNat
      (s.setEng e.toNat (x.vput f.vd (fun i =>
        ofFp (fpRsq (lane (x.vr f.va.toNat) i) ([p0, p1, p2, p3].getD i 0).toNat)))).retireNext e.toNat))
/-- FABS (R348): Clear the sign. -/
def execFabs (e : EngNo) (f : VFmt) (s : State) : Host.Outcome State Fault Refusal :=
  act s (vop2 e f (fun a => ofFp (fpSign true a)))
/-- FNEG (R348): Invert the sign. -/
def execFneg (e : EngNo) (f : VFmt) (s : State) : Host.Outcome State Fault Refusal :=
  act s (vop2 e f (fun a => ofFp (fpSign false a)))
/-- AMAC (R350): Multiply-accumulate into an accumulator. -/
def execAmac (e : EngNo) (f : VFmt) (s : State) : Host.Outcome State Fault Refusal :=
  act s (accOp e f (fun a p => a + p))
/-- AMSU (R350): Multiply-subtract from an accumulator. -/
def execAmsu (e : EngNo) (f : VFmt) (s : State) : Host.Outcome State Fault Refusal :=
  act s (accOp e f (fun a p => a - p))
/-- ACLR (R350): Clear an accumulator. -/
def execAclr (e : EngNo) (f : VFmt) (s : State) : Host.Outcome State Fault Refusal :=
  act s (fun s => s.regInstr e.toNat (vOkAcc f && f.va == 0 && f.vb == 0) [] (fun x =>
    (List.range 4).foldl (fun y i => y.setAc f.ac.toNat i 0) x))
/-- ALD (R350): Load an accumulator from a vector. -/
def execAld (e : EngNo) (f : VFmt) (s : State) : Host.Outcome State Fault Refusal :=
  act s (fun s => s.regInstr e.toNat (vOkAcc f && f.vb == 0) [vsrc f.va] (fun x =>
    (List.range 4).foldl (fun y i => y.setAc f.ac.toNat i ((lane (x.vr f.va.toNat) i).signExtend 64)) x))
/-- ARD (R350): Read an accumulator shifted, rounded and saturated. -/
def execArd (e : EngNo) (f : VRFmt) (s : State) : Host.Outcome State Fault Refusal :=
  act s (fun s => s.regInstr e.toNat (f.z1 == 0 && f.z2 == 0 && f.rm != 3) [] (fun x =>
    x.vput f.vd (fun i => satRes (ardRound (x.ac f.ac.toNat i).toInt f.sh.toNat f.rm.toNat))))
/-- VCVTIF (R351): Integer to binary32. -/
def execVcvtif (e : EngNo) (f : VFmt) (s : State) : Host.Outcome State Fault Refusal :=
  act s (vop2 e f (fun a => plain (fpOfInt a)))
/-- VCVTFI (R351): Binary32 to integer, round to nearest. -/
def execVcvtfi (e : EngNo) (f : VFmt) (s : State) : Host.Outcome State Fault Refusal :=
  act s (vop2 e f (fun a => let (w, sat, inv) := fpToInt false a; { w := w, sat := sat, inv := inv }))
/-- VCVTFIZ (R351): Binary32 to integer, round towards zero. -/
def execVcvtfiz (e : EngNo) (f : VFmt) (s : State) : Host.Outcome State Fault Refusal :=
  act s (vop2 e f (fun a => let (w, sat, inv) := fpToInt true a; { w := w, sat := sat, inv := inv }))
/-- VSATH (R351): Clamp to 16 bits. -/
def execVsath (e : EngNo) (f : VFmt) (s : State) : Host.Outcome State Fault Refusal :=
  act s (vop2 e f (clampRes (-32768) 32767))
/-- VSATUB (R351): Clamp to an unsigned byte. -/
def execVsatub (e : EngNo) (f : VFmt) (s : State) : Host.Outcome State Fault Refusal :=
  act s (vop2 e f (clampRes 0 255))
/-- VNARH (R351): Narrow to packed 16-bit halves. -/
def execVnarh (e : EngNo) (f : VFmt) (s : State) : Host.Outcome State Fault Refusal :=
  act s (fun s => s.regInstr e.toNat (vOk3 f) [vsrc f.va, vsrc f.vb] (fun x =>
    x.vput f.vd (fun i =>
      let v := x.vr (if i < 2 then f.va.toNat else f.vb.toNat)
      let lo := clampRes (-32768) 32767 (lane v (2 * (i % 2)))
      let hi := clampRes (-32768) 32767 (lane v (2 * (i % 2) + 1))
      { w := hi.w.extractLsb' 0 16 ++ lo.w.extractLsb' 0 16, sat := lo.sat || hi.sat })))
/-- VINS (R352): Insert a general register into a lane. -/
def execVins (e : EngNo) (f : VGFmt) (s : State) : Host.Outcome State Fault Refusal :=
  act s (fun s => s.regInstr e.toNat (f.z == 0) [f.g.toNat, vsrc f.v] (fun x =>
    x.setV f.v.toNat (mapLanes (fun i => if i = f.lane.toNat then x.gr f.g.toNat else lane (x.vr f.v.toNat) i))))
/-- VEXT (R352): Extract a lane into a general register. -/
def execVext (e : EngNo) (f : VGFmt) (s : State) : Host.Outcome State Fault Refusal :=
  act s (fun s => s.regInstr e.toNat (f.z == 0) [vsrc f.v] (fun x =>
    x.setG f.g.toNat (lane (x.vr f.v.toNat) f.lane.toNat)))
/-- VSPLAT (R352): Copy a general register into every lane. -/
def execVsplat (e : EngNo) (f : VGFmt) (s : State) : Host.Outcome State Fault Refusal :=
  act s (fun s => s.regInstr e.toNat (f.z == 0 && f.lane == 0) [f.g.toNat] (fun x =>
    x.setV f.v.toNat (mapLanes (fun _ => x.gr f.g.toNat))))
/-- RDACP (R353): Read the ACP status after older operations complete. -/
def execRdacp (e : EngNo) (f : VGFmt) (s : State) : Host.Outcome State Fault Refusal :=
  act s (fun s => s.regInstr e.toNat (f.z == 0 && f.v == 0 && f.lane == 0) [] (fun x =>
    x.setG f.g.toNat (x.acp.setWidth 32)))
/-- WRACP (R353): Write the ACP status after older operations complete. -/
def execWracp (e : EngNo) (f : VGFmt) (s : State) : Host.Outcome State Fault Refusal :=
  act s (fun s => s.regInstr e.toNat (f.z == 0 && f.v == 0 && f.lane == 0) [f.g.toNat] (fun x =>
    { x with acp := (x.gr f.g.toNat).extractLsb' 0 12 }))

end Sys2Proof.Machine
end

