-- ==== Sys2Proof/Machine/CmdCore.lean ====
section
/-! DEFINITION. Executing commands: the command a core holds, its reply and its waits (R435–R445). -/

namespace Sys2Proof.Machine

def State.getCmd (s : State) (k : Nat) : Option Cmd := smFind s.cmds.cmd k
def State.putCmd (s : State) (k : Nat) (c : Cmd) : State := { s with cmds := { s.cmds with cmd := smIns s.cmds.cmd k c } }
/-- Word n of a command. -/
def Cmd.w (c : Cmd) (n : Nat) : Word := c.words.getD n 0
/-- OPCODE (R435). -/
def Cmd.op (c : Cmd) : Nat := bits (c.w 0) 15 0
/-- Bits [hi:lo] of word n. -/
def Cmd.f (c : Cmd) (n hi lo : Nat) : Nat := bits (c.w n) hi lo

/-- Status codes (R443). -/
def stOK : Nat := 0x00
def stUNKNOWN : Nat := 0x01
def stMALFORMED : Nat := 0x02
def stSPOOF : Nat := 0x03
def stDENIED : Nat := 0x04
def stBAD_STATE : Nat := 0x05
def stBAD_OWN : Nat := 0x06
def stBUSY : Nat := 0x07
def stNOT_READY : Nat := 0x08
def stNOT_QUIESCED : Nat := 0x09
def stTIMEOUT : Nat := 0x0A
def stTIMERFULL : Nat := 0x0B
def stNO_RESERVE : Nat := 0x0C
def stDEVICE_ERR : Nat := 0x0D
def stTOO_SMALL : Nat := 0x0E
def stHOST_FAULT : Nat := 0x0F
def stABORTED : Nat := 0x10
def stNOT_FOUND : Nat := 0x11
def stPOISONED : Nat := 0x12
def stINTERNAL : Nat := 0x13

/-- The words of a reply (R436). -/
def replyWords (c : Cmd) (k status second : Nat) (ws : List Word) : List Word :=
  [setBits (setBits (c.w 0) 30 16 0) 23 16 status, c.w 1, w32 (second % 2 ^ 16 * 2 ^ 16 + k % 8)] ++
    (List.range 13).map (fun n => ws.getD n 0)

/-- The reply to entry `idx` of the queue 0 of context `ctx`: 64 bytes over the entry, which retires (R426, R436, R467). -/
def State.writeReply (s : State) (ctx idx : Nat) (words : List Word) (ok ep : Bool) : State :=
  let s := if s.wqWrites ctx then
      s.emit (.hostWrite (s.wqInst ctx) (s.wqPasid ctx) (s.entAddr ctx idx) (wordsBytes words) ep)
    else s
  let s := s.count R.CMD_CNT_COMMANDS
  let s := if ok then s else s.count R.CMD_CNT_REFUSED
  s.retireAt ctx idx 0

/-- COMMAND_REPLY: core k answers its command and is free (R426, R436). -/
def State.reply (s : State) (k status second : Nat) (ws : List Word) (ep : Bool := false) : State :=
  match s.getCmd k with
  | none => s
  | some c =>
    let s := s.writeReply c.ctx c.idx (replyWords c k status second ws) (status == 0) ep
    let s := { s with cmds := { s.cmds with cmd := smDel s.cmds.cmd k } }
    s.wr R.CMD_STAT_BUSY (setBits (s.rdw R.CMD_STAT_BUSY) k k 0).toNat
/-- A reply without results. -/
def State.fail (s : State) (k status second : Nat) : State := s.reply k status second []
def State.ok (s : State) (k : Nat) (ws : List Word) : State := s.reply k stOK 0 ws

/-- The command of core k begins to wait (R437). -/
def State.cmdWait (s : State) (k : Nat) (w : CmdWait) : State :=
  match s.getCmd k with
  | some c => s.putCmd k { c with wait := w }
  | none => s
/-- The core whose command waits for `w`. -/
def State.waiter (s : State) (w : CmdWait) : Option Nat :=
  (s.cmds.cmd.find? (fun e => e.2.wait == w)).map (·.1)
/-- Runs the meaning of opcode `op` on the command that core k has taken. -/
def State.runCmd (s : State) (k op : Nat) (f : Cmd → State → State) : State :=
  match s.getCmd k with
  | some c => if c.op = op ∧ c.wait = .toAct then f c s else s
  | none => s

/-- Instance, and PASID, of the requests of a command (R445). -/
def State.cmdInst (s : State) (c : Cmd) : Nat := s.wqInst c.ctx
def State.cmdIsMgr (s : State) (c : Cmd) : Bool := s.cmdInst c == s.mgr
/-- A write of a command to host memory; on a queue that writes nothing, none (R427, R445). -/
def State.cmdWrite (s : State) (c : Cmd) (addr : Nat) (data : List Byte) (ep : Bool) : State :=
  if s.wqWrites c.ctx then s.emit (.hostWrite (s.cmdInst c) (s.wqPasid c.ctx) addr data ep) else s

end Sys2Proof.Machine
end

