-- ==== Sys2Proof/Machine/Ptu.lean ====
section
/-! DEFINITION. The position time base: device time, tracks, markers, and the prediction of the next commit of a root port
(R18–R66, R641). -/

namespace Sys2Proof.Machine

/-! ## Arithmetic -/

/-- The signed difference (a − b) modulo 2⁶⁴ (R36). -/
def sdiff (a b : BitVec 64) : Int := (a - b).toInt
/-- A quotient of an integer, rounded either way where it is inexact (log entry 6). -/
def State.squot (s : State) (n : Int) (d : Nat) : Int × State :=
  let (q, s) := s.quot n.natAbs d
  (if n < 0 then -(q : Int) else q, s)
/-- A velocity as PTU_TRKVEL shows it; a value outside signed 15.16 is not stated (log entry 1). -/
def State.velField (s : State) (v : Int) : Nat × State :=
  if -(2 ^ 31 : Int) ≤ v ∧ v < 2 ^ 31 then ((BitVec.ofInt 32 v).toNat, s)
  else let (w, s) := s.draw; (w.toNat, s)

/-! ## Tracks -/

/-- Position of track t, 48.16 (R63). -/
def State.trkPos (s : State) (t : Nat) : BitVec 64 :=
  BitVec.ofNat 64 (s.rd R.PTU_TRKPOSH_POSH t * 2 ^ 32 + s.rd R.PTU_TRKPOSF_POSF t)
/-- Sets the position of track t. -/
def State.setTrkPos (s : State) (t : Nat) (x : BitVec 64) : State :=
  (s.wr R.PTU_TRKPOSH_POSH (x.toNat / 2 ^ 32) t).wr R.PTU_TRKPOSF_POSF (x.toNat % 2 ^ 32) t
/-- Velocity of track t, signed, × 2⁻¹⁶ counts/µs (R63). -/
def State.trkVel (s : State) (t : Nat) : Int := (s.rdw R.PTU_TRKVEL_VEL t).toInt
/-- The preset value of track t (R34). -/
def State.trkSet (s : State) (t : Nat) : BitVec 64 :=
  BitVec.ofNat 64 (s.rd R.PTU_TRKSETH_SET t * 2 ^ 32 + s.rd R.PTU_TRKSETF_SET t)
/-- TOUT of track t in device time units; 0 acts as 1 µs (R63). -/
def State.trkTout (s : State) (t : Nat) : Nat := max 1 (s.rd R.PTU_TRKCTL_TOUT t) * 1000 * 2 ^ 16
/-- Track t is to run (R641). -/
def State.trkRuns (s : State) (t : Nat) : Bool := s.on R.PTU_CTL_EN && s.on R.PTU_TRKCTL_EN t

/-- A position that passes the 48-bit limit wraps and sets OVF (R23): `x` is the exact position × 2¹⁶. -/
def State.putPos (s : State) (t : Nat) (x : Int) : State :=
  let s := s.setTrkPos t (BitVec.ofInt 64 x)
  if -(2 ^ 63 : Int) ≤ x ∧ x < 2 ^ 63 then s else s.wr R.PTU_TRKSTAT_OVF 1 t

/-- The start or preset of R33: t_edge is now, v = 0, STOPPED = 0, the history empty. -/
def State.trkRestart (s : State) (t : Nat) : State :=
  let x := s.getTrack t
  ((s.setTrack t { x with tEdge := s.time, hist := [], edged := false, vNum := 0, vDen := 1, reps := [] }).wr
    R.PTU_TRKSTAT_STOPPED 0 t).wr R.PTU_TRKVEL_VEL 0 t
/-- TRACK_START: a track starts to run, or ceases to (R641).  A track that does not run reads velocity 0. -/
def State.trkFollow (s : State) (t : Nat) : State :=
  let x := s.getTrack t
  if s.trkRuns t then
    if x.running then s else s.trkRestart t |>.setTrack t { (s.trkRestart t).getTrack t with running := true, tStart := s.time }
  else (s.setTrack t { x with running := false }).wr R.PTU_TRKVEL_VEL 0 t

/-- A jump j of device time moves the noted start of a track with it: edge times are told on the new scale (R21, R25, R641). -/
def State.trkShift (s : State) (t : Nat) (j : Time80) : State :=
  if j = 0 then s else let x := s.getTrack t; s.setTrack t { x with tStart := x.tStart + j }
/-- An edge that reached the balls while the track did not run, in its filter at the start, is ignored (R641). -/
def Track.afterStart (x : Track) (te : Time80) : Bool := decide (0 ≤ (te - x.tStart).toInt)

/-- A preset: PTU_TRKSET is the position, fraction included (R33, R34). -/
def State.trkPreset (s : State) (t : Nat) : State :=
  let v := s.trkSet t
  let s := (s.setTrkPos t v).trkRestart t
  (s.setTrack t { s.getTrack t with count := BitVec.ofNat 48 (v.toNat / 2 ^ 16) }).wr R.PTU_TRKCTL_PRESET 0 t

/-- The time since t_edge, × 2⁻¹⁶ ns. -/
def State.trkDt (s : State) (t : Nat) : Int := (s.time.toNat : Int) - (s.getTrack t).tEdge.toNat
/-- Scale of PTU_TRKVEL: counts per 2⁻¹⁶ ns to 2⁻¹⁶ counts/µs. -/
def velScale : Nat := 2 ^ 16 * 1000 * 65536

/-- TRACK_EXTRAPOLATE: the position, velocity and STOPPED of a hardware track between edges (R33). -/
def State.trkExtrapolate (s : State) (t : Nat) : State :=
  let x := s.getTrack t
  let dt := s.trkDt t
  let s := if (s.trkTout t : Int) < dt then s.wr R.PTU_TRKSTAT_STOPPED 1 t else s
  let still (s : State) (v : Nat) : State := (s.putPos t (x.count.toInt * 65536)).wr R.PTU_TRKVEL_VEL v t
  let sign (n : Nat) : Int := if x.histDown then -(n : Int) else n
  if !x.edged then s.wr R.PTU_TRKVEL_VEL 0 t
  else if s.on R.PTU_TRKSTAT_STOPPED t then still s 0
  else if dt ≤ 0 then
    let (q, s) := s.quot (x.vNum * velScale) x.vDen
    let (v, s) := s.velField (sign q)
    still s v
  else if x.vNum = 0 then still s 0
  else if x.vDen ≤ x.vNum * dt.toNat then
    let (q, s) := s.quot velScale dt.toNat
    let (v, s) := s.velField (sign q)
    (s.putPos t (x.count.toInt * 65536 + sign 0xFFFF)).wr R.PTU_TRKVEL_VEL v t
  else
    let (f, s) := s.quot (x.vNum * dt.toNat * 65536) x.vDen
    let (q, s) := s.quot (x.vNum * velScale) x.vDen
    let (v, s) := s.velField (sign q)
    (s.putPos t (x.count.toInt * 65536 + sign (min f 0xFFFF))).wr R.PTU_TRKVEL_VEL v t

/-- What a new sample (a, b) of the inputs does after (pa, pb): none, a quadrature error, or a count up or down (R24,
R26). -/
inductive EdgeEff where
  | none | qerr | up | down
  deriving DecidableEq, Repr

/-- The counting table of R24 with INV = 0. -/
def edgeEff (mode : Nat) (pa pb a b : Bool) : EdgeEff :=
  let da := a != pa
  let db := b != pb
  let dir (up : Bool) : EdgeEff := if up then .up else .down
  match mode with
  | 0 => if da && db then .qerr else if da then dir (a != b) else if db then dir (a == b) else .none
  | 1 => if da && db then .qerr else if da then dir (a != b) else .none
  | 2 => if da && db then .qerr else if da && a then dir (!b) else .none
  | 3 => if da && a then dir (!b) else .none
  | 4 => if da && a then .up else .none
  | _ => .none
/-- The table of R24 with PTU_TRKCTL.INV. -/
def edgeEffInv (inv : Bool) (e : EdgeEff) : EdgeEff :=
  match inv, e with
  | true, .up => .down
  | true, .down => .up
  | _, e => e

/-- An accepted edge: the history, v and the count (R33). -/
def State.trkEdge (s : State) (t : Nat) (te : Time80) (down : Bool) : State :=
  let x := s.getTrack t
  let h := if x.histDown = down then x.hist else []
  let h := if h.any (fun u => decide (te.toNat ≤ u.toNat)) then [] else h
  let h := h ++ [te]
  let n := 2 ^ s.rd R.PTU_TRKCTL_VWIN t + 1
  let h := h.drop (h.length - n)
  let k := h.length - 1
  let c := x.count.toInt + (if down then -1 else 1)
  let s := s.setTrack t { x with count := BitVec.ofInt 48 c, hist := h, histDown := down, edged := true, tEdge := te, vNum := k,
                                 vDen := if k = 0 then 1 else te.toNat - (h.headD te).toNat }
  let s := s.putPos t (c * 65536)
  ((s.wr R.PTU_TRKSTAT_DIR (b2n down) t).wr R.PTU_TRKSTAT_STOPPED 0 t).trkExtrapolate t

/-- An accepted report of a virtual track: its position extrapolated to now, and its velocity over the window (R31). -/
def State.trkReport (s : State) (t : Nat) (at_ : Time80) (pos : BitVec 64) : State :=
  let x := s.getTrack t
  let l := ((at_, pos) :: x.reps).take (2 ^ s.rd R.PTU_TRKCTL_VWIN t + 1)
  let old := l.getLastD (at_, pos)
  let d := sdiff pos old.2
  let n := at_.toNat - old.1.toNat
  let (q, s) := s.squot (d * 65536000) (max 1 n)
  let (v, s) := s.velField q
  let (e, s) := s.squot (d * ((s.time.toNat : Int) - at_.toNat)) (max 1 n)
  let was := s.trkPos t
  let now := BitVec.ofInt 64 (pos.toInt + e)
  let s := s.setTrack t { x with reps := l, lastAt := some at_, tEdge := s.time }
  let s := if was.toInt + sdiff now was = now.toInt ∧ -(2 ^ 63 : Int) ≤ pos.toInt + e ∧ pos.toInt + e < 2 ^ 63 then s
    else s.wr R.PTU_TRKSTAT_OVF 1 t
  let m : Int := match x.reps with
    | [] => 0
    | r :: _ => sdiff pos r.2
  let s := if m = 0 then s else s.wr R.PTU_TRKSTAT_DIR (b2n (decide (m < 0))) t
  ((s.setTrkPos t now).wr R.PTU_TRKVEL_VEL v t).wr R.PTU_TRKSTAT_STALE 0 t

/-! ## Markers (R35–R43) -/

/-- S of a marker, H, the directions and the watched value (R35, R37). -/
def State.mkX (s : State) (m : Nat) : BitVec 64 :=
  if s.on R.PTU_MKCTL_TMODE m then s.ns else s.trkPos (s.rd R.PTU_MKCTL_TRK m)
def State.mkH (s : State) (m : Nat) : BitVec 64 :=
  if s.on R.PTU_MKCTL_TMODE m then 0 else BitVec.ofNat 64 (s.rd R.PTU_MKCTL_HYST m * 65536)
def State.mkUp (s : State) (m : Nat) : Bool := s.on R.PTU_MKCTL_TMODE m || nbit (s.rd R.PTU_MKCTL_DIR m) 0
def State.mkDn (s : State) (m : Nat) : Bool := !s.on R.PTU_MKCTL_TMODE m && nbit (s.rd R.PTU_MKCTL_DIR m) 1

/-- The marker registers show U or L, and L (R65). -/
def State.syncMk (s : State) (m : Nat) : State :=
  let x := s.getMarker m
  let t := if s.rd R.PTU_MKCTL_DIR m = 2 then x.l else x.u
  (((s.wr R.PTU_MKTGT0_TGT_LO (t.toNat % 2 ^ 32) m).wr R.PTU_MKTGT1_TGT_HI (t.toNat / 2 ^ 32) m).wr
    R.PTU_MKLOW0_LOW (x.l.toNat % 2 ^ 32) m).wr R.PTU_MKLOW1_LOW (x.l.toNat / 2 ^ 32) m

/-- Targets and arming of a marker as this clock evaluates them (R42). -/
def State.mkSnap (s : State) (m : Nat) : MkSnap :=
  let x := s.getMarker m
  x.snap.getD ⟨x.u, x.l, s.on R.PTU_MKSTAT_ARMU m, s.on R.PTU_MKSTAT_ARML m⟩
/-- ARMU and ARML after this clock's arming (R37). -/
def State.mkArm (s : State) (m : Nat) : MkSnap :=
  let k := s.mkSnap m
  let x := s.mkX m
  let h := s.mkH m
  { k with armU := k.armU || (s.mkUp m && decide (sdiff x (k.u - h) ≤ 0)),
           armL := k.armL || (s.mkDn m && decide (0 ≤ sdiff x (k.l + h))) }
/-- The direction in which marker m fires in this clock, true = down; none where it does not (R37, R39). -/
def State.mkDue (s : State) (m : Nat) : Option Bool :=
  if s.on R.PTU_CTL_EN && s.on R.PTU_MKCTL_EN m && !(s.getMarker m).fired then
    let k := s.mkArm m
    let x := s.mkX m
    if s.mkUp m && k.armU && decide (0 ≤ sdiff x k.u) then some false
    else if s.mkDn m && k.armL && decide (sdiff x k.l ≤ 0) then some true
    else none
  else none

/-- The fire of marker m in one direction: PTU_MKLAST, PEND, FIRES, and the advance of its targets (R37, R41–R43). -/
def State.mkFire (s : State) (m : Nat) (down : Bool) : State :=
  let x := s.getMarker m
  let s := (s.wr R.PTU_MKLAST0_LAST (s.ns.toNat % 2 ^ 32) m).wr R.PTU_MKLAST1_LAST (s.ns.toNat / 2 ^ 32) m
  let s := ((s.wr R.PTU_MKSTAT_PEND 1 m).wr R.PTU_MKSTAT_LASTDIR (b2n down) m).count R.PTU_MKSTAT_FIRES m
  let y : Marker := { x with fired := true, snap := none, cur := some (s.nsLo, down) }
  let k := s.mkArm m
  let v := s.mkX m
  let h := s.mkH m
  let n := if down then (sdiff k.l v).toNat / x.s.toNat + 1 else (sdiff v k.u).toNat / x.s.toNat + 1
  if x.s = 0 then
    let s := if x.snap.isSome then s
      else if down then (s.wr R.PTU_MKSTAT_ARMU (b2n k.armU) m).wr R.PTU_MKSTAT_ARML (b2n k.armL) m
      else s.wr R.PTU_MKSTAT_ARMU (b2n k.armU) m
    (s.wr R.PTU_MKCTL_EN (b2n x.enWr) m).setMarker m y
  else if x.snap.isSome then (if 1 < n then s.wr R.PTU_MKSTAT_SKIP 1 m else s).setMarker m y
  else
    let (u, l) := if down then (x.l - BitVec.ofNat 64 ((n - 1) * x.s.toNat), x.l - BitVec.ofNat 64 (n * x.s.toNat))
      else (x.u + BitVec.ofNat 64 (n * x.s.toNat), x.u + BitVec.ofNat 64 ((n - 1) * x.s.toNat))
    let s := if 1 < n then s.wr R.PTU_MKSTAT_SKIP 1 m else s
    let s := (s.wr R.PTU_MKSTAT_ARMU (b2n (decide (sdiff v (u - h) ≤ 0))) m).wr R.PTU_MKSTAT_ARML
      (b2n (decide (0 ≤ sdiff v (l + h)))) m
    (s.setMarker m { y with u := u, l := l }).syncMk m

/-- The close of a PTU clock for marker m: a marker that has not fired keeps the arming of the clock, and the fire of the
clock joins those that wait for the thread scheduler (R37, R238). -/
def State.mkClose (s : State) (m : Nat) : State :=
  let x := s.getMarker m
  let k := s.mkArm m
  let s := if s.on R.PTU_CTL_EN && s.on R.PTU_MKCTL_EN m && !x.fired && x.snap.isNone then
      (s.wr R.PTU_MKSTAT_ARMU (b2n k.armU) m).wr R.PTU_MKSTAT_ARML (b2n k.armL) m
    else s
  let x := match x.cur with
    | some (w, d) => { x with nf := x.nf + 1, tLast := w, downLast := d, cur := none }
    | none => x
  s.setMarker m { x with fired := false, snap := none, enWr := false }

/-! ## Prediction (R45, R52, R57) -/

/-- PTU clocks after which a limit of F × 125 ns has passed (R45). -/
def limClk (f : Nat) : Nat := (125 * f + 1) / 2
/-- The members of the gang of port p that start frames (R57). -/
def State.gang (s : State) (p : Nat) : List Nat :=
  (List.range 16).filter (fun q => s.on R.PTU_PCFG_GANG_EN q && s.on R.PTU_PFRM_FEN q &&
    s.rd R.PTU_PCFG_GANG q == s.rd R.PTU_PCFG_GANG p)
/-- The lowest member with FEN = 1 of port p's gang; a port that has joined a running gang counts from its first commit with the gang
on, and until then the running leader's next commit ends its frame (R57, R60). -/
def State.gangHead (s : State) (p : Nat) : Nat :=
  match (s.gang p).find? (fun q => !(s.getFrame q).joining) with
  | some q => q
  | none => (s.gang p).headD p
/-- The port whose PBIND, limits and frame number port p uses: the leader of its gang.  A leader that has left it leads until its
next commit, where it still starts frames of its own (R57, R60; log entry 64). -/
def State.leader (s : State) (p : Nat) : Nat :=
  if s.on R.PTU_PCFG_GANG_EN p then
    let m := s.gangHead p
    match (s.getFrame m).led with
    | some q => if s.on R.PTU_PFRM_FEN q && !(s.getFrame q).joining then q else m
    | none => m
  else p
/-- The ports that commit when port q does (R57, R58). -/
def State.followers (s : State) (q : Nat) : List Nat :=
  (List.range 16).filter (fun p => s.on R.PTU_PFRM_FEN p && s.leader p == q)
/-- Port p has changed its gang or FEN; `l` are the ports that it led before.  It joins a gang that runs already, where another
member of it starts frames; the other ports that it led are led by it until its next commit (R60). -/
def State.gangMove (s : State) (p : Nat) (l : List Nat) : State :=
  let s := s.forL l (fun m s => s.setFrame m { s.getFrame m with led := if s.on R.PTU_PFRM_FEN p then some p else none })
  s.setFrame p { s.getFrame p with
    led := none, joining := s.on R.PTU_PCFG_GANG_EN p && s.on R.PTU_PFRM_FEN p && (s.gang p).any (fun q => q != p) }
/-- Marker m is bound to port q. -/
def State.bound (s : State) (q m : Nat) : Bool := nbit (s.rd R.PTU_PBIND_MKMASK q) m
/-- ns until marker m reaches the armed target it moves towards; none where it moves towards none (R52). -/
def State.mkEta (s : State) (m : Nat) : Option Nat × State :=
  if s.on R.PTU_CTL_EN && s.on R.PTU_MKCTL_EN m then
    let x := s.mkX m
    let k := s.mkArm m
    if s.on R.PTU_MKCTL_TMODE m then
      (if k.armU then some (sdiff k.u x).toNat else none, s)
    else
      let v := s.trkVel (s.rd R.PTU_MKCTL_TRK m)
      if s.mkUp m && k.armU && decide (0 < v) then
        let (q, s) := s.quot ((sdiff k.u x).toNat * 1000) v.natAbs; (some q, s)
      else if s.mkDn m && k.armL && decide (v < 0) then
        let (q, s) := s.quot ((sdiff x k.l).toNat * 1000) v.natAbs; (some q, s)
      else (none, s)
  else (none, s)
/-- PREWARN, PTU_PNEXT: the predicted ns to the next commit of port p (R52, R66). -/
def State.predict (s : State) (p : Nat) : State :=
  if s.on R.PTU_PFRM_FEN p then
    let q := s.leader p
    let f := s.getFrame q
    let fmax := (limClk (s.rd R.PTU_PFRM_FMAX q) - f.since) * 2
    let n := if f.deferred.isSome then min fmax ((limClk (s.rd R.PTU_PFRM_FMIN q) - f.since) * 2) else fmax
    let (n, s) := ((List.range 32).filter (s.bound q)).foldl (fun (acc : Nat × State) m =>
      match acc.2.mkEta m with
      | (some k, s) => (min acc.1 k, s)
      | (none, s) => (acc.1, s)) (n, s)
    (s.wr R.PTU_PNEXT_NEXT n p).wr R.PTU_PSTAT_PREWARN (b2n (decide (n ≤ s.rd R.PTU_PCFG_PWL p))) p
  else (s.wr R.PTU_PNEXT_NEXT 0xFFFFFFFF p).wr R.PTU_PSTAT_PREWARN 0 p

/-! ## The PTU clock -/

/-- The frame starts of port p enter a new PTU clock (R45, R53). -/
def State.frameClock (s : State) (p : Nat) : State :=
  let f := s.getFrame p
  let k := s.rd R.PTU_PCFG_STRK p
  let f := { f with now := none, fired := if f.now.isSome then [] else f.fired, since := if s.on R.PTU_PFRM_FEN p then f.since + 1 else f.since,
                    deferred := f.deferred.map (fun d => (d.1, d.2 + 1)),
                    sof := f.sof.map (fun x => { x with age := x.age + 1, hist := (s.trkPos k, s.rdw R.PTU_TRKVEL_VEL k) :: x.hist }) }
  s.setFrame p f
/-- Device time of the next clock (R19, R21). -/
def State.nextTime (s : State) : Time80 :=
  if s.on R.PTU_CTL_TLOAD then
    BitVec.ofNat 80 (s.rd R.PTU_TSETHI_NS * 2 ^ 48 + s.rd R.PTU_TSETLO_NS * 2 ^ 16 + s.rd R.PTU_TSETFR_FRAC)
  else
    let t := s.time + BitVec.ofNat 80 (s.rd R.PTU_TINC_INC)
    if s.on R.PTU_CTL_TSTEP then t + BitVec.ofInt 80 ((s.rdw R.PTU_TADJ_ADJ).toInt * 65536) else t
/-- PTU_CLOCK_TICK (R19): the old clock closes; device time, tracks, frame counts and predictions enter the new one. -/
def State.ptuTick (s : State) : State :=
  let s := s.forN 32 (fun m s => s.mkClose m)
  let j := s.nextTime - (s.time + BitVec.ofNat 80 (s.rd R.PTU_TINC_INC))
  let s := s.setTime s.nextTime
  let s := (s.wr R.PTU_CTL_TLOAD 0).wr R.PTU_CTL_TSTEP 0
  let s := s.forN 16 (fun t s =>
    let s := (s.trkShift t j).trkFollow t
    let s := if s.on R.PTU_TRKCTL_PRESET t then s.trkPreset t else s
    if t < 8 ∧ s.trkRuns t then s.trkExtrapolate t else s)
  s.forN 16 (fun p s =>
    let s := (s.frameClock p).predict p
    let f := s.getFrame p
    s.setFrame p { f with preClk := if s.on R.PTU_PSTAT_PREWARN p then f.preClk + 1 else 0 })

def execPtuClockTick (s : State) : Host.Outcome State Fault Refusal := act s State.ptuTick

/-! ## Device time commands -/

/-- TINC_WRITE (R20). -/
def execTincWrite (fn : InstNo) (val : Word) (s : State) : Host.Outcome State Fault Refusal :=
  act s (fun s => s.gated fn.toNat R.PTU_TINC_INC.off (fun s =>
    let v := bits val 23 0
    if 0x1FF00 ≤ v ∧ v ≤ 0x20100 then s.wr R.PTU_TINC_INC v else s))
/-- TIME_LOAD (R21). -/
def execTimeLoad (fn : InstNo) (s : State) : Host.Outcome State Fault Refusal :=
  act s (fun s => s.gated fn.toNat R.PTU_CTL_TLOAD.off (fun s => s.wr R.PTU_CTL_TLOAD 1))
/-- TIME_STEP (R21). -/
def execTimeStep (fn : InstNo) (s : State) : Host.Outcome State Fault Refusal :=
  act s (fun s => s.gated fn.toNat R.PTU_CTL_TSTEP.off (fun s => s.wr R.PTU_CTL_TSTEP 1))
/-- A read of PTU_TIMELO latches PTU_TIMEHI and PTU_TIMEFR for function fn (R22). -/
def State.readTimelo (s : State) (fn : Nat) : Word × Bool × State :=
  (s.rdw R.PTU_TIMELO_NS_LO, false,
    (s.latchFor fn R.PTU_TIMEHI_NS_HI.off (s.rdw R.PTU_TIMEHI_NS_HI)).latchFor fn R.PTU_TIMEFR_FRAC.off (s.rdw R.PTU_TIMEFR_FRAC))
/-- TIMELO_READ_LATCH (R22). -/
def execTimeloReadLatch (fn : InstNo) (s : State) : Host.Outcome State Fault Refusal :=
  act s (fun s => s.gatedRead fn.toNat R.PTU_TIMELO_NS_LO.off (fun s => s.readTimelo fn.toNat))

/-! ## Track commands -/

/-- An input change passes the filter once it has been stable for FILT + 1 PTU clocks (R25). -/
def State.encStable (s : State) (t : Nat) (stable : BitVec 4) : Bool := decide (s.rd R.PTU_TRKCTL_FILT t < stable.toNat)
/-- The device time at which an input change that is applied now reached the balls (R25, R28). -/
def State.encTime (s : State) (t : Nat) (skew : BitVec 18) : Time80 :=
  s.time - BitVec.ofNat 80 (((s.rd R.PTU_TRKCTL_FILT t + 1) * 2 + 10) * 65536) - skew.signExtend 80
/-- An accepted change of A and B, with the time at which it reached the balls (R24–R26, R33, R641). -/
def State.encEdge (s : State) (t : Nat) (k : EncEdge) : State :=
  if !s.encStable t k.stable then s
  else
    let te := s.encTime t k.skew
    let x := s.getTrack t
    let e := edgeEffInv (s.on R.PTU_TRKCTL_INV t) (edgeEff (s.rd R.PTU_TRKCTL_MODE t) x.a x.b k.a k.b)
    let s := s.setTrack t { x with a := k.a, b := k.b }
    if x.running && x.afterStart te then
      match e with
      | .none => s
      | .qerr => (s.count R.PTU_TRKERR_QERRCNT t).wr R.PTU_TRKSTAT_QERR 1 t
      | .up => s.trkEdge t te false
      | .down => s.trkEdge t te true
    else s
/-- ENCODER_EDGE (R24–R26, R33, R641). -/
def execEncoderEdge (t : BitVec 3) (k : InputAt) (a b : Bool) (s : State) : Host.Outcome State Fault Refusal :=
  act s (fun s => (s.trkFollow t.toNat).encEdge t.toNat ⟨a, b, k.stable, k.skew⟩)
/-- ENCODER_Z_EDGE (R25, R27, R641): a rising edge of Z, with the A or B edge that is applied in the same PTU clock and counts
first. -/
def execEncoderZEdge (z : ZEdge) (s : State) : Host.Outcome State Fault Refusal :=
  act s (fun s =>
    let t := z.t.toNat
    let s := s.trkFollow t
    let s := match z.ab with | some e => s.encEdge t e | none => s
    if (s.getTrack t).running && s.encStable t z.stable && (s.getTrack t).afterStart (s.encTime t z.skew) then
      let x := s.getTrack t
      let s := (s.wr R.PTU_TRKZCAP_ZCAP (x.count.toNat % 2 ^ 32) t).wr R.PTU_TRKSTAT_ZSEEN 1 t
      if s.on R.PTU_TRKCTL_ZCLR t then (s.setTrkPos t 0).setTrack t { x with count := 0 } else s
    else s)
/-- TRACK_STOPPED (R33). -/
def execTrackStopped (t : BitVec 3) (s : State) : Host.Outcome State Fault Refusal :=
  act s (fun s =>
    let t := t.toNat
    if s.trkRuns t && (s.getTrack t).running && decide ((s.trkTout t : Int) < s.trkDt t) then s.trkExtrapolate t else s)
/-- TRACK_PRESET (R34): the preset acts in the next PTU clock. -/
def execTrackPreset (fn : InstNo) (t : BitVec 4) (s : State) : Host.Outcome State Fault Refusal :=
  act s (fun s => s.gated fn.toNat (R.PTU_TRKCTL_PRESET.off t.toNat) (fun s => s.wr R.PTU_TRKCTL_PRESET 1 t.toNat))
/-- A read of PTU_TRKPOSF of track t latches PTU_TRKPOSH and PTU_TRKVEL for function fn (R63). -/
def State.readTrkposf (s : State) (fn t : Nat) : Word × Bool × State :=
  (s.rdw R.PTU_TRKPOSF_POSF t, false,
    (s.latchFor fn (R.PTU_TRKPOSH_POSH.off t) (s.rdw R.PTU_TRKPOSH_POSH t)).latchFor fn (R.PTU_TRKVEL_VEL.off t)
      (s.rdw R.PTU_TRKVEL_VEL t))
/-- TRKPOSF_READ_LATCH (R63). -/
def execTrkposfReadLatch (fn : InstNo) (t : BitVec 4) (s : State) : Host.Outcome State Fault Refusal :=
  act s (fun s => s.gatedRead fn.toNat (R.PTU_TRKPOSF_POSF.off t.toNat) (fun s => s.readTrkposf fn.toNat t.toNat))
/-- TRACK_STALE (R32): a virtual track whose last report is TOUT µs old. -/
def execTrackStale (t : BitVec 4) (s : State) : Host.Outcome State Fault Refusal :=
  act s (fun s =>
    let t := t.toNat
    if decide (8 ≤ t) && s.trkRuns t && (s.getTrack t).running && decide ((s.trkTout t : Int) ≤ s.trkDt t) then
      (s.wr R.PTU_TRKSTAT_STALE 1 t).wr R.PTU_TRKVEL_VEL 0 t
    else s)

/-! ## Marker commands -/

/-- MARKER_TARGET_WRITE (R35, R42): PTU_MKTGT1, with the held PTU_MKTGT0. -/
def execMarkerTargetWrite (fn : InstNo) (m : MarkNo) (val : Word) (s : State) : Host.Outcome State Fault Refusal :=
  act s (fun s => s.gated fn.toNat (R.PTU_MKTGT1_TGT_HI.off m.toNat) (fun s =>
    let m := m.toNat
    let x := s.getMarker m
    let v : BitVec 64 := val ++ x.held
    let snap := if (s.mkDue m).isSome then some (s.mkSnap m) else none
    let s := s.setMarker m { x with u := v, l := v, snap := snap }
    ((s.wr R.PTU_MKSTAT_ARMU 0 m).wr R.PTU_MKSTAT_ARML 0 m).syncMk m))
/-- MARKER_STEP_WRITE (R35): PTU_MKSTEP1, with the held PTU_MKSTEP0. -/
def execMarkerStepWrite (fn : InstNo) (m : MarkNo) (val : Word) (s : State) : Host.Outcome State Fault Refusal :=
  act s (fun s => s.gated fn.toNat (R.PTU_MKSTEP1_STEP.off m.toNat) (fun s =>
    let m := m.toNat
    let s := s.wr R.PTU_MKSTEP1_STEP val.toNat m
    s.setMarker m { s.getMarker m with s := val ++ s.rdw R.PTU_MKSTEP0_STEP m }))

/-! ## Frame limits and numbers -/

/-- PFRM_WRITE (R44, R46). -/
def execPfrmWrite (fn : InstNo) (p : PortNo) (val : Word) (s : State) : Host.Outcome State Fault Refusal :=
  act s (fun s => s.gated fn.toNat (R.PTU_PFRM_FEN.off p.toNat) (fun s =>
    let p := p.toNat
    let fmin := bits val 12 0
    let fmax := bits val 28 16
    let fen := bits val 31 31
    if fmin < 125 ∨ 8000 < fmax ∨ fmax < fmin then s.wr R.PTU_PSTAT_CFGERR 1 p
    else
      let was := s.rd R.PTU_PFRM_FEN p
      let led := s.followers p
      let s := ((s.wr R.PTU_PFRM_FMIN fmin p).wr R.PTU_PFRM_FMAX fmax p).wr R.PTU_PFRM_FEN fen p
      let f := s.getFrame p
      let s := if fen = was then s
        else (s.setFrame p { f with since := 0, first := true, deferred := none, preClk := 0, fired := [] }).gangMove p led
      s.predict p))
/-- PFNUM_WRITE (R51). -/
def execPfnumWrite (fn : InstNo) (p : PortNo) (val : Word) (s : State) : Host.Outcome State Fault Refusal :=
  act s (fun s => s.gated fn.toNat (R.PTU_PFNUM_FNUM.off p.toNat) (fun s =>
    if s.on R.PTU_PFRM_FEN p.toNat then s else s.wr R.PTU_PFNUM_FNUM (bits val 15 0) p.toNat))

end Sys2Proof.Machine
end

