-- ==== Sys2Proof/Machine/SchCore.lean ====
section
/-! DEFINITION. Transfer descriptors, their checks, completion and completion operands, pipes and reflex pairs, and the
estimates of the walker (R145–R150, R184–R219). -/

namespace Sys2Proof.Machine

/-! ## Global memory as bytes -/

/-- A number that two mapped addresses share only where everything between them is mapped (R271). -/
def regionId (a : Nat) : Nat :=
  if a < 0x1000000000 then 0
  else if a < 0x1010000000 then 1
  else if a < 0x1020000000 then 0x100 + (a + 0x8000 - 0x1010000000) / 0x10000
  else if a < 0x1030000000 then 2
  else if a < 0x1034000000 then 3
  else 4
/-- The n bytes from global address a are mapped. -/
def State.mappedRange (s : State) (a n : Nat) : Bool :=
  n == 0 || ((s.globalSa a).isSome && (s.globalSa (a + n - 1)).isSome && regionId a == regionId (a + n - 1))
/-- The n bytes from a meet [lo, hi). -/
def meets (a n lo hi : Nat) : Bool := decide (0 < n) && decide (a < hi) && decide (lo < a + n)
/-- The n bytes from global address a touch the firmware region (R606). -/
def touchesFw (a n : Nat) : Bool := meets a n 0x1020700000 0x1020800000
/-- The n bytes from global address a touch the host descriptor staging (R412). -/
def touchesStage (a n : Nat) : Bool := meets a n 0x1034000000 0x1034100000

/-- Stores bytes from global address a: whole words where they are whole, single bytes elsewhere (R483); a shut instruction memory
refuses them (R272; log entry 184). -/
def State.putBytesN : Nat → State → Nat → List Byte → State
  | 0, s, _, _ => s
  | f + 1, s, a, l =>
    match l with
    | [] => s
    | b0 :: rest =>
      let sa := if s.imemShut a then none else s.globalSa a
      if a % 4 = 0 ∧ 4 ≤ l.length then
        let s := match sa with | some sa => s.storeAt sa 4 (bytesWord (l.take 4)) | none => s
        s.putBytesN f (a + 4) (l.drop 4)
      else
        let s := match sa with | some sa => s.storeAt sa 1 (b0.zeroExtend 32) | none => s
        s.putBytesN f (a + 1) rest
def State.putBytes (s : State) (a : Nat) (l : List Byte) : State := s.putBytesN l.length a l
/-- Reads n bytes from global address a: the bytes, and whether a word of them is delivered poisoned. -/
def State.getBytes (s : State) (a n : Nat) : List Byte × Bool × State :=
  if n = 0 then ([], false, s)
  else
    let w0 := a / 4
    let k := (a + n - 1) / 4 + 1 - w0
    let (l, p, s) := (List.range k).foldl (fun (acc : List Byte × Bool × State) i =>
      let s := acc.2.2
      match s.globalSa ((w0 + i) * 4) with
      | some sa => let (w, p, s) := s.readWord sa; (acc.1 ++ wordBytes w, acc.2.1 || p, s)
      | none => (acc.1 ++ [0, 0, 0, 0], acc.2.1, s)) ([], false, s)
    ((l.drop (a % 4)).take n, p, s)

/-! ## Descriptor fields (R204) -/

abbrev Desc := List Word
def Desc.w (d : Desc) (n : Nat) : Word := d.getD n 0
def Desc.endB (d : Desc) : Bool := (d.w 0).getLsbD 31
def Desc.next (d : Desc) : Nat := bits (d.w 0) 22 6 * 64
def Desc.active (d : Desc) : Bool := (d.w 1).getLsbD 31
def Desc.idem (d : Desc) : Bool := (d.w 1).getLsbD 30
def Desc.cls (d : Desc) : Nat := bits (d.w 1) 29 28
def Desc.dirIn (d : Desc) : Bool := (d.w 1).getLsbD 27
def Desc.ep (d : Desc) : Nat := bits (d.w 1) 26 23
def Desc.addr (d : Desc) : Nat := bits (d.w 1) 22 16
def Desc.gen (d : Desc) : Nat := bits (d.w 1) 15 12
def Desc.pair (d : Desc) : Nat := bits (d.w 1) 11 7
def Desc.inst (d : Desc) : Nat := bits (d.w 1) 6 0
def Desc.nmax (d : Desc) : Nat := bits (d.w 2) 31 28
def Desc.mps (d : Desc) : Nat := bits (d.w 2) 12 0
def Desc.tlen (d : Desc) : Nat := (d.w 3).toNat
def Desc.pint (d : Desc) : Nat := bits (d.w 4) 31 16
def Desc.buf (d : Desc) : Nat := bits (d.w 4) 7 0 * 2 ^ 32 + (d.w 5).toNat
def Desc.dop (d : Desc) : Bool := (d.w 6).getLsbD 31
def Desc.dslot (d : Desc) : Nat := bits (d.w 6) 30 28
def Desc.dcairn (d : Desc) : Nat := bits (d.w 6) 15 0
def Desc.cop (d : Desc) : Bool := (d.w 7).getLsbD 31
def Desc.cslot (d : Desc) : Nat := bits (d.w 7) 30 28
def Desc.ccairn (d : Desc) : Nat := bits (d.w 7) 15 0
def Desc.oep (d : Desc) : Nat := bits (d.w 8) 26 23
def Desc.oaddr (d : Desc) : Nat := bits (d.w 8) 22 16
def Desc.ogen (d : Desc) : Nat := bits (d.w 8) 15 12
def Desc.omax (d : Desc) : Nat := bits (d.w 8) 8 0
def Desc.status (d : Desc) : Nat := bits (d.w 9) 31 24
def Desc.retried (d : Desc) : Bool := (d.w 9).getLsbD 22

/-- STATUS codes (R218). -/
def dOK : Nat := 0x01
def dSHORT : Nat := 0x02
def dNODATA : Nat := 0x03
def dSKIPPED : Nat := 0x10
def dMISSED : Nat := 0x11
def dTIMEOUT : Nat := 0x12
def dEXPIRED : Nat := 0x13
def dSTALLED : Nat := 0x20
def dLINK_LOST : Nat := 0x21
def dDEVICE_RESET : Nat := 0x22
def dPOISONED : Nat := 0x23
def dCANCELLED : Nat := 0x24
def dLENGTH_ERR : Nat := 0x25
def dHALTED : Nat := 0x26
def dSPOOF : Nat := 0x30
def dMALFORMED : Nat := 0x31

/-- Reads the descriptor at list memory address a in full, with its poison marks (R200). -/
def State.readDesc (s : State) (a : Nat) : Desc × List Bool × State :=
  let (l, s) := s.readWords (saList a) 16
  (l.map (·.1), l.map (·.2), s)
/-- The descriptor at a as it stands, without the effects of a read. -/
def State.peekDesc (s : State) (a : Nat) : Desc := (List.range 16).map (fun k => s.rawWord (saList a + 4 * k))

/-! ## Units of a root port -/

def Port.pipe (x : Port) (a : Nat) (din : Bool) (ep : Nat) : Pipe := smGet x.pipes {} (a * 32 + b2n din * 16 + ep)
def Port.setPipe (x : Port) (a : Nat) (din : Bool) (ep : Nat) (v : Pipe) : Port :=
  { x with pipes := smPut x.pipes {} (a * 32 + b2n din * 16 + ep) v }
def State.setPipe (s : State) (p a : Nat) (din : Bool) (ep : Nat) (v : Pipe) : State :=
  s.setPort p ((s.getPort p).setPipe a din ep v)
def State.pipe (s : State) (p a : Nat) (din : Bool) (ep : Nat) : Pipe := (s.getPort p).pipe a din ep
def State.xfer (s : State) (p a : Nat) : Option Xfer := smFind (s.getPort p).xfers a
def State.setXfer (s : State) (p a : Nat) (x : Xfer) : State :=
  s.setPort p { s.getPort p with xfers := smIns (s.getPort p).xfers a x }
def State.getWalk (s : State) (p : Nat) : Walk := (s.getPort p).walk
def State.setWalk (s : State) (p : Nat) (w : Walk) : State := s.setPort p { s.getPort p with walk := w }
/-- Link STATE of a root port (R113). -/
def State.lstate (s : State) (p : Nat) : Nat := s.rd R.EWZ_LSTAT_STATE p
def lDISC : Nat := 0
def lTRAIN : Nat := 1
def lL0 : Nat := 2
def lRECOV : Nat := 3
def lL1 : Nat := 4
def lL2 : Nat := 5
def lDISABLED : Nat := 6
def lENTRY : Nat := 7
def lRETRAIN : Nat := 8
/-- Block time, × 2.5 ps (R69). -/
def State.tblk (s : State) (p : Nat) : Nat :=
  match s.rd R.EWZ_LSTAT_RATE p with | 0 => 8448 | 1 => 4224 | _ => 2112
/-- Segment time in ns (R69). -/
def State.tseg (s : State) (p : Nat) : Nat :=
  match s.rd R.EWZ_LSTAT_RATE p with | 0 => 676 | 1 => 338 | _ => 169
/-- ADELAY of an address, ns × 1/16 (R173). -/
def State.adelay (s : State) (p a : Nat) : Nat :=
  if a = 0 then s.rd R.EWZ_ENUM_ADELAY0 p else s.rd R.EWZ_ADDRTAB1_ADELAY p a
/-- The entry of an address has VALID = 1 and LOST = 0 (R208). -/
def State.present (s : State) (p a : Nat) : Bool := s.on R.EWZ_ADDRTAB0_VALID p a && !s.on R.EWZ_ADDRTAB0_LOST p a

/-! ## Descriptor addresses the walker holds (R202) -/

/-- Addresses the walker of port p holds beside the resume point of the bulk list. -/
def Port.heldLists (x : Port) : List Nat :=
  let w := x.walk
  w.todo ++ w.retry ++ w.defer ++ w.starved ++ w.carry ++ w.c0 ++ w.set ++
    (match w.cont with | some c => [c.1] | none => []) ++
    (match x.cur with | some t => [t.desc] | none => []) ++ x.pairs.map (fun e => e.2.desc)
def State.heldAll (s : State) (p : Nat) : List Nat :=
  (s.getPort p).heldLists ++ (if s.on R.SCH_BULKPOS_VALID p then [s.rd R.SCH_BULKPOS_POS p * 64] else [])
/-- The walker lets go of an address read before LISTSYNC was set once it holds it no longer. -/
def State.reSync (s : State) (p : Nat) : State :=
  let w := s.getWalk p
  if w.sync.isEmpty then s else s.setWalk p { w with sync := w.sync.filter (fun a => (s.heldAll p).contains a) }
/-- The resume point moves (R197); an address read before LISTSYNC is let go first. -/
def State.setBulkPos (s : State) (p : Nat) (a : Option Nat) : State :=
  let s := (s.wr R.SCH_BULKPOS_VALID 0 p).reSync p
  match a with
  | some a => (s.wr R.SCH_BULKPOS_VALID 1 p).wr R.SCH_BULKPOS_POS (a / 64) p
  | none => s

/-! ## Completion (R205, R218, R255) -/

/-- A completion operand is offered at once, or held in the port's completion queue of 32 entries; where that is full it is
lost (R255). -/
def State.cqPush (s : State) (p : Nat) (e : CqEnt) : State :=
  let q := (s.getPort p).cq
  if 32 ≤ q.length then s.wr R.SCH_PSTAT_CQLOST 1 p
  else if q.any (fun x => x.c == e.c && x.slot == e.slot) then s.setPort p { s.getPort p with cq := q ++ [e] }
  else match s.offerFrom (.completion p) e.c e.slot e.w0 e.w1 with
    | (.refused, s) => s.setPort p { s.getPort p with cq := (s.getPort p).cq ++ [e] }
    | (_, s) => s

/-- What is written into a descriptor when it completes. -/
structure Compl where
  status : Nat
  ou : Bool := false
  bsusp : Bool := false
  done : Nat := 0
  w11 : Word := 0
  deriving DecidableEq, Repr

/-- DESCRIPTOR_COMPLETION: words 9–13, ACTIVE, the counts, the completion operand (R205, R218). `cop` false keeps the operand
back whatever word 7 says (R484). -/
def State.complete (s : State) (p a : Nat) (d : Desc) (btd : Bool) (c : Compl) (cop : Bool := true) : State :=
  let fnum := s.rd R.PTU_PFNUM_FNUM p
  let w9 := w32 (c.status * 2 ^ 24 + b2n c.ou * 2 ^ 23 + b2n d.retried * 2 ^ 22 + b2n c.bsusp * 2 ^ 21 + fnum)
  let s := s.storeWords (saList a + 36) [(w9, false), (w32 c.done, false), (c.w11, false), (s.nsLo, false),
    (w32 (s.ns.toNat / 2 ^ 32), false)]
  let s := if btd ∨ 0x20 ≤ c.status then
      s.storeWordP (saList a + 4) (setBits (s.rawWord (saList a + 4)) 31 31 0) (s.poisoned (saList a + 4))
    else s
  let s := match c.status with
    | 0x10 => (s.count R.SCH_PCNT0_SKIPPED p).wr R.SCH_PSTAT_POVR 1 p
    | 0x11 => (s.count R.SCH_PCNT0_MISSED p).wr R.SCH_PSTAT_POVR 1 p
    | 0x13 => s.count R.SCH_PCNT1_EXPIRED p
    | 0x30 => s.count R.SCH_PCNT2_SPOOF p
    | 0x31 => (s.count R.SCH_PCNT2_MALFORMED p).wr R.SCH_PSTAT_LISTERR 1 p
    | _ => s
  if cop && d.cop then
    s.cqPush p ⟨d.ccairn, d.cslot, w32 (c.status * 2 ^ 24 + b2n c.ou * 2 ^ 23 + a + p), w32 (2 * 2 ^ 28 + fnum)⟩
  else s

/-- NAKS and RETX of word 11. -/
def Xfer.w11 (x : Xfer) : Word := w32 (min 0xFFFF x.naks * 2 ^ 16 + min 0xFFFF x.retx)
/-- DATA of an OUT transfer has been sent (R176). -/
def Xfer.sentAny (x : Xfer) : Bool := decide (0 < x.sent)

/-- The transfer of descriptor a on port p ends with a STATUS; its progress, if any, is written (R205). -/
def State.endXfer (s : State) (p a : Nat) (d : Desc) (btd : Bool) (status : Nat) (ou : Bool) (cop : Bool := true) : State :=
  let x := (s.xfer p a).getD { btd := btd }
  let s := s.complete p a d btd { status := status, ou := ou, done := x.done, w11 := x.w11 } cop
  let y := s.getPort p
  let w := y.walk
  let no (l : List Nat) := l.filter (fun b => decide (b ≠ a))
  let w := if btd then w else
    { w with todo := no w.todo, retry := no w.retry, defer := no w.defer, starved := no w.starved, carry := no w.carry,
             fin := setAdd w.fin a, cont := match w.cont with | some (b, q) => if b = a then none else some (b, q) | none => none }
  (s.setPort p { y with xfers := smDel y.xfers a, walk := w }).reSync p
/-- OUTCOME_UNKNOWN of a transfer that ends by removal, reset or cancel (R176, R180, R203). -/
def State.ouOf (s : State) (p a : Nat) (d : Desc) : Bool :=
  !d.dirIn && (match s.xfer p a with | some x => x.sentAny | none => false)

/-! ## Reflex pairs (R219) -/

/-- SCH_RFXSTAT.OPEN counts the open pairs. -/
def State.syncOpen (s : State) (p : Nat) : State := s.wr R.SCH_RFXSTAT_OPEN (s.getPort p).pairs.length p
/-- An open pair completes and closes (R219). -/
def State.endPair (s : State) (p n status : Nat) (rlat : Nat := 0) : State :=
  match smFind (s.getPort p).pairs n with
  | none => s
  | some x =>
    let s := s.complete p x.desc x.words false
      { status := status, bsusp := x.bsusp, done := x.done, w11 := w32 (min 0xFFFF rlat * 2 ^ 16) }
    let y := s.getPort p
    let cur0 := match y.cur0 with | some t => if t.pair = n then none else some t | none => none
    ((s.setPort p { y with pairs := smDel y.pairs n, cur0 := cur0, emitq := y.emitq.erase n }).syncOpen p).reSync p

/-! ## Checks at the start of a transaction (R206–R208, R484) -/

/-- The MALFORMED checks of R206. -/
def State.descMalformed (s : State) (d : Desc) (btd : Bool) : Bool :=
  let c := d.cls
  let res := bits (d.w 0) 30 23 != 0 || bits (d.w 0) 5 0 != 0 || bits (d.w 2) 27 13 != 0 || bits (d.w 4) 15 8 != 0 ||
    bits (d.w 6) 27 16 != 0 || bits (d.w 7) 27 16 != 0 || bits (d.w 9) 20 16 != 0
  let kind := if btd then c == 0 || c == 1 else c == 3
  let class0 := if c = 0 then
      bits (d.w 8) 31 27 != 0 || bits (d.w 8) 11 9 != 0 || decide (256 < d.mps) || d.omax == 0 || decide (256 < d.omax) ||
      !d.dirIn || !d.dop || d.tlen == 0 || decide (256 < d.tlen)
    else d.pair != 0 || d.w 8 != 0
  let sizes := d.mps == 0 || decide (4096 < d.mps) || (!btd && decide (65536 < d.tlen))
  let mem := if d.dirIn then
      if d.dop then false
      else !s.mappedRange d.buf d.tlen || touchesFw d.buf d.tlen || touchesStage d.buf d.tlen
    else !s.mappedRange d.buf d.tlen || touchesFw d.buf d.tlen
  res || kind || class0 || sizes || mem
/-- DESCRIPTOR_SPOOF_CHECK: KIND and resource of each mismatch (R207, R371). -/
def State.descSpoof (s : State) (p : Nat) (d : Desc) : List (Nat × Nat) :=
  let i := d.inst
  (if s.ownsPipe i p d.addr (b2n d.dirIn) d.ep then [] else [(0x01, pipeIdx p d.addr (b2n d.dirIn) d.ep)]) ++
  (if d.dirIn && d.dop && !s.ownsCairn i d.dcairn then [(0x02, d.dcairn)] else []) ++
  (if d.cop && !s.ownsCairn i d.ccairn then [(0x02, d.ccairn)] else []) ++
  (if d.cls == 0 && !s.ownsPipe i p d.oaddr 0 d.oep then [(0x01, pipeIdx p d.oaddr 0 d.oep)] else [])
/-- GEN, or OGEN, names the device at its address (R208). -/
def State.genOk (s : State) (p a g : Nat) : Bool := s.present p a && s.rd R.EWZ_ADDRTAB0_GEN p a == g
/-- The checks of GEN and OGEN that fail, each a violation of its pipe (R208, R370, R371; log entry 185). -/
def State.descStale (s : State) (p : Nat) (d : Desc) : List (Nat × Nat) :=
  (if s.genOk p d.addr d.gen then [] else [(0x01, pipeIdx p d.addr (b2n d.dirIn) d.ep)]) ++
  (if d.cls == 0 && !s.genOk p d.oaddr d.ogen then [(0x01, pipeIdx p d.oaddr 0 d.oep)] else [])
/-- The root link can carry the device at all (R643). -/
def State.linkUp (s : State) (p : Nat) : Bool := !(s.lstate p == lDISC || s.lstate p == lTRAIN || s.lstate p == lDISABLED)
/-- The status a descriptor completes with at the start of a transaction, if a check fails (R206–R208, R484, R643). -/
def State.descCheck (s : State) (p : Nat) (d : Desc) (pois : List Bool) (btd : Bool) : Option Nat × State :=
  if pois.any id then (some dMALFORMED, s)
  else if s.descMalformed d btd then (some dMALFORMED, s)
  else match s.descSpoof p d with
    | v :: l => (some dSPOOF, s.forL (v :: l) (fun v s => s.violate d.inst v.1 p v.2))
    | [] =>
      let l := s.descStale p d
      let s := s.forL l (fun v s => s.violate d.inst v.1 p v.2)
      if !l.isEmpty || !s.linkUp p then (some dLINK_LOST, s) else (none, s)
/-- The chain ends at a descriptor (R196, R484). -/
def chainEnds (d : Desc) (pois : List Bool) : Bool := d.endB || pois.getD 0 false
/-- Completion operand allowed by the poison marks (R484). -/
def copOk (pois : List Bool) : Bool := !pois.getD 7 false

/-! ## Bursts and estimates (R184, R186, R209, R210) -/

/-- Blocks of a packet of payload L (R184). -/
def pBlocks (l : Nat) : Nat := if l = 0 then 4 else 4 + cdiv (l + 4) 8
/-- Packets of an OUT transfer (R209). -/
def Desc.packets (d : Desc) : Nat := max 1 (cdiv d.tlen d.mps)
/-- Payload lengths of packets k … of an OUT transfer, or the longest of an IN burst, n of them. -/
def Desc.lens (d : Desc) (k n : Nat) : List Nat :=
  (List.range n).map (fun j => if d.dirIn then d.mps else min d.mps (d.tlen - (k + j) * d.mps))
/-- Occupancy W of a burst of payloads l, × 2.5 ps (R184). -/
def State.estimate (s : State) (p a : Nat) (din : Bool) (l : List Nat) : Nat :=
  let sum := (l.map pBlocks).sum
  let b := if din then 8 + sum + 4 * (l.length - 1) else 8 + sum
  b * s.tblk p + 50 * s.adelay p a + (if din then 400 else 300) * 400
/-- W + GLEN ≤ PNEXT (R185). -/
def State.fits (s : State) (p w : Nat) : Bool := decide (w + s.rd R.SCH_GLEN_GLEN p * 400 ≤ s.rd R.PTU_PNEXT_NEXT p * 400)
/-- The largest burst of at most n packets that fits (R186). -/
def State.fitBurst (s : State) (p a : Nat) (din : Bool) (l : List Nat) : Nat → Option (Nat × Nat)
  | 0 => none
  | n + 1 =>
    let w := s.estimate p a din (l.take (n + 1))
    if s.fits p w then some (n + 1, w) else s.fitBurst p a din l n
/-- Packets of `len` bytes that the free packet buffer can take, at most `n` (R210). -/
def bufFit (len : Nat) : Nat → List (Nat × Nat) → Nat
  | 0, _ => 0
  | n + 1, use =>
    match bufPlaces use len with
    | [] => 0
    | a :: _ => 1 + bufFit len n ((a, len) :: use)
/-- CREDIT of an IN descriptor (R210). -/
def State.credit (s : State) (p : Nat) (d : Desc) : Nat :=
  let n := min 16 (d.nmax + 1)
  let n := min n (bufFit d.mps n (smGet s.bufUse [] p))
  if d.dop then
    let c := d.dcairn
    if s.drops c d.dslot then n
    else if s.outranked (.packet p) c d.dslot then 0
    else min n (s.cDepth c d.dslot - s.cCnt c d.dslot - s.reserved c d.dslot)
  else n

/-- CREDIT of a reply to the firmware: it has no descriptor, and its packets may be as long as a packet can be (R133, R163,
R210). -/
def State.fwCredit (s : State) (p : Nat) : Nat := bufFit 4096 16 (smGet s.bufUse [] p)

/-! ## Suspension of the reflex bound (R225) -/

/-- A clock-source switch of the engine, fabric or Eweiz domain is in progress. -/
def State.clkSusp (s : State) : Bool := [0, 1, 8, 9, 10, 11].any (fun d => s.on R.CLK_DSEL_SWPEND d)
/-- A rope under swap may serve a cairn of class-0 descriptor d. -/
def State.swapSusp (s : State) (d : Desc) : Bool :=
  s.swap.any (fun e =>
    (d.dop && nbit (s.rawWord (saCairn d.dcairn 2)).toNat e.1) || (d.cop && nbit (s.rawWord (saCairn d.ccairn 2)).toNat e.1))
/-- The bound is suspended for the open pairs of port p that `sel` names, with the report in field f. -/
def State.suspendPairs (s : State) (p : Nat) (f : Field) (sel : Desc → Bool) : State :=
  let x := s.getPort p
  if x.pairs.any (fun e => sel e.2.words) then
    ((s.wr f 1 p).wr R.EWZ_EVT_BNDSUSP 1 p).setPort p
      { x with pairs := x.pairs.map (fun e => if sel e.2.words then (e.1, { e.2 with bsusp := true }) else e) }
  else s
/-- A pair that opens while the bound is suspended joins the suspension (R89, R225). -/
def State.suspendNew (s : State) (p n : Nat) : State :=
  let s := if (s.getPort p).unbound then s.suspendPairs p R.SCH_RFXSTAT_SUSP_LINK (fun d => d.pair == n) else s
  let s := if s.clkSusp then s.suspendPairs p R.SCH_RFXSTAT_SUSP_CLK (fun d => d.pair == n) else s
  s.suspendPairs p R.SCH_RFXSTAT_SUSP_SWAP (fun d => d.pair == n && s.swapSusp d)

end Sys2Proof.Machine
end

