-- ==== Sys2Proof/Machine/Wq.lean ====
section
/-! DEFINITION. Work queues: fetch service, staging and its checks, delivery, doorbells, enabling and stopping a queue, head
records and queue errors (R392–R430). -/

namespace Sys2Proof.Machine

/-! ## Staging slots (R412) -/

/-- Slots taken by the jobs of a context. -/
def Wqc.slots (x : Wqc) (total : Nat) : List Nat := x.jobs.flatMap (fun j => (List.range j.n).map (fun k => (j.slot + k) % total))
/-- Free slots in a row from slot k. -/
def freeRun (used : List Nat) (total : Nat) : Nat → Nat → Nat
  | 0, _ => 0
  | n + 1, k => if used.contains k then 0 else 1 + freeRun used total n ((k + 1) % total)
/-- The job whose LAST entry has not been staged. -/
def Wqc.openJob (x : Wqc) : Option WJob := x.jobs.find? (fun j => j.st == .opened)
/-- Entries being read that will be staged. -/
def Wqc.inFlight (x : Wqc) : Nat := (x.reads.filter (fun r => !r.drop)).foldl (fun n r => n + r.n) 0
/-- The next slot, and how many follow it free of jobs and of entries being read; where nothing is open or being read the
longest free run is taken. -/
def Wqc.room (x : Wqc) (c : Nat) (cached : Bool) : Nat × Nat :=
  let t := ctxSlots c
  let used := x.slots t
  let fly := if cached then 0 else x.inFlight
  if x.openJob.isSome || fly != 0 then (x.nextSlot, freeRun used t t x.nextSlot - fly)
  else
    (List.range t).foldl (fun b k =>
      let q := (x.nextSlot + k) % t
      let n := freeRun used t t q
      if b.2 < n then (q, n) else b) (x.nextSlot, 0)
/-- Entries that may be staged: a job of 16 entries still takes its 17th, which breaks job order (R422). -/
def Wqc.roomFor (x : Wqc) (c : Nat) (cached : Bool) : Nat :=
  let n := (x.room c cached).2
  match x.openJob with
  | some j => if n = 0 ∧ j.n = ctxSlots c ∧ (cached ∨ x.inFlight = 0) then 1 else n
  | none => n

/-! ## Checks of a staged entry (R421–R424) -/

/-- The field checks of R421, order 2. -/
def entryMalformed (w : List Word) : Bool :=
  let f (n hi lo : Nat) : Nat := bits (w.getD n 0) hi lo
  f 0 23 7 != 0 || f 7 31 24 != 0 || (f 0 28 28 == 0 && (f 0 26 24 != 0 || f 2 31 16 != 0)) ||
  (f 0 27 27 == 0 && f 1 31 12 != 0) || (f 0 27 27 == 1 && (f 1 27 21 == 0 || f 1 27 21 == 127))
/-- The SPOOF checks of R421, order 4: KIND and resource of the first that fails.  KIND and resource of an INST that differs
are not stated. -/
def State.entrySpoof (s : State) (i : Nat) (w : List Word) : Option (Nat × Nat) × State :=
  let f (n hi lo : Nat) : Nat := bits (w.getD n 0) hi lo
  if f 0 6 0 ≠ i then
    let (k, s) := s.choose 11
    let (r, s) := s.draw
    (some (k + 1, r.toNat), s)
  else if f 0 27 27 = 1 ∧ ¬ s.ownsPipe i (f 1 31 28) (f 1 27 21) (f 1 16 16) (f 1 15 12) then
    (some (0x01, pipeIdx (f 1 31 28) (f 1 27 21) (f 1 16 16) (f 1 15 12)), s)
  else if f 1 11 0 ≠ 0 ∧ ¬ s.ownsFlow i (f 1 11 0) then (some (0x03, f 1 11 0), s)
  else if f 0 28 28 = 1 ∧ ¬ s.ownsCairn i (f 2 31 16) then (some (0x02, f 2 31 16), s)
  else (none, s)
/-- STAT of a staged entry, 0 where every check passes (R421).  A poisoned entry is MALFORMED (R484). -/
def State.entryStat (s : State) (c : Nat) (w : List (Word × Bool)) (own : Bool) : Nat × State :=
  let i := s.wqInst c
  let ws := w.map (·.1)
  let f (n hi lo : Nat) : Nat := bits (ws.getD n 0) hi lo
  let job := (s.getWq c).openJob
  if !own then (0x06, s)
  else if w.any (·.2) || entryMalformed ws then (0x02, s)
  else if f 0 30 30 == 0 && (match job with | some j => decide (16 ≤ j.n) | none => true) then (0x05, s)
  else match s.entrySpoof i ws with
    | (some (k, r), s) => (0x03, s.violate i k 0x60 r)
    | (none, s) => if f 0 27 27 = 1 ∧ ¬ s.genOk (f 1 31 28) (f 1 27 21) (f 1 20 17) then (0x04, s) else (0, s)

/-- The open job closes with CHAIN in each of its entries (R422, R423). -/
def State.chainOpen (s : State) (c : Nat) : State :=
  match (s.getWq c).openJob with
  | some j => s.retire c j 0x05
  | none => s
/-- The words of an entry are stored in the staging area; those of a poisoned completion make their mark there (R481, R482). -/
def State.stageWords (s : State) (a : Nat) (w : List (Word × Bool)) : State :=
  let s := s.storeWords a w
  if w.any (·.2) then s.notePois a else s
/-- Entry idx of queues 1–63 is staged and checked (R421–R423). -/
def State.stageJob (s : State) (c idx : Nat) (w : List (Word × Bool)) (own : Bool) : State :=
  let w0 := (w.getD 0 (0, false)).1
  let (stat, s) := s.entryStat c w own
  if stat ≠ 0 then (s.chainOpen c).retire c { first := idx, n := 1, slot := 0, st := .ready, cairn := 0 } stat
  else
    let s := if w0.getLsbD 30 then s.chainOpen c else s
    let x := s.getWq c
    let slot := x.nextSlot
    let st : JobSt := if w0.getLsbD 29 then .ready else .opened
    let jobs := match x.openJob with
      | some j => x.jobs.map (fun k => if k.first = j.first then { k with n := k.n + 1, st := st } else k)
      | none => x.jobs ++ [{ first := idx, n := 1, slot := slot, st := st, cairn := 0 }]
    let s := (s.setWq c { x with jobs := jobs, nextSlot := (slot + 1) % ctxSlots c }).stageWords (slotSa c slot) w
    s.syncStaged c
/-- Entry idx of a queue 0 is staged for the command processor; in cached mode one whose OWN is not the expected phase is
answered BAD_OWN (R409, R425, R437, R443). -/
def State.stageCmd (s : State) (c idx : Nat) (w : List (Word × Bool)) (own : Bool) : State :=
  let x := s.getWq c
  let slot := x.nextSlot
  let j : WJob := { first := idx, n := 1, slot := slot, st := .ready, cairn := 0 }
  if own then
    let s := (s.setWq c { x with jobs := x.jobs ++ [j], nextSlot := (slot + 1) % ctxSlots c }).stageWords (slotSa c slot) w
    { s.syncStaged c with cmds := { s.cmds with order := s.cmds.order ++ [c] } }
  else
    let cmd : Cmd := { ctx := c, idx := idx, words := w.map (·.1), wait := .toAct }
    let s := s.setWq c { x with jobs := x.jobs ++ [j] }
    s.writeReply c idx (replyWords cmd 0 stBAD_OWN 0 []) false false
/-- A fetched entry is staged. -/
def State.stage (s : State) (c idx : Nat) (w : List (Word × Bool)) (own : Bool) : State :=
  if c < 128 then s.stageCmd c idx w own else s.stageJob c idx w own

/-! ## Taking entries (R408, R409) -/

/-- FETCH goes on by n entries; the expected phase turns where it wraps (R398). -/
def State.fetchOn (s : State) (c n : Nat) : State :=
  let f := (s.rd R.WQ_QSTATE_FETCH c + n) % s.ringN c
  let s := if f = 0 ∧ 0 < n then s.wr R.WQ_QSTATE_PHASE (1 - s.rd R.WQ_QSTATE_PHASE c) c else s
  s.wr R.WQ_QSTATE_FETCH f c
/-- The words of entry k of what was read. -/
def entryAt (c : Nat) (l : List (Word × Bool)) (k : Nat) : List (Word × Bool) :=
  let n := entBytes c / 4
  (List.range n).map (fun i => l.getD (k * n + i) (0, false))
/-- The entries of a speculative read are taken up to the first that is not valid (R408). -/
def State.takeRead (s : State) (c : Nat) (r : RingRead) (l : List (Word × Bool)) : Nat → Nat → State
  | 0, _ => s
  | fuel + 1, k =>
    if r.n ≤ k then s
    else
      let idx := r.first + k
      let phase := if idx < s.rd R.WQ_QSTATE_FETCH c then s.rd R.WQ_QSTATE_PHASE c else 1 - s.rd R.WQ_QSTATE_PHASE c
      let w := entryAt c l k
      if (w.getD 0 (0, false)).1.getLsbD 31 = (phase == 1) then (s.stage c idx w true).takeRead c r l fuel (k + 1)
      else
        let s := (s.fetchBack c idx).count R.WQ_CNT1_REFETCH
        let x := s.getWq c
        s.setWq c { x with stopped := true, stopAt := s.ns.toNat, reads := x.reads.map (fun q => { q with drop := true }) }
/-- Entries of cached lines that TAIL has passed are taken (R409). -/
def State.takeLines (c : Nat) : Nat → State → State
  | 0, s => s
  | fuel + 1, s =>
    let x := s.getWq c
    let f := s.rd R.WQ_QSTATE_FETCH c
    let per := 256 / entBytes c
    let words := entBytes c / 4
    if f = s.rd R.WQ_QIDX_TAIL c ∨ x.roomFor c true = 0 ∨ ¬ (s.wqState c = 1 ∨ s.wqState c = 2) ∨
        s.inst (s.wqInst c) ≠ 1 ∨ s.wqf R.WQ_FCTL_PMODE c ≠ 1 then s
    else match x.lines.find? (fun l => decide (l.first ≤ f) && decide (f < l.first + l.words.length / words)) with
      | none => s
      | some l =>
        let w := entryAt c l.words (f - l.first)
        let own := (w.getD 0 (0, false)).1.getLsbD 31 == (s.rd R.WQ_QSTATE_PHASE c == 1)
        let s := s.setWq c { x with nextSlot := (x.room c true).1,
                                    lines := if f + 1 = l.first + per then x.lines.filter (· ≠ l) else x.lines }
        State.takeLines c fuel ((s.fetchOn c 1).stage c f w own)
/-- Takes what the cached lines of a context hold. -/
def State.takeCached (s : State) (c : Nat) : State := if s.wqf R.WQ_FCTL_PMODE c = 1 then State.takeLines c 16 s else s

/-! ## Fetch service (R405–R409) -/

/-- Entries that speculative mode allows from FETCH (R407, R408). -/
def State.specAllowed (s : State) (c : Nat) : Nat :=
  let n := s.ringN c
  if (s.getWq c).stopped then 0
  else n - 1 - (s.rd R.WQ_QSTATE_FETCH c + n - s.rd R.WQ_QIDX_HEAD c) % n
/-- First entry of the next line that cached mode reads: it holds an entry before TAIL that is neither cached nor being
read, and two lines are kept (R409). -/
def State.nextLine (s : State) (c : Nat) : Option Nat :=
  let x := s.getWq c
  let n := s.ringN c
  let per := 256 / entBytes c
  let words := entBytes c / 4
  let f := s.rd R.WQ_QSTATE_FETCH c
  let cnt := (s.rd R.WQ_QIDX_TAIL c + n - f) % n
  let have_ (i : Nat) : Bool :=
    x.lines.any (fun l => decide (l.first ≤ i) && decide (i < l.first + l.words.length / words)) ||
    x.reads.any (fun r => !r.drop && decide (r.first ≤ i) && decide (i < r.first + r.n))
  match ((List.range (min cnt (2 * per))).map (fun k => (f + k) % n)).find? (fun i => !have_ i) with
  | none => none
  | some i =>
    let l := i / per * per
    let kept := (x.lines.filter (fun q => q.first != l)).length + (x.reads.filter (fun r => !r.drop)).length
    if kept < 2 then some l else none
/-- Context c is eligible (R405). -/
def State.fetchable (s : State) (c : Nat) : Bool :=
  let x := s.getWq c
  let cached := s.wqf R.WQ_FCTL_PMODE c == 1
  s.wqState c == 1 && s.inst (s.wqInst c) == 1 && decide (x.reads.length < 4) && decide (0 < x.roomFor c cached) &&
  (if cached then (s.nextLine c).isSome else decide (0 < s.specAllowed c))
/-- BURST and WEIGHT as they act (R406, R407). -/
def State.burstOf (s : State) (c : Nat) : Nat := min 16 (max 1 (s.rd R.WQ_QARB_BURST c))
def State.weightOf (s : State) (c : Nat) : Nat := max 1 (s.rd R.WQ_QARB_WEIGHT c)
/-- One ring read of context c (R407–R409). -/
def State.grant (s : State) (c : Nat) : State :=
  let x := s.getWq c
  let cached := s.wqf R.WQ_FCTL_PMODE c == 1
  let f := s.rd R.WQ_QSTATE_FETCH c
  let (first, n) : Nat × Nat :=
    if cached then ((s.nextLine c).getD 0, 256 / entBytes c)
    else (f, min (min (s.burstOf c) (x.roomFor c false)) (min (s.ringN c - f) (s.specAllowed c)))
  let (t, s) := s.issueRead (.wq c) (s.wqInst c) (s.wqPasid c) (s.entAddr c first) (n * (entBytes c / 4))
  let s := s.setWq c { x with nextSlot := if cached then x.nextSlot else (x.room c false).1,
                              reads := x.reads ++ [{ first := first, n := n, tag := t, drop := false }] }
  if cached then s else s.fetchOn c n
/-- Contexts of a host port, ascending. -/
def State.portCtxs (s : State) (h : Nat) : List Nat := (List.range 2048).filter (fun c => s.wqValid c && s.wqInst c / 32 == h)
/-- The next grant of the rounds of host port h (R406). -/
def State.grantLoop (h : Nat) (cs : List Nat) : Nat → State → State
  | 0, s => s
  | fuel + 1, s =>
    let r := smGet s.fetch {} h
    let setR (s : State) (r : FetchSt) : State := { s with fetch := smPut s.fetch {} h r }
    match cs.find? (fun c => decide (r.pos ≤ c) && decide (r.pass ≤ s.weightOf c) && s.fetchable c) with
    | some c => (setR s { r with pos := c + 1, any := true }).grant c
    | none =>
      if r.any then State.grantLoop h cs fuel (setR s { pass := r.pass + 1, pos := 0, any := false })
      else State.grantLoop h cs fuel (setR s {})
/-- FETCH_GRANT (R406). -/
def execFetchGrant (h : HostNo) (s : State) : Host.Outcome State Fault Refusal :=
  act s (fun s =>
    let h := h.toNat
    let cs := s.portCtxs h
    let s := s.forL cs (fun c s => s.takeCached c)
    if s.on R.WQ_CTL_EN && decide (s.readsAt h < 256) then State.grantLoop h cs 4 s else s)

/-! ## Completion of ring reads (R408, R409) -/

/-- The reads of a context at the front whose words have arrived are taken, oldest first. -/
def State.drainReads (c : Nat) : Nat → State → State
  | 0, s => s
  | fuel + 1, s =>
    let x := s.getWq c
    match x.reads with
    | [] => s
    | r :: rs =>
      match r.got with
      | none => s
      | some l =>
        let s := s.setWq c { x with reads := rs }
        let s : State :=
          if r.drop then s
          else if s.wqf R.WQ_FCTL_PMODE c = 1 then
            s.setWq c { s.getWq c with lines := (s.getWq c).lines.filter (fun q => decide (q.first ≠ r.first)) ++
              [{ first := r.first, words := l }] }
          else s.takeRead c r l 17 0
        State.drainReads c fuel s
/-- The words of the ring read with tag t have arrived. -/
def State.ringArrive (s : State) (c t : Nat) (data : List Word) (ep : Bool) : State :=
  let x := s.getWq c
  let h := s.wqInst c / 32
  let s := { s with hostReads := smDel s.hostReads (h * 1024 + t) }
  let s := s.setWq c { x with reads := x.reads.map (fun r =>
    if r.tag = t ∧ r.got.isNone then
      { r with got := some ((List.range (r.n * (entBytes c / 4))).map (fun k => (data.getD k 0, ep))) }
    else r) }
  (State.drainReads c 4 s).takeCached c
/-- A received TLP with EP = 1 (R385). -/
def State.poisonRx (s : State) (h : Nat) (ep : Bool) : State :=
  if ep then ((s.wr R.HPC_ERR_POISONRX 1 h).count R.HPC_CNT0_POISONRX h).emit (.aerPoison h) else s
/-- A completion for a read issued before an FLR is dropped (R379). -/
def State.dropCpl (s : State) (h t : Nat) : State :=
  let s := s.count R.HPC_CNT1_DROPCPL h
  match smFind s.hostReads (h * 1024 + t) with
  | some { who := .wq c, .. } =>
    let x := s.getWq c
    { s with hostReads := smDel s.hostReads (h * 1024 + t) }.setWq c
      { x with reads := x.reads.filter (fun r => decide (r.tag ≠ t)) }
  | _ => { s with hostReads := smDel s.hostReads (h * 1024 + t) }
/-- RING_READ_COMPLETE (R408): the oldest ring read of the context that has not been answered completes with its data. -/
def execRingReadComplete (c : CtxNo) (data : List Word) (ep : Bool) (s : State) : Host.Outcome State Fault Refusal :=
  act s (fun s =>
    let c := c.toNat
    let h := s.wqInst c / 32
    let s := s.poisonRx h ep
    match (s.getWq c).reads.find? (fun r => r.got.isNone) with
    | none => s
    | some r =>
      match smFind s.hostReads (h * 1024 + r.tag) with
      | some q => if q.flr then s.dropCpl h r.tag else (s.translated h q).ringArrive c r.tag data ep
      | none => s)
/-- REPOLL_EXPIRY (R408). -/
def execRepollExpiry (c : CtxNo) (s : State) : Host.Outcome State Fault Refusal :=
  act s (fun s =>
    let c := c.toNat
    let x := s.getWq c
    let r := s.rd R.WQ_QARB_REPOLL c
    if x.stopped && decide (0 < r) && decide (x.stopAt + 1000 * r ≤ s.ns.toNat) then s.setWq c { x with stopped := false } else s)

/-! ## Configuration, doorbells (R392–R394, R402, R403, R410) -/

/-- QUEUE_CONFIG_WRITE (R392, R394, R433). -/
def execQueueConfigWrite (fn : InstNo) (c : CtxNo) (val : Word) (s : State) : Host.Outcome State Fault Refusal :=
  act s (fun s => s.gated fn.toNat (R.WQ_QCFG_VALID.off c.toNat) (fun s =>
    let c := c.toNat
    let i := bits val 22 16
    let q := bits val 5 0
    let dup := val.getLsbD 31 && (match s.wqCtx i q with | some d => d != c | none => false)
    if c < 128 then s
    else if s.wqState c ≠ 0 ∨ q = 0 ∨ dup then s.wr R.WQ_STAT_CFGERR 1
    else ((s.wr R.WQ_QCFG_VALID (bits val 31 31) c).wr R.WQ_QCFG_INST i c).wr R.WQ_QCFG_QNUM q c))

/-- INV = 1 discards what is cached at or beyond the previous TAIL (R410). -/
def State.invalidate (s : State) (c tail : Nat) : State :=
  if s.wqf R.WQ_FCTL_PMODE c = 1 then
    let x := s.getWq c
    let n := s.ringN c
    let words := entBytes c / 4
    let f := s.rd R.WQ_QSTATE_FETCH c
    let keep := (tail + n - f) % n
    let cut (l : RingLine) : RingLine :=
      let k := (List.range (l.words.length / words)).takeWhile (fun k => decide ((l.first + k + n - f) % n < keep) || decide (l.first + k < f))
      { l with words := l.words.take (k.length * words) }
    let stale (r : RingRead) : Bool := (List.range r.n).any (fun k => decide (keep ≤ (r.first + k + n - f) % n) && decide (f ≤ r.first + k ∨ r.first + r.n ≤ f))
    s.setWq c { x with lines := (x.lines.map cut).filter (fun l => !l.words.isEmpty),
                       reads := x.reads.map (fun r => if stale r then { r with drop := true } else r) }
  else s
/-- DOORBELL (R393, R402, R403, R408–R410). -/
def execDoorbell (fn : InstNo) (q : BitVec 6) (val : Word) (s : State) : Host.Outcome State Fault Refusal :=
  act s (fun s =>
    match s.wqCtx fn.toNat q.toNat with
    | none => s.wr R.WQ_FSTAT_DBERR 1 fn.toNat q.toNat
    | some c =>
      let tail := bits val 15 0
      if bits val 31 17 ≠ 0 ∨ s.ringN c ≤ tail then s.wqfSet R.WQ_FSTAT_DBERR 1 c
      else
        let s := if val.getLsbD 16 then s.invalidate c (s.rd R.WQ_QIDX_TAIL c) else s
        let s := s.wr R.WQ_QIDX_TAIL tail c
        if s.wqState c = 1 ∨ s.wqState c = 2 then (s.setWq c { s.getWq c with stopped := false }).takeCached c else s)

/-! ## Enabling and stopping (R401, R427, R434) -/

/-- A write of WQ_FCTL: it is discarded where LOG2N is out of range, or where it changes more than EN and IEN of a queue
that is not OFF (R434). -/
def State.fctlOk (s : State) (c : Nat) (val : Word) : Bool × State :=
  let n := bits val 8 4
  if n < 4 ∨ 16 < n then (false, s.wqfSet R.WQ_FSTAT_CFGERR 1 c)
  else if s.wqState c ≠ 0 ∧ (n ≠ s.wqf R.WQ_FCTL_LOG2N c ∨ bits val 1 1 ≠ s.wqf R.WQ_FCTL_PMODE c) then
    (false, s.wqfSet R.WQ_FSTAT_CFGERR 1 c)
  else (true, s)
/-- The fields of WQ_FCTL. -/
def State.fctlSet (s : State) (c : Nat) (val : Word) (en : Nat) : State :=
  (((s.wqfSet R.WQ_FCTL_LOG2N (bits val 8 4) c).wqfSet R.WQ_FCTL_IEN (bits val 2 2) c).wqfSet
    R.WQ_FCTL_PMODE (bits val 1 1) c).wqfSet R.WQ_FCTL_EN en c
/-- Indices, phase and working state of a queue at the values of R401. -/
def State.wqClearIdx (s : State) (c : Nat) : State :=
  let s := ((s.wr R.WQ_QIDX_TAIL 0 c).wr R.WQ_QIDX_HEAD 0 c).wr R.WQ_QSTATE_FETCH 0 c
  let s := (s.wr R.WQ_QSTATE_PHASE 1 c).wqfSet R.WQ_FHEAD_HEAD 0 c
  (s.setWq c { reads := (s.getWq c).reads }).syncStaged c
/-- QUEUE_ENABLE (R401). -/
def execQueueEnable (fn : InstNo) (q : BitVec 6) (val : Word) (s : State) : Host.Outcome State Fault Refusal :=
  act s (fun s =>
    match s.wqCtx fn.toNat q.toNat with
    | none => s
    | some c =>
      match s.fctlOk c val with
      | (false, s) => s
      | (true, s) =>
        let off := s.wqState c == 0
        let s := s.fctlSet c val 1
        if off then (s.wqClearIdx c).setWqState c 1 else s)

/-- The registers of a function's queue return to their reset values, its context's state with them (R376). -/
def State.wqReset (s : State) (c : Nat) : State :=
  let s := s.wqClearIdx c
  [R.WQ_FSTAT_LASTERR, R.WQ_FSTAT_CFGERR, R.WQ_FSTAT_DBERR, R.WQ_FSTAT_QERR, R.WQ_FSTAT_HPEND, R.WQ_FCTL_LOG2N,
   R.WQ_FCTL_IEN, R.WQ_FCTL_PMODE, R.WQ_FCTL_EN, R.WQ_FRBLO_BASE, R.WQ_FRBHI_BASE_HI, R.WQ_FHALO_ADDR, R.WQ_FHAHI_ADDR_HI,
   R.WQ_FPASID_EN, R.WQ_FPASID_PASID].foldl (fun s f => s.wqfSet f f.rst c) s
/-- A command of queue 0 that was staged and not taken is answered ABORTED (R427, R441). -/
def State.abortStaged (s : State) (c : Nat) (j : WJob) : State :=
  let ws := (List.range 16).map (fun k => s.rawWord (slotSa c j.slot + 4 * k))
  let (core, s) := s.choose 5
  let s := s.count R.WQ_CNT1_ABORTED
  s.writeReply c j.first (replyWords { ctx := c, idx := j.first, words := ws, wait := .toAct } core stABORTED 0 []) false false
/-- Commands of queue 0 that wait inside a row marked L are answered ABORTED (R441). -/
def State.abortWaits (s : State) (c : Nat) : State :=
  s.forL s.cmds.cmd (fun e s =>
    let open_ : Bool := match e.2.wait with
      | .toAct => false
      | .cancel _ => false
      | _ => true
    if e.2.ctx = c ∧ open_ = true then
      let s := s.fail e.1 stABORTED 0
      s.forN 16 (fun p s =>
        let x := s.getPort p
        match x.enum with
        | some j => if j.core = some e.1 then s.setPort p { x with enum := some { j with core := none } } else s
        | none => s)
    else s)
/-- A queue begins to stop: reads in flight are discarded and undelivered jobs end ABORTED (R427, R441). -/
def State.stopQueue (s : State) (c : Nat) (silent : Bool) : State :=
  let x := s.getWq c
  let cached := s.wqf R.WQ_FCTL_PMODE c == 1
  let s := match (if cached then none else x.reads.find? (fun r => !r.drop)) with
    | some r => s.fetchBack c r.first
    | none => s
  let s := s.setWq c { x with reads := x.reads.map (fun r => { r with drop := true }), lines := [], silent := x.silent || silent }
  let s := s.setWqState c 3
  let jobs := x.jobs.filter (fun j => j.st != .delivered)
  if c < 128 then
    let s := s.forL jobs (fun j s => s.abortStaged c j)
    { s with cmds := { s.cmds with order := s.cmds.order.filter (· ≠ c) } }.abortWaits c
  else s.forL jobs (fun j s => s.retire c j 0x01)
/-- QUEUE_STOP (R427, R430). -/
def execQueueStop (fn : InstNo) (q : BitVec 6) (val : Word) (s : State) : Host.Outcome State Fault Refusal :=
  act s (fun s =>
    match s.wqCtx fn.toNat q.toNat with
    | none => s
    | some c =>
      match s.fctlOk c val with
      | (false, s) => s
      | (true, s) =>
        let st := s.wqState c
        let s := s.fctlSet c val 0
        if st = 0 ∨ st = 3 then s else s.stopQueue c (st == 4 || (s.getFunc fn.toNat).mute))

/-- HEAD is written to host memory (R417, R420). -/
def State.headRecord (s : State) (c : Nat) : State :=
  let h := s.rd R.WQ_QIDX_HEAD c
  let s := s.setWq c { s.getWq c with headWait := false }
  if s.wqWrites c then
    let a := s.wqf R.WQ_FHAHI_ADDR_HI c * 2 ^ 32 + s.wqf R.WQ_FHALO_ADDR c * 4
    let s := (s.emit (.hostWrite (s.wqInst c) (s.wqPasid c) a (wordBytes (w32 h)) false)).wqfSet R.WQ_FHEAD_HEAD h c
    if s.wqf R.WQ_FCTL_IEN c = 1 then s.wqfSet R.WQ_FSTAT_HPEND 1 c else s
  else s
/-- HEAD_RECORD_WRITE (R417). -/
def execHeadRecordWrite (c : CtxNo) (s : State) : Host.Outcome State Fault Refusal :=
  act s (fun s => if (s.getWq c.toNat).headWait then s.headRecord c.toNat else s)
/-- Entry i, never staged, is answered ABORTED as step 4 of R427 asks (R424, R436). -/
def State.abortUnread (s : State) (c i : Nat) : State :=
  if c < 128 then
    let s := s.count R.WQ_CNT1_ABORTED
    if s.wqWrites c then
      s.emit (.hostWrite (s.wqInst c) (s.wqPasid c) (s.entAddr c i + 2) [BitVec.ofNat 8 stABORTED] false)
    else s
  else s.statWrite c i 0x01
/-- Steps 4 and 5 of R427. -/
def State.stopDone (s : State) (c : Nat) : State :=
  let n := s.ringN c
  let h := s.rd R.WQ_QIDX_HEAD c
  let f := s.rd R.WQ_QSTATE_FETCH c
  let dt := (s.rd R.WQ_QIDX_TAIL c + n - h) % n
  let df := (f + n - h) % n
  let s := s.forN (dt - df) (fun k s => s.abortUnread c ((f + k) % n))
  let s := s.wr R.WQ_QIDX_HEAD ((h + max dt df) % n) c
  let s := (s.headRecord c).setWqState c 0
  let x := s.getWq c
  let s := s.setWq c { x with done := [], silent := false, clear := false }
  if x.clear then s.wqReset c else s
/-- QUEUE_STOP_COMPLETE (R427). -/
def execQueueStopComplete (c : CtxNo) (s : State) : Host.Outcome State Fault Refusal :=
  act s (fun s =>
    let c := c.toNat
    let x := s.getWq c
    if s.wqState c = 3 ∧ x.jobs.isEmpty ∧ x.reads.isEmpty then s.stopDone c else s)
/-- A context is disabled and cleared by reset actions (R376, R380). -/
def State.wqDisable (s : State) (c : Nat) (silent : Bool) : State :=
  if s.wqState c = 0 then s.wqReset c
  else
    let s := (s.wqfSet R.WQ_FCTL_EN 0 c).setWq c { s.getWq c with clear := true }
    if s.wqState c = 3 then s.setWq c { s.getWq c with silent := (s.getWq c).silent || silent }
    else s.stopQueue c (silent || s.wqState c == 4)

/-! ## Delivery and errors (R413, R429) -/

/-- JOB_OFFER (R413): the first undelivered job of the queue, once every entry of it has been staged. -/
def execJobOffer (c : CtxNo) (s : State) : Host.Outcome State Fault Refusal :=
  act s (fun s =>
    let c := c.toNat
    let x := s.getWq c
    match x.jobs.find? (fun j => j.st != .delivered) with
    | none => s
    | some j =>
      if c < 128 ∨ j.st ≠ .ready then s
      else
        let (cairn, slot) := s.jobTarget c j
        let set (s : State) (st : JobSt) : State :=
          let x := s.getWq c
          s.setWq c { x with jobs := x.jobs.map (fun k => if k.first = j.first then { k with st := st, cairn := cairn } else k) }
        let w1 := w32 (5 * 2 ^ 28 + c * 65536 + j.first)
        match (set s .delivered).offerFrom (.queue c) cairn slot (w32 (slotSa c j.slot)) w1 with
        | (.refused, s) => if s.wqState c = 1 then (set s .ready).setWqState c 2 else set s .ready
        | (_, s) => (if s.wqState c = 2 then s.setWqState c 1 else s).takeCached c)

/-- A read or write for a queue failed: the queue is in ERROR (R429). -/
def State.wqError (s : State) (c : Nat) : State :=
  let s := (s.wqfSet R.WQ_FSTAT_QERR 1 c).wr R.WQ_STAT_QERR 1
  let x := s.getWq c
  let s := s.setWq c { x with reads := x.reads.map (fun r => { r with drop := true }), lines := [], headWait := false }
  if s.wqState c = 1 ∨ s.wqState c = 2 then
    (s.setWqState c 4).wqfSet R.WQ_FHEAD_HEAD (s.rd R.WQ_QIDX_HEAD c) c
  else s.setWq c { s.getWq c with silent := true }

end Sys2Proof.Machine
end

