-- ==== Sys2Proof/Machine/Dma.lean ====
section
/-! DEFINITION. The DMA engine: channels, their descriptors, the datapath's beats, pulses and bus errors (R499–R523). -/

namespace Sys2Proof.Machine

/-- The instance that owns channel c: the lowest that has it in VIM_IDMA, else the manager (R367, log entry 13). -/
def State.chanOwner (s : State) (c : Nat) : Nat :=
  ((List.range 128).find? (fun i => nbit (s.rd R.VIM_IDMA_CHAN i) c)).getD s.mgr
/-- PASID of a channel's host requests (R503). -/
def State.chanPasid (s : State) (c : Nat) : Option Nat :=
  if s.on R.DMA_CPASID_EN c then some (s.rd R.DMA_CPASID_PASID c) else none
/-- The channels may run: EN = 1 and no halt (R518, R523). -/
def State.dmaGo (s : State) : Bool := s.on R.DMA_CTL_EN && !s.on R.DMA_STAT_HALT
/-- Global address of descriptor IDX (R504). -/
def State.chanDescAddr (s : State) (c : Nat) : Nat :=
  s.rd R.DMA_CRBHI_BASE_HI c * 2 ^ 32 + s.rd R.DMA_CRBLO_BASE c * 4096 + s.rd R.DMA_CIDX_IDX c * 32

/-! ## Checks of a descriptor (R511) -/

/-- Check 1 of R511. -/
def DmaDesc.malformed (d : DmaDesc) : Bool :=
  d.f 0 13 0 != 0 || d.f 6 31 16 != 0 || d.ptgt == 3 || (d.ptgt != 1 && (d.pslot != 0 || d.pcairn != 0)) ||
  (d.ptgt != 2 && d.pchan != 0) || (!d.shost && decide (2 ^ 40 ≤ d.src)) || (!d.dhost && decide (2 ^ 40 ≤ d.dst)) ||
  (d.sfix && d.src % 64 != 0) || (d.dfix && d.dst % 64 != 0) || (d.swap != 0 && d.len % 4 != 0)
/-- The n bytes from a lie in granted ranges of instance i. -/
def State.grantedAll (s : State) (i a n : Nat) (write : Bool) : Bool :=
  n == 0 || (List.range ((a + n - 1) / 65536 + 1 - a / 65536)).all (fun k => s.granted i ((a / 65536 + k) * 65536) write)
/-- Check 2 of R511: KIND of the violation. -/
def State.dmaSpoof (s : State) (c : Nat) (d : DmaDesc) : Option Nat :=
  let i := s.chanOwner c
  let span (fixed : Bool) : Nat := if fixed then min 64 d.len else d.len
  if i = s.mgr then none
  else if !d.shost && !s.grantedAll i d.src (span d.sfix) false then some 0x05
  else if !d.dhost && !s.grantedAll i d.dst (span d.dfix) true then some 0x05
  else if d.ptgt == 1 && !s.ownsCairn i d.pcairn then some 0x02
  else if d.ptgt == 2 && !s.ownsChan i d.pchan then some 0x07
  else none

/-! ## Bus errors (R517, R518) -/

/-- Every channel that is RUN, IDLE or PULSE enters HALTED. -/
def State.haltChannels (s : State) : State :=
  s.forN 16 (fun c s =>
    let st := s.chanState c
    if st = 1 ∨ st = 2 ∨ st = 3 then
      ((s.setChan c { s.getChan c with was := st }).setChanState c 4).wr R.DMA_CSTAT_HALTED 1 c
    else s)
/-- DMA_BUS_ERROR (R518): causes 1 UR, 2 CA, 3 completion timeout, 4 no translation, 5 unmapped, 6 address parity. -/
def State.busError (s : State) (c cause : Nat) (write : Bool) (addr : Nat) : State :=
  let s := ((s.count R.DMA_CNT0_BUSERR).wr R.DMA_STAT_BUSERR 1).report (0x4000 + c) 0x7000 (0x30 + cause)
  let s := (s.wr R.DMA_CSTAT_BUSERR 1 c).setChan c { s.getChan c with met := true }
  if s.on R.DMA_STAT_HALT then s
  else
    let s := ((s.wr R.DMA_ERR0_VALID 1).wr R.DMA_ERR0_CAUSE cause).wr R.DMA_ERR0_WRITE (b2n write)
    let s := (s.wr R.DMA_ERR0_CHAN c).wr R.DMA_ERR0_INDEX (s.rd R.DMA_CIDX_IDX c)
    let s := (s.wr R.DMA_ERR1_ADDR (addr % 2 ^ 32)).wr R.DMA_ERR2_ADDR (addr / 2 ^ 32)
    (s.wr R.DMA_STAT_HALT 1).haltChannels
/-- An on-chip access of channel c that fails: cause and address; an address parity failure is also counted in unit 15, and the read
it meets is delivered poisoned (R480, R517). -/
def State.dmaFault (s : State) (c cause : Nat) (write : Bool) (addr : Nat) : State :=
  let s := match s.globalSa addr with
    | some sa => if cause = 6 then (s.setUpset sa 0).notePar 15 (sa / 4 * 4) (!write) else s
    | none => s
  s.busError c cause write addr
/-- An access of channel c to the firmware region is recorded (R372, R606). -/
def State.dmaFw (s : State) (c : Nat) : State := s.violate (s.chanOwner c) 0x05 (0x50 + c) (s.rd R.DMA_CIDX_IDX c)

/-- The first byte of a … a + n − 1 that is not mapped (R271). -/
def State.unmappedAt (s : State) (a n : Nat) : Option Nat := ((List.range n).map (a + ·)).find? (fun b => (s.globalSa b).isNone)
/-- The first byte of a … a + n − 1 whose word meets an address parity failure (R480). -/
def State.parityAt (s : State) (a n : Nat) : Option Nat :=
  ((List.range n).map (a + ·)).find? (fun b => match s.globalSa b with
    | some sa => smGet s.upset 0 (sa / 4) == 4
    | none => false)
/-- The failure an access of n bytes from global address a meets: cause and address (R517). -/
def State.dmaFailure (s : State) (a n : Nat) : Option (Nat × Nat) :=
  match s.unmappedAt a n with
  | some b => some (5, b)
  | none => match s.parityAt a n with
    | some b => some (6, b)
    | none => none

/-! ## Moving bytes (R482, R506, R507) -/

/-- Reads n bytes from global address a, each with the mark of its word. -/
def State.readMarked (s : State) (a n : Nat) : List (Byte × Bool) × State :=
  let w0 := a / 4
  let (l, s) := (List.range ((a + n + 3) / 4 - w0)).foldl (fun (acc : List (Byte × Bool) × State) k =>
    let s := acc.2
    match s.globalSa ((w0 + k) * 4) with
    | some sa => let (w, p, s) := s.readWord sa; (acc.1 ++ (wordBytes w).map (·, p), s)
    | none => (acc.1 ++ [(0, false), (0, false), (0, false), (0, false)], s)) ([], s)
  ((l.drop (a % 4)).take n, s)
/-- Writes bytes with marks from global address a: a word takes the mark of any of its bytes.  A shut instruction memory refuses
them (R272; log entry 184). -/
def State.writeMarked (full : Bool) : Nat → State → Nat → List (Byte × Bool) → State
  | 0, s, _, _ => s
  | fuel + 1, s, a, l =>
    match l, (if s.imemShut a then none else s.globalSa a) with
    | [], _ => s
    | _ :: rest, none => State.writeMarked full fuel s (a + 1) rest
    | (b, p) :: rest, some sa =>
      if a % 4 = 0 ∧ 4 ≤ l.length then
        let q := (l.take 4).any (·.2)
        let w := bytesWord ((l.take 4).map (·.1))
        let s :=
          if 0x1034000000 ≤ sa ∧ sa < 0x1034100000 then s
          else if 0x1020800000 ≤ sa ∧ sa < 0x1020C00000 then s.cairnWrite (sa - 0x1020800000) 4 w q
          else (if full then s else s.burstMerge sa (some sa)).storeWordP sa w q
        State.writeMarked full fuel s (a + 4) (l.drop 4)
      else
        let s := s.storeAt sa 1 (b.zeroExtend 32)
        let s := if p ∧ ¬ (0x1034000000 ≤ sa ∧ sa < 0x1034100000) then s.setPoison sa true else s
        State.writeMarked full fuel s (a + 1) rest
/-- The next n staged bytes as they are written, at stream position `pos` (R507). -/
def swapped (m pos : Nat) (l : List (Byte × Bool)) (n : Nat) : List (Byte × Bool) :=
  let any4 (k : Nat) : Bool := (List.range 4).any (fun j => (l.getD (k / 4 * 4 + j) (0, false)).2)
  (List.range n).map (fun k =>
    let (b, p) := l.getD (Nat.xor k m) (0, false)
    (b, if m = 0 ∨ pos % 4 ≠ 0 then p else any4 k))

/-- Bytes of the next beat of a stream at position `pos`. -/
def beatLen (d : DmaDesc) (pos : Nat) : Nat := min 64 (d.len - pos)
/-- Room of the staging buffer that no read has claimed (R499, R503). -/
def Chan.room (x : Chan) : Nat := 4096 - (x.buf.length + x.reads.foldl (fun n r => n + r.n) 0)
/-- Address of the next read of a descriptor, and its bytes; a read of host memory is no longer than `m`, the Max Read Request Size
(R356, R503, R506). -/
def nextRead (m : Nat) (d : DmaDesc) (x : Chan) : Nat × Nat :=
  if d.sfix then (d.src, beatLen d x.rdN)
  else
    let a := d.src + x.rdN
    if d.shost then (a, min (min (d.len - x.rdN) (4096 - a % 4096)) m) else (a, beatLen d x.rdN)
/-- The channel may take a read beat (R501, R503). -/
def State.mayRead (s : State) (c : Nat) : Bool :=
  let x := s.getChan c
  match x.desc with
  | none => false
  | some d =>
    s.chanState c == 1 && !x.skip && decide (x.rdN < DmaDesc.len d) && decide ((nextRead (s.mrrs (s.chanOwner c)) d x).2 ≤ x.room) &&
    (!DmaDesc.shost d || decide (s.readsAt (s.chanOwner c / 32) < 256))
/-- The channel may take a write beat (R501). -/
def State.mayWrite (s : State) (c : Nat) : Bool :=
  let x := s.getChan c
  match x.desc with
  | none => false
  | some d => s.chanState c == 1 && !x.skip && decide (x.wrN < DmaDesc.len d) && decide (beatLen d x.wrN ≤ x.buf.length)

/-- One read beat of channel c. -/
def State.readBeat (s : State) (c : Nat) : State :=
  let x := s.getChan c
  match x.desc with
  | none => s
  | some d =>
    let (a, n) := nextRead (s.mrrs (s.chanOwner c)) d x
    if DmaDesc.shost d then
      let (t, s) := s.issueRead (.dma c) (s.chanOwner c) (s.chanPasid c) (a / 4 * 4) ((a % 4 + n + 3) / 4)
      s.setChan c { s.getChan c with rdN := x.rdN + n, reads := x.reads ++ [{ tag := t, addr := a, n := n }] }
    else match s.dmaFailure a n with
      | some (cause, b) => s.dmaFault c cause false b
      | none =>
        let fw := meets a n 0x1020700000 0x1020800000
        let (l, s) := s.readMarked a n
        let l := (List.range l.length).map (fun k =>
          if 0x1020700000 ≤ a + k ∧ a + k < 0x1020800000 then (0xFF, false) else l.getD k (0, false))
        let s := if fw then s.dmaFw c else s
        s.setChan c { s.getChan c with rdN := x.rdN + n, buf := x.buf ++ l }
/-- One write beat of channel c. -/
def State.writeBeat (s : State) (c : Nat) : State :=
  let x := s.getChan c
  match x.desc with
  | none => s
  | some d =>
    let n := beatLen d x.wrN
    let l := swapped (DmaDesc.swap d) x.wrN x.buf n
    let a := if DmaDesc.dfix d then DmaDesc.dst d else DmaDesc.dst d + x.wrN
    let done (s : State) : State := s.setChan c { s.getChan c with wrN := x.wrN + n, buf := x.buf.drop n }
    if DmaDesc.dhost d then
      let ep := l.any (·.2)
      let i := s.chanOwner c
      let s := if ep then s.poisonTx (i / 32) else s
      let s := if (s.getFunc i).mute then s else s.emit (.hostWrite i (s.chanPasid c) a (l.map (·.1)) ep)
      done s
    else match s.dmaFailure a n with
      | some (cause, b) => s.dmaFault c cause true b
      | none =>
        if meets a n 0x1020700000 0x1020800000 then
          let k := 0x1020700000 - a
          done ((if a < 0x1020700000 then State.writeMarked false n s a (l.take k) else s).dmaFw c)
        else done (State.writeMarked (a % 64 == 0 && n == 64) n s a l)

/-- The turn of a priority is channel c's and not over. -/
def turnHeld (t : SMap Turn) (prio c : Nat) : Bool :=
  match smFind t prio with
  | some t => t.c == c && decide (t.n < 4096)
  | none => false
/-- Who takes a beat: at the best priority, the channel that has the turn, else the next in rotation (R501). -/
def State.pickChan (s : State) (t : SMap Turn) (cs : List Nat) : Option Nat :=
  let best := cs.foldl (fun b c => min b (s.rd R.DMA_CCFG_PRIO c)) 3
  let l := cs.filter (fun c => s.rd R.DMA_CCFG_PRIO c == best)
  match smFind t best with
  | none => l.head?
  | some t =>
    if l.contains t.c ∧ t.n < 4096 then some t.c
    else match l.find? (fun c => decide (t.c < c)) with
      | some c => some c
      | none => l.head?
/-- The turns after channel c of a priority has moved n bytes: a turn is over after 4 KiB, or where the channel has nothing `more`
to move (R501). -/
def turnOn (t : SMap Turn) (prio c n : Nat) (more : Bool) : SMap Turn :=
  let m := match smFind t prio with
    | some t => if t.c = c ∧ t.n < 4096 then t.n + n else n
    | none => n
  smIns t prio ⟨c, if more then m else 4096⟩
/-- DMA_PREEMPT: the channel of the last beat, whose turn is not over, loses a beat that it could have taken to a higher priority; it
keeps its turn (R502). -/
def State.preempted (s : State) (t : SMap Turn) (last : Option Nat) (cs : List Nat) (c : Nat) : List Nat :=
  match last with
  | some k =>
    if k ≠ c ∧ cs.contains k ∧ turnHeld t (s.rd R.DMA_CCFG_PRIO k) k ∧ s.rd R.DMA_CCFG_PRIO c < s.rd R.DMA_CCFG_PRIO k then [k] else []
  | none => []
/-- The write beat of a fabric cycle, and the channel that it pre-empts. -/
def State.writeCycle (s : State) : List Nat × State :=
  let cs := (List.range 16).filter s.mayWrite
  match s.pickChan s.dma.wTurn cs with
  | none => ([], s)
  | some c =>
    let n := match (s.getChan c).desc with | some d => beatLen d (s.getChan c).wrN | none => 0
    let p := s.preempted s.dma.wTurn s.dma.wLast cs c
    let s := s.writeBeat c
    (p, { s with dma := { s.dma with wTurn := turnOn s.dma.wTurn (s.rd R.DMA_CCFG_PRIO c) c n (s.mayWrite c), wLast := some c } })
/-- The read beat of a fabric cycle, and the channel that it pre-empts. -/
def State.readCycle (s : State) : List Nat × State :=
  let cs := (List.range 16).filter s.mayRead
  match s.pickChan s.dma.rTurn cs with
  | none => ([], s)
  | some c =>
    let n := match (s.getChan c).desc with | some d => (nextRead (s.mrrs (s.chanOwner c)) d (s.getChan c)).2 | none => 0
    let p := s.preempted s.dma.rTurn s.dma.rLast cs c
    let s := s.readBeat c
    (p, { s with dma := { s.dma with rTurn := turnOn s.dma.rTurn (s.rd R.DMA_CCFG_PRIO c) c n (s.mayRead c), rLast := some c } })
/-- DMA_BEAT_ARBITRATION (R500–R502). -/
def execDmaBeatArbitration (s : State) : Host.Outcome State Fault Refusal :=
  act s (fun s =>
    if s.dmaGo then
      let (p, s) := s.writeCycle
      let (q, s) := if s.dmaGo then s.readCycle else ([], s)
      s.forL (p ++ q).eraseDups (fun c s => s.count R.DMA_CCNT_PREEMPT c)
    else s)

/-! ## Descriptors (R509–R515) -/

/-- The channel stops: what it holds is discarded, IDX stays (R515, R516). -/
def State.dropChan (s : State) (c : Nat) : State := (s.setChan c {}).setChanState c 0
/-- DMA_DESCRIPTOR_READ (R510, R511). -/
def State.descRead (s : State) (c : Nat) : State :=
  let a := s.chanDescAddr c
  match s.dmaFailure a 32 with
  | some (cause, b) => s.dmaFault c cause false b
  | none =>
    let (l, s) := s.readMarked a 32
    let fw := meets a 32 0x1020700000 0x1020800000
    let s := if fw then s.dmaFw c else s
    let d : DmaDesc := if fw then List.replicate 8 0xFFFFFFFF else bytesWords (l.map (·.1))
    if d.f 0 31 31 = 0 then (s.setChan c { s.getChan c with idleAt := s.ns.toNat }).setChanState c 2
    else if d.malformed || l.any (·.2) then (s.wr R.DMA_CSTAT_MALF 1 c).setChanState c 5
    else match s.dmaSpoof c d with
      | some k => ((s.wr R.DMA_CSTAT_SPOOF 1 c).setChanState c 5).violate (s.chanOwner c) k (0x50 + c) (s.rd R.DMA_CIDX_IDX c)
      | none => s.setChan c { s.getChan c with desc := some d, rdN := 0, wrN := 0, buf := [], reads := [], skip := false }
def execDmaDescriptorRead (c : ChanNo) (s : State) : Host.Outcome State Fault Refusal :=
  act s (fun s =>
    let c := c.toNat
    if s.dmaGo && s.chanState c == 1 && (s.getChan c).desc.isNone && !s.instStopped (s.chanOwner c) then s.descRead c else s)

/-- Step 4 of R512. -/
def State.descNext (s : State) (c : Nat) : State :=
  let stop := (s.getChan c).stop
  let s := (s.count R.DMA_CCNT_DONE c).wr R.DMA_CIDX_IDX ((s.rd R.DMA_CIDX_IDX c + 1) % 2 ^ s.rd R.DMA_CCFG_LOG2N c) c
  (s.setChan c {}).setChanState c (if stop then 0 else 1)
/-- Steps 3 and 4 of R512; the write-back is an access like any other of the channel (R517). -/
def State.descDone (s : State) (c : Nat) (d : DmaDesc) : State :=
  let w := setBits (d.getD 0 0) 31 31 0
  let w := if (s.getChan c).skip then setBits w 30 30 1 else w
  let a := s.chanDescAddr c
  if touchesFw a 4 then (s.dmaFw c).descNext c
  else match s.dmaFailure a 4, s.globalSa a with
    | some (cause, b), _ => s.dmaFault c cause true b
    | none, some sa => (s.storeAt sa 4 w).descNext c
    | none, none => s.descNext c
/-- A channel pulse is a kick to a channel that is RUN or IDLE (R514). -/
def State.kick (s : State) (c : Nat) : State := if s.chanState c = 2 then s.setChanState c 1 else s
/-- The pulse of a descriptor is offered to its target (R512, R514). -/
def State.pulse (s : State) (c : Nat) (d : DmaDesc) : State :=
  match d.ptgt with
  | 1 =>
    match s.offerFrom (.channel c) d.pcairn d.pslot (d.getD 7 0) (w32 (4 * 2 ^ 28 + c * 65536 + s.rd R.DMA_CIDX_IDX c)) with
    | (.refused, s) => s.setChanState c 3
    | (_, s) => s.descDone c d
  | 2 =>
    let k := d.pchan
    let s := if s.chanState k = 1 ∨ s.chanState k = 2 then s.kick k else s.count R.DMA_CNT0_PULSEDROP
    s.descDone c d
  | _ => s.descDone c d
/-- DMA_DESCRIPTOR_COMPLETE (R512): writes have arrived as soon as their beats are issued, BAR or not (R513). -/
def execDmaDescriptorComplete (c : ChanNo) (s : State) : Host.Outcome State Fault Refusal :=
  act s (fun s =>
    let c := c.toNat
    let x := s.getChan c
    match x.desc with
    | some d => if s.dmaGo && s.chanState c == 1 && (x.skip || x.wrN == DmaDesc.len d) then s.pulse c d else s
    | none => s)
/-- DMA_PULSE_OFFER (R514). -/
def execDmaPulseOffer (c : ChanNo) (s : State) : Host.Outcome State Fault Refusal :=
  act s (fun s =>
    let c := c.toNat
    match (s.getChan c).desc with
    | some d => if s.dmaGo && s.chanState c == 3 then s.pulse c d else s
    | none => s)
/-- DMA_POLL_EXPIRY (R510). -/
def execDmaPollExpiry (c : ChanNo) (s : State) : Host.Outcome State Fault Refusal :=
  act s (fun s =>
    let c := c.toNat
    let p := s.rd R.DMA_CCFG_POLL c
    if s.dmaGo && s.chanState c == 2 && decide (0 < p) && decide ((s.getChan c).idleAt + 100 * p ≤ s.ns.toNat) then s.kick c else s)

/-! ## Register writes (R509, R510, R515, R519, R523) -/

/-- A write of function fn to a register of channel c: one of a PF that does not own the channel is discarded and recorded with
KIND 0x07, whatever the grant, and is then `refused` (R523). -/
def State.chanWrite (s : State) (fn c off : Nat) (f : State → State) (refused : State → State := id) : State :=
  if s.ownsChan fn c ∨ fn % 32 ≠ 0 then s.gated fn off f else (refused s).violate fn 0x07 (0x50 + c) c
/-- START of channel c by a function that may (R509). -/
def State.startChan (s : State) (c : Nat) : State :=
  if s.on R.DMA_STAT_HALT then s.wr R.DMA_CSTAT_SREFUSE 1 c
  else if s.chanState c = 0 ∨ s.chanState c = 5 then (s.setChan c {}).setChanState c 1
  else s
/-- STOP of channel c (R515). -/
def State.stopChan (s : State) (c : Nat) : State :=
  let st := s.chanState c
  if st = 2 ∨ (st = 1 ∧ (s.getChan c).desc.isNone) then s.setChanState c 0
  else if st = 1 ∨ st = 3 ∨ st = 4 then s.setChan c { s.getChan c with stop := true }
  else s
/-- A write of `val` to DMA_CCTL of channel c by its owner: STOP wins over a START of the same write (R515, R520). -/
def State.chanCtl (s : State) (c : Nat) (val : Word) : State :=
  let s := if val.getLsbD 0 && !val.getLsbD 1 then s.startChan c else s
  let s := if val.getLsbD 3 then s.kick c else s
  let s := if val.getLsbD 1 then s.stopChan c else s
  if val.getLsbD 2 then s.dropChan c else s
/-- DMA_START (R509): a PF that does not own the channel is refused; SREFUSE shows it where the PF reaches the block at all. -/
def execDmaStart (fn : InstNo) (c : ChanNo) (s : State) : Host.Outcome State Fault Refusal :=
  act s (fun s =>
    let c := c.toNat
    let off := R.DMA_CCTL_START.off c
    s.chanWrite fn.toNat c off (fun s => s.startChan c)
      (fun s => if (s.gate fn.toNat off true).1 then s.wr R.DMA_CSTAT_SREFUSE 1 c else s))
/-- DMA_KICK (R510). -/
def execDmaKick (fn : InstNo) (c : ChanNo) (s : State) : Host.Outcome State Fault Refusal :=
  act s (fun s => s.chanWrite fn.toNat c.toNat (R.DMA_CCTL_KICK.off c.toNat) (fun s => s.kick c.toNat))
/-- DMA_STOP (R515). -/
def execDmaStop (fn : InstNo) (c : ChanNo) (s : State) : Host.Outcome State Fault Refusal :=
  act s (fun s => s.chanWrite fn.toNat c.toNat (R.DMA_CCTL_STOP.off c.toNat) (fun s => s.stopChan c.toNat))
/-- DMA_ABORT (R515). -/
def execDmaAbort (fn : InstNo) (c : ChanNo) (s : State) : Host.Outcome State Fault Refusal :=
  act s (fun s => s.chanWrite fn.toNat c.toNat (R.DMA_CCTL_ABORT.off c.toNat) (fun s => s.dropChan c.toNat))
/-- A HALTED channel returns to the state it was in; one that met the error starts its descriptor again, or skips it, and so is
RUN (R519). -/
def State.resumeChan (s : State) (c : Nat) : State :=
  if s.chanState c ≠ 4 then s
  else
    let x := s.getChan c
    let s := s.setChanState c (if x.met && x.was == 3 then 1 else x.was)
    if !x.met then s
    else if s.on R.DMA_CCTL_SKIP c ∧ x.desc.isSome then
      (s.setChan c { x with met := false, skip := true, buf := [], reads := [] }).wr R.DMA_CCTL_SKIP 0 c
    else s.setChan c { x with met := false, rdN := 0, wrN := 0, buf := [], reads := [] }
/-- A stop that was asked for while the channel was halted between two descriptors takes effect. -/
def State.lateStop (s : State) (c : Nat) : State :=
  let x := s.getChan c
  if x.stop ∧ x.desc.isNone ∧ (s.chanState c = 1 ∨ s.chanState c = 2) then s.dropChan c else s
/-- DMA_RESTART (R519). -/
def execDmaRestart (fn : InstNo) (s : State) : Host.Outcome State Fault Refusal :=
  act s (fun s =>
    if fn.toNat = s.mgr ∧ s.on R.DMA_STAT_HALT then
      let s := ((s.wr R.DMA_STAT_HALT 0).wr R.DMA_ERR0_VALID 0).wr R.DMA_ERR0_CAUSE 0
      let s := ((s.wr R.DMA_ERR0_WRITE 0).wr R.DMA_ERR0_CHAN 0).wr R.DMA_ERR0_INDEX 0
      s.forN 16 (fun c s => (s.resumeChan c).lateStop c)
    else if fn.toNat = s.mgr then s
    else s.gated fn.toNat R.DMA_CTL_RESTART.off (fun s => s))
/-- DMA_ENABLE_WRITE (R523). -/
def execDmaEnableWrite (fn : InstNo) (en : Bool) (s : State) : Host.Outcome State Fault Refusal :=
  act s (fun s => s.gated fn.toNat R.DMA_CTL_EN.off (fun s => s.wr R.DMA_CTL_EN (b2n en)))

/-! ## Completions of reads, and instances (R503, R516) -/

/-- Reads at the front whose bytes have arrived enter the staging buffer. -/
def Chan.drain : Nat → Chan → Chan
  | 0, x => x
  | n + 1, x =>
    match x.reads with
    | r :: rs => match r.got with
      | some l => Chan.drain n { x with reads := rs, buf := x.buf ++ l }
      | none => x
    | [] => x
/-- The words of the read of channel c with tag t have arrived; those of a read that was given up go nowhere. -/
def State.dmaArrive (s : State) (h c t : Nat) (data : List Word) (ep : Bool) : State :=
  let s := { s with hostReads := smDel s.hostReads (h * 1024 + t) }
  let x := s.getChan c
  let reads := x.reads.map (fun r =>
    if r.tag = t ∧ r.got.isNone then
      let b := (wordsBytes data).drop (r.addr % 4)
      { r with got := some ((List.range r.n).map (fun k => (b.getD k 0, ep))) }
    else r)
  s.setChan c (Chan.drain 16 { x with reads := reads })
/-- An FLR of the owner leaves its channels STOPPED (R516). -/
def State.flrChans (s : State) (i : Nat) : State := s.forN 16 (fun c s => if s.chanOwner c = i then s.dropChan c else s)
/-- Registers of a channel. -/
def chanFields : List Field :=
  [R.DMA_CCFG_POLL, R.DMA_CCFG_LOG2N, R.DMA_CCFG_PRIO, R.DMA_CCTL_SKIP, R.DMA_CCTL_KICK, R.DMA_CCTL_ABORT, R.DMA_CCTL_STOP,
   R.DMA_CCTL_START, R.DMA_CSTAT_STATE, R.DMA_CSTAT_BUSERR, R.DMA_CSTAT_HALTED, R.DMA_CSTAT_SPOOF, R.DMA_CSTAT_MALF,
   R.DMA_CSTAT_SREFUSE, R.DMA_CEVTEN_EN, R.DMA_CRBLO_BASE, R.DMA_CRBHI_BASE_HI, R.DMA_CIDX_IDX, R.DMA_CPASID_EN,
   R.DMA_CPASID_PASID, R.DMA_CCNT_DONE, R.DMA_CCNT_PREEMPT, R.DMA_CCOLL_DONE_COLL, R.DMA_CCOLL_PREEMPT_COLL]
/-- The reset actions of an instance on the channels of its VIM_IDMA mask (R376, R516). -/
def State.resetChans (s : State) (i : Nat) : State :=
  s.forN 16 (fun c s => if nbit (s.rd R.VIM_IDMA_CHAN i) c then (s.dropChan c).forL chanFields (fun f s => s.wr f f.rst c) else s)
/-- A descriptor is in progress on a channel of instance i (R375). -/
def State.chansBusy (s : State) (i : Nat) : Bool :=
  (List.range 16).any (fun c => s.chanOwner c == i && (s.getChan c).desc.isSome && s.chanState c != 0 && s.chanState c != 5)

end Sys2Proof.Machine
end

