-- ==== Sys2Proof/Machine/Evc.lean ====
section
/-! DEFINITION. The event controller's commands: enabling, routes, timers, masks and the fault-collapse unit (R524–R547). -/

namespace Sys2Proof.Machine

/-- EVC_ENABLE (R535): the vectors whose level is 1 then collect, as the command settles. -/
def execEvcEnable (fn : InstNo) (s : State) : Host.Outcome State Fault Refusal :=
  act s (fun s => s.gated fn.toNat R.EVC_CTL_EN.off (fun s => s.wr R.EVC_CTL_EN 1))

/-- A write that only the manager may make is discarded and recorded where another PF makes it (R528); the resource number
is not stated. -/
def State.mgrOnly (s : State) (fn : Nat) (f : State → State) : State :=
  if fn = s.mgr then f s
  else if fn % 32 ≠ 0 then s
  else let (r, s) := s.draw; s.violate fn 0x06 (0x80 + fn / 32) r.toNat
/-- The fields of one route entry. -/
def State.setRoute (s : State) (n : Nat) (val : Word) : State :=
  (((s.wr R.EVC_ROUTE_TYPE (bits val 31 30) n).wr R.EVC_ROUTE_FPIN (bits val 29 29) n).wr
    R.EVC_ROUTE_INST (bits val 12 6) n).wr R.EVC_ROUTE_VEC (bits val 5 0) n
/-- EVENT_ROUTE_WRITE (R528). -/
def execEventRouteWrite (fn : InstNo) (src : BitVec 11) (val : Word) (s : State) : Host.Outcome State Fault Refusal :=
  act s (fun s =>
    let n := src.toNat
    if 1280 ≤ n then s
    else s.mgrOnly fn.toNat (fun s =>
      if bits val 31 30 = 2 ∨ s.rd R.EVC_ROUTE_TYPE n = 2 then s else s.setRoute n val))

/-! ## Timers of vectors (R530, R531) -/

/-- The number of a vector: instance × 64 + v, or 8,192 + v. -/
def vecNum : VecNo → Nat
  | .fn i v => i.toNat * 64 + v.toNat
  | .core v => 8192 + v.toNat
/-- CTIME of a vector in ns; 0 acts as 1 (R531). -/
def State.ctime (s : State) (v : Nat) : Nat :=
  100 * max 1 (if v < 8192 then s.rd R.EVC_VCFG_CTIME (v / 64) (v % 64) else s.rd R.EVC_CVCFG_CTIME (v - 8192))
/-- RPT of a vector in ns, 0 for none. -/
def State.rpt (s : State) (v : Nat) : Nat :=
  10000 * (if v < 8192 then s.rd R.EVC_VCFG_RPT (v / 64) (v % 64) else s.rd R.EVC_CVCFG_RPT (v - 8192))
/-- COALESCE_TIMER_EXPIRY (R530). -/
def execCoalesceTimerExpiry (v : VecNo) (s : State) : Host.Outcome State Fault Refusal :=
  act s (fun s =>
    let s := s.evcLook
    let x := s.getVec (vecNum v)
    if x.st = .collecting ∧ x.since + s.ctime (vecNum v) ≤ s.ns.toNat then s.fireVec (vecNum v) else s)
/-- REPEAT_TIMER_EXPIRY (R530). -/
def execRepeatTimerExpiry (v : VecNo) (s : State) : Host.Outcome State Fault Refusal :=
  act s (fun s =>
    let s := s.evcLook
    let x := s.getVec (vecNum v)
    if x.st = .fired ∧ s.rpt (vecNum v) ≠ 0 ∧ x.since + s.rpt (vecNum v) ≤ s.ns.toNat then
      ((s.deliver (vecNum v)).count R.EVC_CNT_REPEAT).setVec (vecNum v) { x with since := s.ns.toNat }
    else s)

/-! ## Masks (R532) -/

/-- Pending messages of instance i whose mask has ended are sent, while vectors deliver; the repeat interval runs from there (R530,
R532, R535). -/
def State.flushPba (s : State) (i : Nat) : State :=
  s.forL (s.pba.filter (fun v => v / 64 == i)) (fun v s =>
    if s.vecMasked v || !s.on R.EVC_CTL_EN then s
    else (({ s with pba := setDel s.pba v }.sendVec v).setVec v { s.getVec v with since := s.ns.toNat }))
/-- MSIX_UNMASK (R532): the host's writes end every mask of the vector but D3hot. -/
def execMsixUnmask (i : InstNo) (v : BitVec 6) (s : State) : Host.Outcome State Fault Refusal :=
  act s (fun s =>
    let i := i.toNat
    let n := i * 64 + v.toNat
    let s := s.evcLook
    let s := { s with msix := smPut s.msix 1 (4 * n + 3) (setBits (s.msixWord n 3) 0 0 0) }
    (s.setFunc i { s.getFunc i with msixEn := true, fMask := false }).flushPba i)
/-- D3HOT_TRANSITION (R363, R532). -/
def execD3hotTransition (i : InstNo) (enter : Bool) (s : State) : Host.Outcome State Fault Refusal :=
  act s (fun s =>
    let i := i.toNat
    let s := s.evcLook
    (s.setFunc i { s.getFunc i with d3hot := enter }).flushPba i)

/-! ## Fault collapse (R540–R544) -/

/-- WIN in ns; 0 acts as 1, values above 1,024 as 1,024 (R541). -/
def State.mergeWin (s : State) : Nat := 1000 * min 1024 (max 1 (s.rd R.EVC_FCFG_WIN))
/-- Slots of the open records. -/
def State.openRecs (s : State) : List Nat := (s.evc.recs.filter (fun e => e.2.isOpen)).map (·.1)
def State.setRec (s : State) (n : Nat) (r : FRec) : State :=
  let s := { s with evc := { s.evc with recs := smPut s.evc.recs {} n r } }
  s.wr R.EVC_FSTAT_OPEN s.openRecs.length
/-- A record closes once FIRST + WIN is reached (R541). -/
def State.closeRec (s : State) (n : Nat) : State :=
  let r := smGet s.evc.recs {} n
  if r.isOpen ∧ r.first.toNat + s.mergeWin ≤ s.ns.toNat then s.setRec n { r with isOpen := false } else s
/-- A new record for a report (R541–R543). -/
def State.newRec (s : State) (reporter : Nat) (h : HeldRep) : State :=
  let hd := s.rd R.EVC_FHEAD_HEAD
  let nxt := (hd + 1) % 256
  if nxt = s.rd R.EVC_FTAIL_TAIL ∨ (smGet s.evc.recs {} nxt).isOpen then
    (s.count R.EVC_FCNT0_FLOST).wr R.EVC_FSTAT_LOGFULL 1
  else
    let full := decide (32 ≤ s.openRecs.length)
    let s := if full then (s.count R.EVC_FCNT1_NOMERGE).wr R.EVC_FSTAT_NOMERGE 1 else s
    let s := s.setRec hd { valid := true, isOpen := !full, ovf := false, cause := h.cause, domain := h.domain,
                           count := BitVec.ofNat 16 h.count, firstRep := BitVec.ofNat 16 reporter,
                           lastRep := BitVec.ofNat 16 reporter, first := s.ns, last := s.ns }
    (s.wr R.EVC_FHEAD_HEAD nxt).wr R.EVC_FSTAT_NEWREC 1
/-- A report is taken (R541). -/
def State.takeReport (s : State) (reporter : Nat) (h : HeldRep) : State :=
  let s := { s with evc := { s.evc with held := smDel s.evc.held reporter, turn := reporter } }
  match s.evc.recs.find? (fun e => e.2.isOpen && e.2.domain == h.domain && e.2.cause == h.cause) with
  | some (n, r) =>
    let k := r.count.toNat + h.count
    s.setRec n { r with count := BitVec.ofNat 16 (min 65535 k), ovf := r.ovf || decide (65535 < k), last := s.ns,
                        lastRep := BitVec.ofNat 16 reporter }
  | none => s.newRec reporter h
/-- FAULT_REPORT_TAKE (R540, R541): up to 16 held reports, in rotating order. -/
def execFaultReportTake (s : State) : Host.Outcome State Fault Refusal :=
  act s (fun s =>
    let s := s.forL s.openRecs (fun n s => s.closeRec n)
    if s.on R.EVC_FCFG_FEN then
      let l := s.evc.held
      let l := l.filter (fun e => decide (s.evc.turn < e.1)) ++ l.filter (fun e => decide (e.1 ≤ s.evc.turn))
      s.forL (l.take 16) (fun e s => s.takeReport e.1 e.2)
    else s)
/-- FAULT_RECORD_CLOSE (R541). -/
def execFaultRecordClose (n : Byte) (s : State) : Host.Outcome State Fault Refusal := act s (fun s => s.closeRec n.toNat)
/-- The words of a fault record (R543). -/
def FRec.words (r : FRec) : List Word :=
  [w32 (b2n r.valid * 2 ^ 31 + b2n r.isOpen * 2 ^ 30 + b2n r.ovf * 2 ^ 29 + r.cause.toNat * 65536 + r.domain.toNat),
   w32 (r.count.toNat * 65536 + r.firstRep.toNat), w32 r.lastRep.toNat, 0,
   w32 (r.first.toNat % 2 ^ 32), w32 (r.first.toNat / 2 ^ 32), w32 (r.last.toNat % 2 ^ 32), w32 (r.last.toNat / 2 ^ 32)]
/-- A read of word k of fault record n; that of word 0 latches words 1–7 for function fn (R543, R544). -/
def State.readFrec (s : State) (fn n k : Nat) : Word × Bool × State :=
  let ws := (smGet s.evc.recs {} n).words
  let s := if k = 0 then
      (List.range 7).foldl (fun s j => s.latchFor fn (0x32000 + n * 32 + 4 * (j + 1)) (ws.getD (j + 1) 0)) s
    else s
  (ws.getD k 0, false, s)
/-- FAULT_RECORD_READ (R544). -/
def execFaultRecordRead (fn : InstNo) (n : Byte) (s : State) : Host.Outcome State Fault Refusal :=
  act s (fun s => s.gatedRead fn.toNat (0x32000 + n.toNat * 32) (fun s => s.readFrec fn.toNat n.toNat 0))

end Sys2Proof.Machine
end

