-- ==== Sys2Proof/Machine/EngSys.lean ====
section
/-! DEFINITION. System and thread instructions of an engine, WAIT and nudges, run limit, code loading, ENG_ACCDATA and debug
(R272, R284, R291–R304, R308, R310, R334–R343). -/

namespace Sys2Proof.Machine

/-! ## Power state of an engine (R303, R557, R559, R566) -/

/-- A WAIT returns: NUDGE where the latch is set, else TIMEOUT; the latch clears (R303). -/
def State.finishWait (s : State) (e : Nat) : State :=
  let x := s.getEng e
  match x.wait with
  | none => s
  | some w =>
    let y := { x with wait := none, nudge := false }.setG w.rd.toNat (if x.nudge then 0 else 1)
    (s.setEng e y).retireNext e
/-- The engine is back in Run. -/
def State.engRun (s : State) (e : Nat) : State :=
  let s := (s.ewr R.ENG_STAT_PSTATE 0 e).setEng e { s.getEng e with entry := none, exit := none }
  s.finishWait e
/-- The engine starts its exit for a cause of R568; the exit from Idle takes 20 ns and is not recorded. -/
def State.wakeEng (s : State) (e cause : Nat) : State :=
  let p := s.erd R.ENG_STAT_PSTATE e
  let x := s.getEng e
  if p ≤ 1 then s.engRun e
  else if x.exit.isSome then s
  else s.setEng e { x with exit := some ⟨p, cause, s.nsLo⟩ }
/-- The state that WAIT takes engine e to: ENG_CTL.WST (R303), no deeper than Idle for a reflex engine (R557), and Run where the
rope's LIMIT is 0, so that its engines are not gated (R559). -/
def State.waitState (s : State) (e : Nat) : Nat :=
  if s.rd R.PWR_RCTL_LIMIT (ropeOf e) = 0 then 0
  else if s.erd R.ENG_CTL_WST e = 0 ∨ 32 ≤ slotOf e + min 4 (s.rd R.TSC_ROPECFG_RFXN (ropeOf e)) then 1
  else 2
/-- Engine e is within its entry window of 8 engine cycles, 4 fabric cycles (R566). -/
def State.inEntry (s : State) (e : Nat) : Bool :=
  match (s.getEng e).entry with
  | some k => decide (s.tsc.cyc < k + 4) && s.erd R.ENG_STAT_PSTATE e != 0
  | none => false
/-- A nudge reaches engine n (R304, R566). -/
def State.nudgeTo (s : State) (n : Nat) : State :=
  if s.swapping n ∨ (s.physOf n).isNone then s
  else if s.inEntry n then (s.count R.PWR_CNT_NUDGELOST).wr R.PWR_EVT_NUDGELOST 1
  else
    let s := s.setEng n { s.getEng n with nudge := true }
    if (s.getEng n).wait.isSome then s.wakeEng n 3 else s

/-! ## Causes of the system instructions -/

/-- ILLEGAL where `bad` holds; its faulting address is not stated. -/
def illegalIf (bad : Bool) (_ : Bool) (s : State) : List Cause × Option Nat × Unit × State :=
  if bad then let (w, s) := s.draw; ([⟨xILLEGAL, w, false⟩], none, (), s) else ([], none, (), s)
/-- Every operand field of a format R word is 0. -/
def rOk0 (f : RFmt) : Bool := f.z == 0 && f.aux == 0 && f.rd == 0 && f.ra == 0 && f.rb == 0

/-- MFENCE (R334, R279): every earlier global store of the engine is visible before it retires. -/
def execMfence (e : EngNo) (f : RFmt) (s : State) : Host.Outcome State Fault Refusal :=
  act s (fun s => s.instr e.toNat (rOk0 f) true [] noCause (fun _ s => (s.landAll e.toNat).retireNext e.toNat))
/-- IFENCE (R292): what is fetched after it is the memory's content. -/
def execIfence (e : EngNo) (f : RFmt) (s : State) : Host.Outcome State Fault Refusal :=
  act s (fun s => s.regInstr e.toNat (rOk0 f) [] id)
/-- BREAK (R308, R334). -/
def execBreakpt (e : EngNo) (f : RFmt) (s : State) : Host.Outcome State Fault Refusal :=
  act s (fun s => s.instr e.toNat (rOk0 f) true [] (illegalIf (s.erd R.ENG_DBG_DBGEN e.toNat == 0)) (fun _ s =>
    (s.setEng e.toNat { s.getEng e.toNat with pc := (s.getEng e.toNat).pc + 4 }).dbgHalt e.toNat))
/-- XRET (R300, R334). -/
def execXret (e : EngNo) (f : RFmt) (s : State) : Host.Outcome State Fault Refusal :=
  act s (fun s => s.instr e.toNat (rOk0 f) false [] (illegalIf (!(s.getEng e.toNat).xact)) (fun _ s =>
    let x := s.getEng e.toNat
    (s.setEng e.toNat { x with xact := false }).retireAtPc e.toNat (w32 (4 * x.lxpc.toNat))))
/-- RDF (R334). -/
def execRdf (e : EngNo) (f : RFmt) (s : State) : Host.Outcome State Fault Refusal :=
  act s (fun s => s.regInstr e.toNat (rOk2 f && f.ra == 0) [] (fun x => x.setG f.rd.toNat (w32 x.flags.toNat)))
/-- WRF (R334). -/
def execWrf (e : EngNo) (f : RFmt) (s : State) : Host.Outcome State Fault Refusal :=
  act s (fun s => s.regInstr e.toNat (rOk2 f && f.rd == 0) [f.ra.toNat] (fun x =>
    { x with flags := (x.gr f.ra.toNat).extractLsb' 0 5 }))

/-! ## SEND (R255, R256, R335) -/

/-- A SEND in progress completes with its result. -/
def State.sendEnd (s : State) (e : Nat) (rd : BitVec 5) (code : Word) : State :=
  let x := s.getEng e
  (s.setEng e ({ x with send := none }.setG rd.toNat code)).retireNext e
/-- The MESSAGE operand of a SEND is offered: it completes, or the engine stalls and tries again (R255, R256). -/
def State.sendTry (s : State) (e : Nat) (r : SendRec) : State :=
  let (_, s) := s.tscRead r.target
  let x := s.getEng e
  let st := s.cst r.target
  if st = 0 ∨ st = 7 ∨ st = 8 then s.sendEnd e r.rd 2
  else if s.cInst r.target ≠ x.tinst ∧ x.tinst ≠ s.mgr then
    let s := s.violate x.tinst 0x02 0x20 r.target
    s.sendEnd e r.rd 3
  else match s.offerFrom (.send e) r.target r.slot r.w0 (w32 (6 * 2 ^ 28 + x.tcairn)) with
    | (.refused, s) => (s.setEng e { s.getEng e with send := some r }).syncEng e
    | (_, s) => s.sendEnd e r.rd 0
/-- SEND (R335). -/
def execSend (e : EngNo) (f : RFmt) (s : State) : Host.Outcome State Fault Refusal :=
  act s (fun s => s.instr e.toNat (f.z == 0 && decide (f.aux.toNat < 8)) true [f.ra.toNat, f.rb.toNat] noCause (fun _ s =>
    let s := s.landAll e.toNat
    let x := s.getEng e.toNat
    s.sendTry e.toNat ⟨f.rd, bits (x.gr f.ra.toNat) 15 0, f.aux.toNat, x.gr f.rb.toNat⟩))
/-- SEND_RETRY_EXPIRY (R255): 256 engine cycles of refusal; SEND returns BUSY. -/
def execSendRetryExpiry (e : EngNo) (s : State) : Host.Outcome State Fault Refusal :=
  act s (fun s => match (s.getEng e.toNat).send with
    | none => s
    | some r => (s.count R.TSC_CNT1_SENDBUSY).sendEnd e.toNat r.rd 1)

/-! ## EMIT (R221, R222, R336–R339) -/

/-- The payload lies within own data memory, the thread window or own rope shared memory (R337). -/
def emitAddrOk (a n : Nat) : Bool :=
  let within (lo hi : Nat) : Bool := decide (lo ≤ a) && decide (a + n ≤ hi)
  within 0x10000 0x18000 || within 0x20000 0x20200 || within 0x80000 0x100000
/-- The payload's bytes, and whether a word of them is poisoned. -/
def State.emitBytes (s : State) (e a n : Nat) : List Byte × Bool × State :=
  let k := if n = 0 then 0 else (a + n - 1) / 4 + 1 - a / 4
  let (ws, s) := s.loadWords e (w32 (a / 4 * 4)) k
  (((wordsBytes (ws.map (·.1))).drop (a % 4)).take n, ws.any (·.2), s)
/-- The result code of an EMIT and the state that it leaves (R221, R337, R338). -/
def State.emitReq (s : State) (e : Nat) (a ctl : Word) : Nat × State :=
  let p := bits ctl 27 24
  let n := bits ctl 20 16
  let len := bits ctl 8 0
  let x := s.getEng e
  if bits ctl 31 28 ≠ 0 ∨ bits ctl 23 21 ≠ 0 ∨ bits ctl 15 9 ≠ 0 then (6, s)
  else if !emitAddrOk a.toNat len then (5, s)
  else match smFind (s.getPort p).pairs n with
    | none => (1, s)
    | some y =>
      let d : Desc := y.words
      if d.inst ≠ x.tinst ∧ x.tinst ≠ s.mgr then (4, s.violate x.tinst 0x0A 0x40 e)
      else if !y.inbound then (1, s)
      else if y.emit.isSome then (2, s)
      else if len = 0 ∨ d.omax < len then (3, s)
      else
        let (l, pois, s) := s.emitBytes e a.toNat len
        let s := if pois then s.endPair p n dPOISONED
          else if !s.linkUp p then s.endPair p n dLINK_LOST
          else s.setPort p { s.getPort p with pairs := smIns (s.getPort p).pairs n { y with emit := some { payload := l } },
                                              emitq := (s.getPort p).emitq ++ [n] }
        (0, s)
/-- EMIT (R336, R337). -/
def execEmit (e : EngNo) (f : RFmt) (s : State) : Host.Outcome State Fault Refusal :=
  act s (fun s => s.instr e.toNat (rOk3 f) true [f.ra.toNat, f.rb.toNat] noCause (fun _ s =>
    let s := s.landAll e.toNat
    let x := s.getEng e.toNat
    let (k, s) := s.emitReq e.toNat (x.gr f.ra.toNat) (x.gr f.rb.toNat)
    (s.setEng e.toNat ((s.getEng e.toNat).setG f.rd.toNat (w32 k))).retireNext e.toNat))

/-! ## WAIT and NUDGE (R303, R304, R340) -/

/-- WAIT (R303, R334): with the latch set it returns at once; ENGINE_IDLE_ENTRY otherwise (R559).  It retires when it returns, and a
halt or step then takes effect (R308). -/
def execWaitNudge (e : EngNo) (f : RFmt) (s : State) : Host.Outcome State Fault Refusal :=
  act s (fun s => s.instr e.toNat (rOk2 f) true [f.ra.toNat] noCause (fun _ s =>
    let e := e.toNat
    let x := s.getEng e
    let t := x.gr f.ra.toNat
    let s := s.setEng e { x with wait := some ⟨f.rd, if t = 0 then none else some (s.ns + t.setWidth 64)⟩ }
    if x.nudge then s.finishWait e
    else
      let st := s.waitState e
      let s := if st = 0 then s
        else (s.ewr R.ENG_STAT_PSTATE st e).setEng e { s.getEng e with entry := some s.tsc.cyc }
      s.syncEng e))
/-- WAIT_TIMEOUT (R303). -/
def execWaitTimeout (e : EngNo) (s : State) : Host.Outcome State Fault Refusal :=
  act s (fun s => match (s.getEng e.toNat).wait with
    | some ⟨_, some d⟩ => if d.toNat ≤ s.ns.toNat then
        (s.lateRopes (fun r => r == ropeOf e.toNat)).wakeEng e.toNat 4
      else s
    | _ => s)
/-- NUDGE (R340): posted; dropped where ra[31:10] is not 0. -/
def execNudge (e : EngNo) (f : RFmt) (s : State) : Host.Outcome State Fault Refusal :=
  act s (fun s => s.instr e.toNat (rOk2 f && f.rd == 0) true [f.ra.toNat] noCause (fun _ s =>
    let t := (s.getEng e.toNat).gr f.ra.toNat
    let s := if bits t 31 10 = 0 then s.nudgeTo (bits t 9 0) else s
    s.retireNext e.toNat))

/-! ## YIELD and END (R341–R343) -/

/-- The thread leaves the engine with a record (R258). -/
def State.leave (s : State) (e : Nat) (r : EndRec) : State := ((s.placeRecord e r).idleEntry e).afterInstr e
/-- In the cycle in which ENG_LCYC reaches LIMIT, END and YIELD still take effect (R302). -/
def State.lastCycle (s : State) (e : Nat) : State :=
  let x := s.getEng e
  if s.erd R.ENG_RUNLIM_LIMIT e ≠ 0 ∧ x.lcyc.toNat = s.erd R.ENG_RUNLIM_LIMIT e then s.setEng e { x with lcyc := x.lcyc - 1 } else s
/-- YIELD (R341). -/
def execYieldThread (e : EngNo) (f : YFmt) (s : State) : Host.Outcome State Fault Refusal :=
  act s (fun s =>
    let s := s.lastCycle e.toNat
    let ok := f.z == 0 && (f.t || f.ra == 0) && (f.w || f.rb == 0)
    let regs := (if f.t then [f.ra.toNat] else []) ++ (if f.w then [f.rb.toNat] else [])
    s.instr e.toNat ok true regs (illegalIf (f.wreq == 0 && !f.t)) (fun _ s =>
      let e := e.toNat
      let s := s.landAll e
      let x := s.getEng e
      let y : YieldRec := { wreq := f.wreq, timeout := if f.t then some (x.gr f.ra.toNat) else none,
                            waitOn := if f.w then some ((x.gr f.rb.toNat).extractLsb' 0 16) else none,
                            rpc := x.pc.toNat / 4 + 1 }
      s.leave e (s.mkRecord e none (some y) false)))
/-- END (R342). -/
def execEndThread (e : EngNo) (f : EFmt) (s : State) : Host.Outcome State Fault Refusal :=
  act s (fun s => (s.lastCycle e.toNat).instr e.toNat (f.z == 0) false [] noCause (fun _ s =>
    let s := s.landAll e.toNat
    s.leave e.toNat (s.mkRecord e.toNat (some (BitVec.ofNat 8 f.code.toNat)) none false)))
/-- WATCHDOG_EXPIRY (R297, R302): ENG_LCYC has reached the limit, by the stalls or the WAIT that the event ends. -/
def execWatchdogExpiry (e : EngNo) (s : State) : Host.Outcome State Fault Refusal :=
  act s (fun s =>
    let e := e.toNat
    let l := s.erd R.ENG_RUNLIM_LIMIT e
    if (s.getEng e).thr.isSome && l != 0 && s.erd R.ENG_DBG_HALTED e == 0 && (s.physOf e).isSome then
      let (w, s) := s.draw
      let x := s.getEng e
      let s := (s.ewr R.ENG_STAT_PSTATE 0 e).setEng e { x with exit := none, lcyc := BitVec.ofNat 33 (max l x.lcyc.toNat) }
      s.raise e ⟨xWATCHDOG, w, false⟩
    else s)

/-! ## Code groups and ENG_ACCDATA (R272, R284, R310) -/

/-- PREFETCH_RETURN: a prefetched cairn returns to READY with its operands at the heads of their slots (R246). -/
def State.returnPref (s : State) (e : Nat) : State :=
  let x := s.getEng e
  match x.pref with
  | none => s
  | some p =>
    let s := s.setEng e { x with pref := none }
    let s := s.forL p.ops (fun o s =>
      let d := s.cDepth p.c o.slot
      let h := (s.cHead p.c o.slot + d - 1) % max 1 d
      let s := (s.cwSet p.c 6 (4 * o.slot + 3) (4 * o.slot) h).cwSet p.c 5 (4 * o.slot + 3) (4 * o.slot) (s.cCnt p.c o.slot + 1)
      let a := s.opSa p.c o.slot h
      (s.storeWordP a o.w0 o.p0).storeWordP (a + 4) o.w1 o.p1)
    (s.enterReady p.c p.tr).syncEng e
/-- CLOAD_WRITE (R284). -/
def execCloadWrite (fn : InstNo) (e : EngNo) (v : Bool) (s : State) : Host.Outcome State Fault Refusal :=
  act s (fun s => s.gated fn.toNat (R.ENG_CTL_CLOAD.off (ropeOf e.toNat) (slotOf e.toNat)) (fun s =>
    let s := s.ewr R.ENG_CTL_CLOAD (b2n v) e.toNat
    (if v then s.returnPref e.toNat else s).syncEng e.toNat))
/-- CGRP_WRITE (R284). -/
def execCgrpWrite (fn : InstNo) (e : EngNo) (v : Byte) (s : State) : Host.Outcome State Fault Refusal :=
  act s (fun s => s.gated fn.toNat (R.ENG_CTL_CGRP.off (ropeOf e.toNat) (slotOf e.toNat)) (fun s =>
    let old := s.erd R.ENG_CTL_CGRP e.toNat
    let s := s.ewr R.ENG_CTL_CGRP v.toNat e.toNat
    if old = v.toNat then s else s.returnPref e.toNat))

/-- Storage address that ENG_ACCADDR of rope r names, or none where the access is refused (R310). -/
def State.accSa (s : State) (r : Nat) (write : Bool) : Option Nat :=
  let slot := s.rd R.ENG_ACCADDR_SLOT r
  let off := s.rd R.ENG_ACCADDR_OFFSET r
  let resv := s.rd R.ENG_RSTAT_RESV r
  let phys : Option Nat :=
    if slot < 32 then s.physOf (32 * r + slot)
    else if slot = 32 ∧ resv ≠ 0x3F then some (33 * r + resv) else none
  match s.rd R.ENG_ACCADDR_REGION r with
  | 0 =>
    if 4096 ≤ off then none
    else if write && decide (slot < 32) && s.rd R.ENG_CTL_CLOAD r slot == 0 then none
    else phys.map (fun i => saEngine i + 4 * off)
  | 1 => if 8192 ≤ off then none else phys.map (fun i => saEngine i + 0x8000 + 4 * off)
  | 2 => if 32 < slot then none else some (saRope r + 4 * off)
  | _ => none
/-- OFFSET advances after an access (R310). -/
def State.accNext (s : State) (r : Nat) : State :=
  if s.on R.ENG_ACCADDR_AUTOINC r then s.wr R.ENG_ACCADDR_OFFSET ((s.rd R.ENG_ACCADDR_OFFSET r + 1) % 2 ^ 17) r else s
/-- The word that ENG_ACCADDR of rope r names, with its poison mark; 0 with ERR where the access is refused (R310). -/
def State.accRead (s : State) (r : Nat) : Word × Bool × State :=
  match s.accSa r false with
  | none => (0, false, (s.wr R.ENG_ACCADDR_ERR 1 r).accNext r)
  | some a => let (w, p, s) := s.readWord a; (w, p, s.accNext r)
/-- ACCDATA_READ (R310). -/
def execAccdataRead (fn : InstNo) (r : RopeNo) (s : State) : Host.Outcome State Fault Refusal :=
  act s (fun s => s.gatedRead fn.toNat (R.ENG_ACCDATA_DATA.off r.toNat) (fun s => s.accRead r.toNat))
/-- ACCDATA_WRITE (R310). -/
def execAccdataWrite (fn : InstNo) (r : RopeNo) (val : Word) (s : State) : Host.Outcome State Fault Refusal :=
  act s (fun s => s.gated fn.toNat (R.ENG_ACCDATA_DATA.off r.toNat) (fun s =>
    let r := r.toNat
    match s.accSa r true with
    | none => (s.wr R.ENG_ACCADDR_ERR 1 r).accNext r
    | some a => (s.storeWord a val).accNext r))

/-! ## Debug (R308) -/

/-- DEBUG_HALT_REQUEST (R308): the engine halts after its current instruction retires. -/
def execDebugHaltRequest (fn : InstNo) (e : EngNo) (s : State) : Host.Outcome State Fault Refusal :=
  act s (fun s => s.gated fn.toNat (R.ENG_DBG_HALTREQ.off (ropeOf e.toNat) (slotOf e.toNat)) (fun s =>
    if s.erd R.ENG_DBG_DBGEN e.toNat = 1 ∧ s.erd R.ENG_DBG_HALTED e.toNat = 0 then s.ewr R.ENG_DBG_HALTREQ 1 e.toNat else s))
/-- DEBUG_STEP (R308). -/
def execDebugStep (fn : InstNo) (e : EngNo) (s : State) : Host.Outcome State Fault Refusal :=
  act s (fun s => s.gated fn.toNat (R.ENG_DBG_STEP.off (ropeOf e.toNat) (slotOf e.toNat)) (fun s =>
    if s.erd R.ENG_DBG_DBGEN e.toNat = 1 ∧ s.erd R.ENG_DBG_HALTED e.toNat = 1 then
      (s.ewr R.ENG_DBG_STEP 1 e.toNat).setEng e.toNat { s.getEng e.toNat with step := true }
    else s))
/-- DEBUG_RESUME (R308). -/
def execDebugResume (fn : InstNo) (e : EngNo) (s : State) : Host.Outcome State Fault Refusal :=
  act s (fun s => s.gated fn.toNat (R.ENG_DBG_RESUME.off (ropeOf e.toNat) (slotOf e.toNat)) (fun s =>
    if s.erd R.ENG_DBG_HALTED e.toNat = 1 then
      (((s.ewr R.ENG_DBG_HALTED 0 e.toNat).ewr R.ENG_DBG_STEP 0 e.toNat).setEng e.toNat
        { s.getEng e.toNat with step := false }).syncEng e.toNat
    else s))

end Sys2Proof.Machine
end

