-- ==== Sys2Proof/Machine/Tsc.lean ====
section
/-! DEFINITION. The thread scheduler's commands: activation, operand sources, dispatch, thread start, reflex sets, the cycle
detector and the completion collector (R229–R264, R280–R284). -/

namespace Sys2Proof.Machine

/-! ## Clock frequencies, × 1/8 MHz (R550, R553) -/

/-- VCO frequency of PLL l with the 50 MHz reference. -/
def State.vco8 (s : State) (l : Nat) : Nat := 400 * s.rd R.CLK_PLLCTL_N l
/-- The engine clock. -/
def State.eng8 (s : State) : Nat :=
  match s.rd R.CLK_DSEL_CUR 0 with
  | 0 => 400
  | k => s.vco8 (k - 1) / 2 ^ s.rd R.CLK_PLLCTL_P (k - 1)
/-- The fabric clock. -/
def State.fab8 (s : State) : Nat :=
  match s.rd R.CLK_DSEL_CUR 1 with
  | 0 => 400
  | 2 => s.vco8 1 / 4
  | _ => s.vco8 2 / 4
/-- AFFWIN of a cairn in fabric cycles, rounded up (R244). -/
def State.affCycles (s : State) (affwin : Nat) : Nat := cdiv (affwin * s.fab8) (max 1 s.eng8)

/-! ## ACTIVATE and DEACTIVATE through TSC_CMD (R231, R232) -/

/-- TSC_CMD executes OP on a cairn; other values of OP give MALFORMED (R264). -/
def State.tscCmd (s : State) (op c : Nat) : State :=
  let s := (s.wr R.TSC_CMD_OP op).wr R.TSC_CMD_CAIRN c
  let (r, s) := match op with
    | 1 => s.activateCairn c
    | 2 => s.deactivateReq c
    | _ => (2, s)
  (s.wr R.TSC_CMD_RESULT r).wr R.TSC_CMD_GO 0
/-- ACTIVATE (R232). -/
def execActivate (fn : InstNo) (c : CairnNo) (s : State) : Host.Outcome State Fault Refusal :=
  act s (fun s => s.gated fn.toNat R.TSC_CMD_GO.off (fun s => s.tscCmd 1 c.toNat))
/-- DEACTIVATE (R231). -/
def execDeactivate (fn : InstNo) (c : CairnNo) (s : State) : Host.Outcome State Fault Refusal :=
  act s (fun s => s.gated fn.toNat R.TSC_CMD_GO.off (fun s => s.tscCmd 2 c.toNat))

/-! ## Sources of operands (R238, R239, R255) -/

/-- MARKER_OPERAND_OFFER (R238). -/
def execMarkerOperandOffer (m : MarkNo) (s : State) : Host.Outcome State Fault Refusal :=
  act s (fun s =>
    let m := m.toNat
    let x := s.getMarker m
    if s.on R.TSC_MKROUTE_EN m && s.on R.PTU_MKSTAT_PEND m && x.nf != 0 then
      let w1 := w32 (3 * 2 ^ 28 + m * 2 ^ 23 + b2n x.downLast * 2 ^ 22 + min 0xFFFF x.nf)
      match s.offerFrom (.marker m) (s.rd R.TSC_MKROUTE_CAIRN m) (s.rd R.TSC_MKROUTE_SLOT m) x.tLast w1 with
      | (.refused, s) => s
      | (_, s) => (s.wr R.PTU_MKSTAT_PEND (b2n x.cur.isSome) m).setMarker m { s.getMarker m with nf := 0 }
    else s)
/-- TIMER_EXPIRY (R239): a periodic timer whose slot is full stays pending. -/
def execTimerExpiry (c : CairnNo) (s : State) : Host.Outcome State Fault Refusal :=
  act s (fun s =>
    let c := c.toNat
    let d := s.cTdl c
    if !s.tsc.tmrP.contains c || !s.cTmode c || !s.passed d then s
    else
      let per := (s.cw c 10).toNat
      let late := (s.ns48 + 2 ^ 48 - d) % 2 ^ 48
      let n := if per = 0 then 0 else late / per
      let s := s.lateRopes (nbit (s.cw c 2).toNat)
      match s.offerFrom .timer c (s.cTslot c) (w32 d) (w32 (7 * 2 ^ 28 + min 0xFFFF n)) with
      | (.refused, s) => s
      | (_, s) =>
        if !s.tsc.tmrP.contains c then s
        else if per = 0 then
          ({ s.cwSet c 7 15 15 0 with tsc := { s.tsc with tmrP := setDel s.tsc.tmrP c } }).syncTmr
        else
          let d' := (d + (n + 1) * per) % 2 ^ 48
          (s.cwSet c 8 31 0 (d' % 2 ^ 32)).cwSet c 9 15 0 (d' / 2 ^ 32))
/-- YIELD_TIMEOUT (R239, R252). -/
def execYieldTimeout (c : CairnNo) (s : State) : Host.Outcome State Fault Refusal :=
  act s (fun s =>
    match smFind s.tsc.tmrY c.toNat with
    | some d => if s.passed d && s.cst c.toNat == 6 then
        let s := s.lateRopes (nbit (s.cw c.toNat 2).toNat)
        let (ok, s) := s.tscRead c.toNat
        if ok then s.resolveWait c.toNat 1 else s
      else s
    | none => s)
/-- COMPLETION_QUEUE_OFFER (R255): entry k of a port's completion queue, behind no earlier entry for its own slot. -/
def execCompletionQueueOffer (p : PortNo) (k : BitVec 5) (s : State) : Host.Outcome State Fault Refusal :=
  act s (fun s =>
    let q := (s.getPort p.toNat).cq
    match q[k.toNat]? with
    | none => s
    | some e =>
      if (q.take k.toNat).any (fun x => x.c == e.c && x.slot == e.slot) then s
      else match s.offerFrom (.completion p.toNat) e.c e.slot e.w0 e.w1 with
        | (.refused, s) => s
        | (_, s) =>
          let x := s.getPort p.toNat
          s.setPort p.toNat { x with cq := x.cq.take k.toNat ++ x.cq.drop (k.toNat + 1) })

/-! ## Dispatch (R244, R245, R249) -/

/-- Logical engine e is a reflex engine (R249, R581). -/
def State.reflexEng (s : State) (e : Nat) : Bool :=
  decide (32 ≤ slotOf e + min 4 (s.rd R.TSC_ROPECFG_RFXN (ropeOf e))) && (s.physOf e).isSome
/-- Engine e is eligible for a cairn of code group `cgrp`, reflex or not (R244, R284, R579). -/
def State.eligible (s : State) (e cgrp : Nat) (rfx : Bool) : Bool :=
  (s.physOf e).isSome && !s.swapping e && s.erd R.ENG_CTL_CLOAD e == 0 && s.erd R.ENG_CTL_CGRP e == cgrp &&
  s.reflexEng e == rfx && (s.getEng e).pref.isNone
/-- The engine of rope r that takes READY cairn t in this cycle, if any. -/
def State.chooseEng (s : State) (r : Nat) (t : ReadyEnt) : Option Nat :=
  let w1 := s.cw t.c 1
  let w3 := s.cw t.c 3
  let last := bits w1 9 0
  let lastv := w3.getLsbD 7
  let win := s.affCycles (bits w3 19 8)
  let phase := if !lastv then 3 else if s.tsc.cyc < t.tr + win then 1 else if s.tsc.cyc < t.tr + 2 * win then 2 else 3
  if !nbit (s.cw t.c 2).toNat r || s.instStopped (s.cInst t.c) then none
  else
    let all := ((List.range 32).map (32 * r + ·)).filter (fun e => s.eligible e (bits w1 19 12) (w1.getLsbD 11))
    let es := match phase with
      | 1 => all.filter (· == last)
      | 2 => if ropeOf last = r then all else []
      | _ => all
    let idle := es.filter (fun e => (s.getEng e).thr.isNone)
    if lastv && es.contains last then some last
    else match idle.find? (fun e => decide (s.erd R.ENG_STAT_PSTATE e ≤ 1)) with
      | some e => some e
      | none => match idle with
        | e :: _ => some e
        | [] => es.head?

/-- STAGE_COPY: the payload of the PACKET operand in the lowest slot that delivers one, for a reflex cairn (R282). -/
def State.stageCopy (s : State) (rfx : Bool) (ops : List Opd) : List (Word × Bool) × Nat × Nat × State :=
  match ops.find? (fun o => rfx && bits o.w1 31 28 == 1) with
  | none => ([], 0, 0, s)
  | some o =>
    let n := min 256 (bits o.w0 27 15)
    let (l, s) := s.readWords (saBuf (bits o.w0 31 28) (bits o.w0 13 0 * 16)) (cdiv n 4)
    (l, n, o.slot, s)
/-- PREFETCH_FILL: cairn t is assigned to engine e (R245). -/
def State.assign (s : State) (t : ReadyEnt) (e : Nat) : State :=
  let c := t.c
  let (ok, s) := s.tscRead c
  if !ok then s
  else
    let slots := (List.range 8).filter (fun k => decide (s.cCnt c k ≠ 0))
    let (ops, s) := slots.foldl (fun (acc : List Opd × State) k =>
      let s := acc.2
      let (l, s) := s.readWords (s.opSa c k (s.cHead c k)) 2
      let (w0, p0) := l.getD 0 (0, false)
      let (w1, p1) := l.getD 1 (0, false)
      let s := s.cwSet c 6 (4 * k + 3) (4 * k) ((s.cHead c k + 1) % max 1 (s.cDepth c k))
      (acc.1 ++ [{ slot := k, w0 := w0, w1 := w1, p0 := p0, p1 := p1 }], s.cwSet c 5 (4 * k + 3) (4 * k) (s.cCnt c k - 1))) ([], s)
    let s := (s.cwSet c 1 9 0 e).cwSet c 3 7 7 1
    let s := (s.leaveReady c).setCst c 4
    let words := (List.range 16).map (s.cw c)
    let (stage, n, slot, s) := s.stageCopy (s.cRfx c) ops
    let s := s.setEng e { s.getEng e with pref := some { c := c, words := words, ops := ops, stage := stage, stLen := n,
                                                         stSlot := slot, tr := t.tr } }
    let s := if (s.getEng e).thr.isNone && decide (2 ≤ s.erd R.ENG_STAT_PSTATE e) then s.wakeEng e 2 else s
    s.syncEng e
/-- One rope's turn in a dispatch cycle: at most one cairn (R244). -/
def State.dispatchRope (s : State) (r : Nat) : State :=
  let rec go : List ReadyEnt → Option (ReadyEnt × Nat)
    | [] => none
    | t :: l => match s.chooseEng r t with
      | some e => some (t, e)
      | none => go l
  let order := (List.range 8).flatMap (fun p => s.tsc.ready.filter (fun t => t.prio == p))
  match go (order.take 64) with
  | some (t, e) => s.assign t e
  | none => s
/-- DISPATCH_ASSIGN (R244, R262): one fabric cycle; after the assignments a refused SEND is offered again (R237, R255). -/
def execDispatchAssign (s : State) : Host.Outcome State Fault Refusal :=
  act s (fun s =>
    let first := (s.tsc.rope0 + 1) % 32
    let s := { s with tsc := { s.tsc with cyc := s.tsc.cyc + 1, rope0 := first } }
    let s := if s.on R.TSC_CTL_EN then s.forN 32 (fun k s => s.dispatchRope ((first + k) % 32)) else s
    s.forL (s.eng.filter (fun x => x.2.send.isSome)) (fun x s =>
      match x.2.send with
      | some r => s.sendTry x.1 r
      | none => s))

/-! ## Thread start (R247, R280–R283) -/

/-- The thread window of a dispatch: word index, word and poison mark (R281).  What STAGE holds beyond the staged payload is
not stated. -/
def windowWords (e : Nat) (p : Prefetch) (free : Nat → Word) : List (Nat × Word × Bool) :=
  let w := fun k => p.words.getD k 0
  let resumed := (w 14).getLsbD 19
  let mask := p.ops.foldl (fun n o => n + 2 ^ o.slot) 0
  let head : List (Nat × Word × Bool) :=
    [(0, w32 p.c, false), (1, w 15, false),
     (2, w32 (bits (w 0) 6 0 * 2 ^ 16 + b2n resumed * 2 ^ 12 + (if resumed then bits (w 11) 27 24 else 0) * 2 ^ 8 + mask), false),
     (3, w32 e, false), (20, w32 (p.stSlot * 2 ^ 12 + p.stLen), false)]
  let ops := p.ops.flatMap (fun o => [(4 + 2 * o.slot, o.w0, o.p0), (5 + 2 * o.slot, o.w1, o.p1)])
  let stage := (List.range 64).map (fun k =>
    let f := free k
    let (v, q) := p.stage.getD k (f, false)
    let n := 8 * (p.stLen - 4 * k)
    if 4 * k + 4 ≤ p.stLen then (64 + k, v, q)
    else if p.stLen ≤ 4 * k then (64 + k, f, false)
    else (64 + k, setBits f (n - 1) 0 (v.toNat % 2 ^ n), q))
  head ++ ops ++ stage
/-- An engine at the start of a thread (R280). -/
def Eng.start (x : Eng) (e : Nat) (p : Prefetch) (free : Nat → Word) : Eng :=
  let w := fun k => p.words.getD k 0
  let ws := windowWords e p free
  let win := ws.foldl (fun m v => smPut m 0 v.1 v.2.1) ([] : SMap Word)
  let pois := ws.foldl (fun m v => if v.2.2 then setAdd m v.1 else m) ([] : List Nat)
  let pc := if (w 14).getLsbD 19 then bits (w 14) 31 20 else bits (w 1) 31 20
  let g := smPut (smPut (smPut ([] : SMap Word) 0 1 (w 15)) 0 2 (w32 p.c)) 0 3 (smGet win 0 2)
  { x with thr := some { c := p.c, inst := bits (w 0) 6 0, rfx := (w 1).getLsbD 11, ops := p.ops }, pref := none,
           pc := w32 (4 * pc), g := g, v := [], acc := [], flags := 0, acp := 0, win := win, winPois := pois, lcyc := 0, lxpc := 0,
           xact := false, regpar := false, cause := 0, lxaddr := 0, lgw0 := 0, lgw1 := 0, nudge := false, wait := none,
           send := none, entry := none, exit := none, parBad := [], hbThr := true }
/-- The HOSTDESC operands of a dispatch are held by their cairn until its END (R414). -/
def State.holdJobs (s : State) (c : Nat) (ops : List Opd) : State :=
  let l := (ops.filter (fun o => bits o.w1 31 28 == 5)).map (fun o => (bits o.w1 26 16, bits o.w1 15 0))
  if l.isEmpty then s else { s with heldJobs := smPut s.heldJobs [] c (smGet s.heldJobs [] c ++ l) }
/-- CGOWN_CHECK: a thread of another instance on an owned engine raises CGOWN before its first instruction (R283). -/
def State.cgown (s : State) (e : Nat) : State :=
  let i := (s.getEng e).tinst
  if s.erd R.ENG_OWN_OWNEN e = 1 ∧ s.erd R.ENG_OWN_INST e ≠ i ∧ i ≠ s.mgr then
    let (w, s) := s.draw
    (s.violate i 0x08 0x40 e).raise e ⟨xCGOWN, w, false⟩
  else s
/-- THREAD_START (R247). -/
def execThreadStart (e : EngNo) (s : State) : Host.Outcome State Fault Refusal :=
  act s (fun s =>
    let e := e.toNat
    let x := s.getEng e
    match x.pref with
    | none => s
    | some p =>
      if x.thr.isSome || x.stalled.isSome || decide (2 ≤ s.erd R.ENG_STAT_PSTATE e) || s.swapping e || (s.physOf e).isNone ||
        s.cst p.c != 4 then s
      else
        let base := s.free
        let s := { s with free := s.free + 64 }
        let s := s.setEng e (x.start e p (fun k => Config.freeWord (base + k)))
        let s := (s.setCst p.c 5).storeWord (saCairn p.c 13) (s.cw p.c 13 + 1)
        let s := ((s.holdJobs p.c p.ops).ewr R.ENG_STAT_PSTATE 0 e).count R.ENG_CNT0_THREADS (ropeOf e) (slotOf e)
        let s := if s.erd R.ENG_DBG_HALTED e = 1 then s.ewr R.ENG_DBGPC_PC ((s.getEng e).pc.toNat / 4) e else s
        (s.syncEng e).cgown e)

/-! ## Reflex engines (R249, R250) -/

/-- The engine holds, running or prefetched, a cairn whose RFX is `rfx`. -/
def State.holdsRfx (s : State) (e : Nat) (rfx : Bool) : Bool :=
  let x := s.getEng e
  (match x.thr with | some t => t.rfx == rfx | none => false) ||
  (match x.pref with | some p => (p.words.getD 1 0).getLsbD 11 == rfx | none => false)
/-- Reflex engines hold only reflex cairns, and the others none (R249, R250). -/
def State.reflexSettled (s : State) (r : Nat) : Bool :=
  (List.range 32).all (fun k => !s.holdsRfx (32 * r + k) (!s.reflexEng (32 * r + k)))
/-- RFXN_WRITE (R249, R250): engines that change sides drop a prefetched cairn of the old kind. -/
def execRfxnWrite (fn : InstNo) (r : RopeNo) (n : BitVec 3) (s : State) : Host.Outcome State Fault Refusal :=
  act s (fun s => s.gated fn.toNat (R.TSC_ROPECFG_RFXN.off r.toNat) (fun s =>
    let r := r.toNat
    let old := min 4 (s.rd R.TSC_ROPECFG_RFXN r)
    let s := s.wr R.TSC_ROPECFG_RFXN n.toNat r
    if min 4 n.toNat = old then s
    else
      let s := s.forN 32 (fun k s =>
        let e := 32 * r + k
        match (s.getEng e).pref with
        | some p => if (p.words.getD 1 0).getLsbD 11 == s.reflexEng e then s else s.returnPref e
        | none => s)
      s.wr R.TSC_ROPECFG_RFXACT 0 r))
/-- REFLEX_SET_ACTIVE (R249, R250). -/
def execReflexSetActive (r : RopeNo) (s : State) : Host.Outcome State Fault Refusal :=
  act s (fun s => if s.reflexSettled r.toNat then s.wr R.TSC_ROPECFG_RFXACT 1 r.toNat else s)

/-! ## The cycle detector (R253, R254) -/

/-- Cairns whose stored STATE is not FREE. -/
def State.usedCairns (s : State) : List Nat :=
  s.mem.filterMap (fun e =>
    if 0x1020800000 ≤ e.1 ∧ e.1 < 0x1020C00000 ∧ e.1 % 64 = 3 then some ((e.1 - 0x1020800000) / 64) else none)
/-- Cairn c is WAITING with EDGE = 1: the cairn it waits on. -/
def State.edge (s : State) (c : Nat) : Option Nat :=
  if s.cst c = 6 ∧ (s.cw c 11).getLsbD 28 then some (bits (s.cw c 11) 15 0) else none
/-- The cycle that leads from c back to c0, within n edges. -/
def State.cycleFrom (s : State) (c0 : Nat) : Nat → Nat → List Nat → Option (List Nat)
  | 0, _, _ => none
  | n + 1, c, acc =>
    match s.edge c with
    | none => none
    | some d => if d = c0 then some (acc ++ [c]) else s.cycleFrom c0 n d (acc ++ [c])
/-- Age of a cairn's WSTAMP against the pass start; above 2²³ it counts as oldest (R254). -/
def State.wage (s : State) (c : Nat) : Nat :=
  let a := (s.ns.toNat / 256 + 2 ^ 24 - bits (s.cw c 12) 23 0) % 2 ^ 24
  if 2 ^ 23 < a then 2 ^ 24 else a
/-- The youngest cairn of a cycle; ties go to the highest number. -/
def State.youngest (s : State) : List Nat → Nat
  | [] => 0
  | [c] => c
  | c :: l => let d := s.youngest l
    if s.wage c < s.wage d ∨ (s.wage c = s.wage d ∧ d < c) then c else d
/-- CYCLE_BREAK (R254). -/
def State.breakCycle (s : State) (l : List Nat) : State :=
  let c := s.youngest l
  let s := ((s.count R.TSC_CNT0_CYCLES).wr R.TSC_STAT_CYCLE 1).wr R.TSC_LASTCYC_VALID 1
  ((s.wr R.TSC_LASTCYC_LEN (min 511 l.length)).wr R.TSC_LASTCYC_CAIRN c).resolveWait c 2
/-- DETECTOR_PASS (R253): one whole pass. -/
def execDetectorPass (s : State) : Host.Outcome State Fault Refusal :=
  act s (fun s =>
    if !s.on R.TSC_CTL_DETEN then s
    else
      let cs := s.usedCairns
      let s := s.forL (cs.filter (fun c => s.cst c == 6)) (fun c s => (s.tscRead c).2)
      let cycles := cs.filterMap (fun c =>
        match s.cycleFrom c cs.length c [] with
        | some l => if l.all (fun d => decide (c ≤ d)) then some l else none
        | none => none)
      s.forL cycles (fun l s => s.breakCycle l))

/-! ## The completion collector (R257–R260) -/

/-- LOG_RECORD_WRITE (R260). -/
def State.logRecord (s : State) (e : Nat) (r : EndRec) (lstat : Nat) : State :=
  let n := 2 ^ min 20 (max 4 (s.rd R.TSC_CRSIZE_LOG2N))
  let h := s.rd R.TSC_CRHEAD_HEAD % n
  let t := s.rd R.TSC_CRTAIL_TAIL % n
  if (h + 1) % n = t then (s.count R.TSC_CNT1_LOGLOST).wr R.TSC_STAT_LOGFULL 1
  else
    let ph := s.rd R.TSC_CRHEAD_PHASE
    let base := s.rd R.TSC_CRBASEHI_BASE_HI * 2 ^ 32 + s.rd R.TSC_CRBASELO_BASE * 16
    let s := s.putBytes (base + 16 * h)
      (wordsBytes [w32 (lstat * 2 ^ 24 + r.c), w32 (ph * 2 ^ 31 + e), r.runCyc, r.tEnd])
    let s := s.wr R.TSC_CRHEAD_HEAD ((h + 1) % n)
    if h + 1 = n then s.wr R.TSC_CRHEAD_PHASE (1 - ph) else s
/-- The record of a merged END or YIELD is logged where the cairn and TSC_CTL ask for it (R260). -/
def State.logMerged (s : State) (e : Nat) (r : EndRec) : State :=
  if s.on R.TSC_CTL_LOGEN && (s.cw r.c 3).getLsbD 6 then
    s.logRecord e r (match r.lstat with | some l => l.toNat | none => 0xFF)
  else s
/-- The PACKET operands of a run are released (R236). -/
def State.releaseOps (s : State) (ops : List Opd) : State := s.forL ops (fun o s => s.opdFree o.w0 o.w1)
/-- The merge of an END or fault record (R258, R301, R414). -/
def State.mergeEnd (s : State) (r : EndRec) (l : Byte) : State :=
  let c := r.c
  let s := (((s.setLstat c l.toNat).releaseBelay c).releaseOps r.ops).retireHeld c (if r.halted then 7 else 0)
  if r.halted then (s.setCst c 8).contain (s.cInst c)
  else if s.cPersist c then ((s.setCst c 1).cwSet c 14 19 19 0).evalReady c
  else s.setCst c 7
/-- The merge of a YIELD's record (R251, R258). -/
def State.mergeYield (s : State) (r : EndRec) (y : YieldRec) : State :=
  let c := r.c
  let (edge, on_) := match y.waitOn with | some w => (1, w.toNat) | none => (0, bits (s.cw c 11) 15 0)
  let s := (s.cwSet c 11 23 16 y.wreq.toNat).cwSet c 11 15 0 on_
  let s := (s.cwSet c 11 28 28 edge).cwSet c 11 29 29 (b2n y.timeout.isSome)
  let s := (s.cwSet c 14 31 20 y.rpc).cwSet c 12 23 0 (r.tEnd.toNat / 256)
  let s := (s.releaseBelay c).releaseOps r.ops
  let s := (s.setCst c 6).evalReady c
  if s.cst c ≠ 6 then s
  else match y.timeout with
    | none => s
    | some t => if 16384 ≤ s.tmrCount then s.resolveWait c 3 else s.armTimeout c ((s.ns48 + t.toNat) % 2 ^ 48)
/-- COMPLETION_RECORD_MERGE (R258): only a RUNNING cairn ends or yields (R231). -/
def execCompletionRecordMerge (e : EngNo) (s : State) : Host.Outcome State Fault Refusal :=
  act s (fun s =>
    let e := e.toNat
    let x := s.getEng e
    match x.cbuf with
    | none => s
    | some r =>
      let s := s.setEng e { x with cbuf := x.stalled, stalled := none }
      let (ok, s) := s.tscRead r.c
      if !ok || s.cst r.c != 5 then s.releaseOps r.ops
      else
        let s := match r.lstat, r.yield with
          | some l, _ => s.mergeEnd r l
          | none, some y => s.mergeYield r y
          | none, none => s
        s.logMerged e r)

end Sys2Proof.Machine
end

