-- ==== Sys2Proof/Machine/Inst.lean ====
section
/-! DEFINITION. What happens to an instance: FLR, quiet, reset actions and removal, and the commands of the host ports and of
the virtual instance manager that bring them about (R359–R385). -/

namespace Sys2Proof.Machine

/-! ## Reset actions and removal (R375–R377) -/

/-- A transaction from a descriptor of instance i is in progress (R375). -/
def State.txnOf (s : State) (i : Nat) : Bool :=
  (List.range 16).any (fun p =>
    let x := s.getPort p
    (match x.cur with
     | some t => (t.kind == .out || t.kind == .probe || t.kind == .inn) && Desc.inst t.words == i
     | none => false) ||
    (match x.cur0 with
     | some t => (match smFind x.pairs t.pair with | some y => Desc.inst y.words == i | none => false)
     | none => false))
/-- The instance is quiet (R375). -/
def State.quiet (s : State) (i : Nat) : Bool :=
  (s.wqOf i).all (fun c => (s.getWq c).jobs.all (fun j => j.st == .delivered)) && !s.chansBusy i && !s.txnOf i &&
  s.usedCairns.all (fun c =>
    !(decide (s.rd R.VIM_ICAIRN_BASE i ≤ c) && decide (c ≤ s.rd R.VIM_ICAIRN_LIMIT i)) || (s.cst c != 4 && s.cst c != 5))
/-- Cairns of the range of instance i that are not FREE. -/
def State.liveCairns (s : State) (i : Nat) : List Nat :=
  s.usedCairns.filter (fun c =>
    decide (s.rd R.VIM_ICAIRN_BASE i ≤ c) && decide (c ≤ s.rd R.VIM_ICAIRN_LIMIT i) && s.cst c != 0)
/-- The reset actions of an instance (R376, R536). -/
def State.resetActions (s : State) (i : Nat) : State :=
  let s := s.forL (s.liveCairns i) (fun c s => s.deactivateCairn c)
  let s := s.forL (s.wqOf i) (fun c s => s.wqDisable c (s.getFunc i).mute)
  let s := s.resetChans i
  let s := ((s.wr R.VIM_IVIOL_COUNT 0 i).wr R.VIM_IVIOL_COUNT_COLL 0 i).wr R.VIM_FVIOL_COUNT 0 i
  s.forL (s.evc.vec.filter (fun e => e.1 / 64 == i && decide (e.1 < 8192))) (fun e s => s.setVec e.1 {})
/-- Removal clears every ownership entry of the instance (R377). -/
def State.removal (s : State) (i : Nat) : State :=
  let s := { s with pipeTab := s.pipeTab.filterMap (fun (e : Nat × Byte) =>
    if e.2.toNat = 128 + i then (if i = 0 then none else some (e.1, BitVec.ofNat 8 i)) else some e) }
  let s := [R.VIM_ICAIRN_BASE, R.VIM_ICAIRN_LIMIT, R.VIM_IFLOW_BASE, R.VIM_IFLOW_LIMIT, R.VIM_IPOOL_BASE, R.VIM_IPOOL_LIMIT,
    R.VIM_IDMA_CHAN].foldl (fun s f => s.wr f f.rst i) s
  let s := s.forN 4 (fun k s => s.wr R.VIM_IGRkB_EN 0 i k)
  let s := s.forN 1024 (fun e s =>
    if s.erd R.ENG_OWN_OWNEN e = 1 ∧ s.erd R.ENG_OWN_INST e = i then s.ewr R.ENG_OWN_OWNEN 0 e else s)
  if i % 32 = 0 then
    [R.HPC_GRANT0_BLK, R.HPC_GRANT1_EWZ, R.HPC_GRANT2_ENG, R.HPC_GRANTRO_RO].foldl (fun s f => s.wr f 0 (i / 32)) s
  else s
/-- A QUIESCED instance enters RESETTING (R373, R376, R391). -/
def State.startReset (s : State) (i : Nat) : State := ((s.setInst i 4).wr R.VIM_FCTL_SELFRST 0 i).resetActions i

/-! ## FLR (R379–R381) -/

/-- Steps 2–5 of R379 for function i: unaccepted beats, reads, pending messages, configuration space and MSI-X table. -/
def State.flrSteps (s : State) (i : Nat) : State :=
  let s := s.flrChans i
  let s := { s with hostReads := s.hostReads.map (fun (e : Nat × HostRead) =>
                      if e.2.fn = i then (e.1, { e.2 with flr := true }) else e),
                    pba := s.pba.filter (fun (v : Nat) => decide (v / 64 ≠ i)),
                    msix := s.msix.filter (fun (e : Nat × Word) => decide (e.1 / 256 ≠ i)) }
  let s := s.forL (s.wqOf i) (fun c s =>
    let x := s.getWq c
    s.setWq c { x with reads := x.reads.map (fun r => { r with drop := true }) })
  s.setFunc i { s.getFunc i with msixEn := false, fMask := false, d3hot := false, cfg := {} }
/-- A VF is disabled: it is ABSENT, and reset and removed once it is quiet (R373). -/
def State.vfOff (s : State) (i : Nat) : State :=
  if s.inst i = 0 then s
  else
    let s := s.setFunc i { s.getFunc i with mute := true, vfGone := true, removing := false }
    let s := (s.flrSteps i).quiesceReturn i
    ((s.setInst i 0).setIflag R.VIM_ISTATE_VFGONE i)
/-- FUNCTION_LEVEL_RESET of function i (R379–R381). -/
def State.flr (s : State) (i : Nat) : State :=
  if s.inst i = 0 then s
  else if i = s.mgr then (s.flrSteps i).forL (s.wqOf i) (fun c s => s.wqDisable c true)
  else
    let s : State :=
      if i % 32 = 0 then
        let s := s.forN 31 (fun k s => s.vfOff (i + 1 + k))
        (s.wr R.HPC_PSTAT_VFEN 0 (i / 32)).wr R.HPC_PSTAT_NUMVF 0 (i / 32)
      else s
    let s := (s.setFunc i { s.getFunc i with mute := true }).flrSteps i
    if s.inst i = 1 then s.enterQuiescing i (some R.VIM_ISTATE_FLR) else s.setIflag R.VIM_ISTATE_FLR i
def execFunctionLevelReset (i : InstNo) (s : State) : Host.Outcome State Fault Refusal := act s (fun s => s.flr i.toNat)

/-- VF_ENABLE (R373). -/
def execVfEnable (i : InstNo) (s : State) : Host.Outcome State Fault Refusal :=
  act s (fun s =>
    let i := i.toNat
    let h := i / 32
    if i % 32 = 0 ∨ s.inst i ≠ 0 ∨ (s.getFunc i).vfGone then s
    else
      let s := (s.wr R.HPC_PSTAT_VFEN 1 h).wr R.HPC_PSTAT_NUMVF (max (i % 32) (s.rd R.HPC_PSTAT_NUMVF h)) h
      let s := [R.VIM_FCTL_SELFRST, R.VIM_FVIOL_COUNT, R.VIM_FVLAST_RES, R.VIM_FVLAST_KIND, R.VIM_FVLAST_UNIT].foldl
        (fun s f => s.wr f f.rst i) s
      (s.setFunc i {}).setInst i 1)
/-- VF_DISABLE (R373): NumVFs falls below the VF, and with it below every VF above it. -/
def execVfDisable (i : InstNo) (s : State) : Host.Outcome State Fault Refusal :=
  act s (fun s =>
    let i := i.toNat
    let h := i / 32
    if i % 32 = 0 ∨ s.inst i = 0 then s
    else
      let n := min (i % 32 - 1) (s.rd R.HPC_PSTAT_NUMVF h)
      let s := (s.forN (32 - i % 32) (fun k s => s.vfOff (i + k))).wr R.HPC_PSTAT_NUMVF n h
      if n = 0 then s.wr R.HPC_PSTAT_VFEN 0 h else s)

/-! ## Quiet and the end of the reset (R373, R375, R376) -/

/-- INSTANCE_QUIET (R373, R375). -/
def execInstanceQuiet (i : InstNo) (s : State) : Host.Outcome State Fault Refusal :=
  act s (fun s =>
    let i := i.toNat
    if !s.quiet i then s
    else if s.inst i = 2 then
      let s := (s.setInst i 3).setIflag R.VIM_ISTATE_QDONE i
      let s : State := match s.waiter (.quiesce i) with
        | some k => s.ok k [3]
        | none => s
      if (s.on R.VIM_ISTATE_FLR i && s.on R.VIM_ISTATE_AUTORST i) || s.on R.VIM_ISTATE_SELFRST i then s.startReset i else s
    else if s.inst i = 0 ∧ (s.getFunc i).vfGone then ((s.resetActions i).removal i).setFunc i {}
    else s)
/-- INSTANCE_RESET_COMPLETE (R376, R377, R447): every queue of the instance is OFF. -/
def execInstanceResetComplete (i : InstNo) (s : State) : Host.Outcome State Fault Refusal :=
  act s (fun s =>
    let i := i.toNat
    if s.inst i = 4 ∧ (s.wqOf i).all (fun c => s.wqState c == 0) then
      let f := s.getFunc i
      let s := if f.removing then s.removal i else s
      let s := (s.setFunc i { f with mute := false, removing := false }).setInst i 1
      match s.waiter (.reset i) with
      | some k => s.ok k [1]
      | none => s
    else s)
/-- An instance becomes ACTIVE again: its queues read on (R374, R403). -/
def State.resumeInst (s : State) (i : Nat) : State :=
  (s.setInst i 1).forL (s.wqOf i) (fun c s => (s.setWq c { s.getWq c with stopped := false }).takeCached c)

/-! ## VIM registers with rows of their own (R368, R383, R384) -/

/-- SELF_RESET (R382, R383). -/
def execSelfReset (i : InstNo) (s : State) : Host.Outcome State Fault Refusal :=
  act s (fun s =>
    let i := i.toNat
    if !s.legacy i then s.violate i 0x0B (0x80 + i / 32) i
    else if s.inst i = 1 then (s.wr R.VIM_FCTL_SELFRST 1 i).enterQuiescing i (some R.VIM_ISTATE_SELFRST)
    else s)
/-- A range base … limit, not empty, meets that of another instance (R368). -/
def State.overlaps (s : State) (fb fl : Field) (i b l : Nat) : Bool :=
  decide (b ≤ l) && (List.range 128).any (fun j =>
    j != i && decide (s.rd fb j ≤ s.rd fl j) && decide (max b (s.rd fb j) ≤ min l (s.rd fl j)))
/-- OWNERSHIP_RANGE_WRITE (R368). -/
def execOwnershipRangeWrite (fn : InstNo) (i : InstNo) (kind : RangeKind) (val : Word) (s : State) :
    Host.Outcome State Fault Refusal :=
  act s (fun s =>
    let i := i.toNat
    let (fb, fl, b, l) : Field × Field × Nat × Nat := match kind with
      | .cairn => (R.VIM_ICAIRN_BASE, R.VIM_ICAIRN_LIMIT, bits val 15 0, bits val 31 16)
      | .flow => (R.VIM_IFLOW_BASE, R.VIM_IFLOW_LIMIT, bits val 11 0, bits val 27 16)
      | .pool => (R.VIM_IPOOL_BASE, R.VIM_IPOOL_LIMIT, bits val 15 0, bits val 31 16)
    s.gated fn.toNat (fb.off i) (fun s =>
      if s.overlaps fb fl i b l then s.wr R.VIM_STAT_OVLERR 1 else (s.wr fb b i).wr fl l i))
/-- LEGACY_WRITE (R384). -/
def execLegacyWrite (fn : InstNo) (i : InstNo) (v : Bool) (s : State) : Host.Outcome State Fault Refusal :=
  act s (fun s => s.gated fn.toNat (R.VIM_ISTATE_LEGACY.off i.toNat) (fun s =>
    let i := i.toNat
    if s.inst i = 0 ∨ s.inst i = 3 then (s.wr R.VIM_ISTATE_LEGACY (b2n v) i).wr R.VIM_FSTAT_LEGACY (b2n v) i else s))

/-! ## Host ports (R359, R388, R604, R610) -/

/-- ATS_INVALIDATION (R359): the function's translations of the page leave the cache, whatever their PASID. -/
def execAtsInvalidation (i : InstNo) (page : BitVec 52) (s : State) : Host.Outcome State Fault Refusal :=
  act s (fun s =>
    let h := i.toNat / 32
    let l := (smGet s.xlat [] h).filter (fun x => !(x.fn == i.toNat && x.page == page.toNat))
    { s with xlat := smPut s.xlat [] h l }.emit (.atsDone i.toNat page))
/-- HOST_LINK_RESET (R610). -/
def execHostLinkReset (h : HostNo) (s : State) : Host.Outcome State Fault Refusal :=
  act s (fun s =>
    let h := h.toNat
    (((s.wr R.HPC_PSTAT_DLUP 0 h).wr R.HPC_PSTAT_WIDTH 0 h).wr R.HPC_PSTAT_SPEED 0 h).flr (32 * h))
/-- PCIE_RETRAIN (R388): RETRAIN reads 0 again as training starts. -/
def execPcieRetrain (fn : InstNo) (h : HostNo) (s : State) : Host.Outcome State Fault Refusal :=
  act s (fun s => s.gated fn.toNat (R.HPC_PCTL_RETRAIN.off h.toNat) (fun s =>
    (s.wr R.HPC_PCTL_RETRAIN 0 h.toNat).emit (.pcieTrain h.toNat)))
/-- Widest link and fastest rate that HPC_PCTL allows port h (R388). -/
def State.maxWidth (s : State) (h : Nat) : Nat :=
  match s.rd R.HPC_PCTL_MAXW h with
  | 0 => 4
  | 1 => 2
  | _ => 1
def State.maxSpeed (s : State) (h : Nat) : Nat :=
  let v := s.rd R.HPC_PCTL_MAXSPD h
  if 1 ≤ v ∧ v ≤ 5 then v else 5
/-- HOST_PORT_LINK_UP (R356, R388, R604): the link that the partner offers, within MAXW and MAXSPD. -/
def execHostPortLinkUp (h : HostNo) (width speed : BitVec 3) (s : State) : Host.Outcome State Fault Refusal :=
  act s (fun s =>
    let h := h.toNat
    let w := min width.toNat (s.maxWidth h)
    let v := min speed.toNat (s.maxSpeed h)
    ((s.wr R.HPC_PSTAT_DLUP 1 h).wr R.HPC_PSTAT_WIDTH w h).wr R.HPC_PSTAT_SPEED v h)

end Sys2Proof.Machine
end

