-- ==== Sys2Proof/Machine/Cmd.lean ====
section
/-! DEFINITION. Taking a command: the order of the cores, and the checks of R438 with the parameters each opcode has
(R435, R437–R439, R444, R446–R456). -/

namespace Sys2Proof.Machine

/-! ## The opcode tables -/

/-- Bits that a location of DESC_LINK and DESC_UNLINK may use in W4 and W5 (R449). -/
def linkMask (w4 : Word) : List Word :=
  match bits w4 31 30 with
  | 0 => [0x007FFFC0, 0]
  | 1 => [0xC0000000, 0xF]
  | 2 => [0xC0000000, 0x3FFF]
  | _ => [0xC0000000, 0x1FF]

/-- An opcode: whether an instance other than the manager may send it, and the bits of W3 onward that its parameters use
(R446–R456).  `none`: the opcode is not defined. -/
def opRow (c : Cmd) : Option (Bool × List Word) :=
  let any : Word := 0xFFFFFFFF
  match c.op with
  | 0x0101 => some (true, [any, any, any])
  | 0x0102 => some (true, [])
  | 0x0103 => some (true, [])
  | 0x0104 => some (false, [any, any, any])
  | 0x0201 => some (false, [0x7F, any])
  | 0x0202 => some (false, [0x7F])
  | 0x0203 => some (false, [0x7F])
  | 0x0204 => some (false, [0x7F])
  | 0x0205 => some (false, [0x7F])
  | 0x0301 => some (false, [0x7FFF, any])
  | 0x0302 => some (false, [0x7FFF])
  | 0x0303 => some (false, [0x7FF, any])
  | 0x0304 => some (false, [0x7FF])
  | 0x0305 => some (true, [0xFFFF])
  | 0x0306 => some (true, [0x7FF])
  | 0x0401 => some (true, 0x0F7FFFFC :: List.replicate (c.f 3 27 24) any)
  | 0x0402 => some (c.f 4 31 30 == 0, 0x007FFFC0 :: linkMask (c.w 4))
  | 0x0403 => some (c.f 4 31 30 == 0, 0x007FFFC0 :: linkMask (c.w 4))
  | 0x0404 => some (true, [0x007FFFC0, 0xF])
  | 0x0405 => some (true, [0xF])
  | 0x0501 => some (true, [0xFFFF])
  | 0x0502 => some (true, [0xFFFF])
  | 0x0503 => some (true, 0xFFFFFF :: List.replicate (c.f 3 23 20 + 1) any)
  | 0x0504 => some (true, [0xFFFFFF])
  | 0x0505 => some (true, [0xFF03FF, any, any, any, 0xFFF])
  | 0x0506 => some (true, [0x3FF])
  | 0x0507 => some (true, [0xFFF])
  | 0x0601 => some (true, [])
  | 0x0602 => some (true, [0xF])
  | 0x0701 => some (false, [0x1FF, any, any, any])
  | 0x0702 => some (false, [0x3FF, 0xFFFF, 0xFFFF])
  | 0x0703 => some (false, [0x1FF])
  | 0x0704 => some (false, [0x1FF])
  | 0x0705 => some (false, [0xFF])
  | 0x0801 => some (false, [0xF0F])
  | 0x0802 => some (false, [0x1F03, 7])
  | 0x0803 => some (false, [])
  | 0x0901 => some (false, [0x3FF])
  | 0x0902 => some (false, [0x7FF])
  | 0x0903 => some (false, [])
  | 0x0A01 => some (true, [any, any, any, any])
  | 0x0A02 => some (false, [0xFFFFFFFC, 0xFF])
  | _ => none

/-- A domain's allowed sources (R553). -/
def clkAllowed (d : Nat) : List Nat :=
  if d = 0 then [0, 1, 2]
  else if d < 3 then [0, 3, 2]
  else if d < 5 then [3, 2]
  else if d < 7 then [4, 0]
  else if d < 8 then []
  else if d < 12 then [5, 6, 0]
  else []

/-- The extents of a memory group without a gap inside: first offset and length (R469). -/
def State.groupExtents (s : State) (g : Nat) : List (Nat × Nat) :=
  if g < 0x20 then
    [(0, 0x80000), (0x100000, 0x4000)] ++ (List.range 32).map (fun p => (0x108000 + p * 0x10000, 0xC000)) ++ [(0x308000, 0x8000)]
  else if g = 0x20 then [(0, 0x800000)]
  else if g = 0x21 then [(0, 0x480000)]
  else if g < 0x24 then [(0, s.ddrSize (g - 0x22))]
  else []
/-- Offset o lies in the group. -/
def State.inGroup (s : State) (g o : Nat) : Bool := (s.groupExtents g).any (fun e => decide (e.1 ≤ o) && decide (o < e.1 + e.2))
/-- The n bytes from offset o lie in one extent of the group. -/
def State.rangeInGroup (s : State) (g o n : Nat) : Bool :=
  (s.groupExtents g).any (fun e => decide (e.1 ≤ o) && decide (o + n ≤ e.1 + e.2))
/-- Macros of an SRAM group, and rows of a macro (R469). -/
def groupMacros (g : Nat) : Nat := if g < 0x20 then 82 else if g = 0x20 then 128 else if g = 0x21 then 72 else 0
def macroRows (g m : Nat) : Nat :=
  if g < 0x20 then (if m < 16 then 2048 else if m % 2 = 0 then 1024 else 2048) else 4096

/-- A global address of a memory, whether or not it stands ready (R271, R456, R495). -/
def State.injectable (s : State) (a : Nat) : Bool :=
  decide (a < 0x1000000000) || (s.globalSa a).isSome ||
    (decide (0x1010000000 ≤ a) && decide (a < 0x1014000000) && (decide (a % 0x10000 < 0x4000) || decide (0x8000 ≤ a % 0x10000)))

/-! ## Ranges of the parameters -/

/-- Address 1–126 in W3 [10:4]. -/
def Cmd.devOk (c : Cmd) : Bool := decide (1 ≤ c.f 3 10 4) && decide (c.f 3 10 4 ≤ 126)
/-- A port location in W3 (R448). -/
def Cmd.locOk (c : Cmd) : Bool := decide (c.f 3 10 4 ≤ 126) && ((c.f 3 10 4 == 0) == (c.f 3 14 11 == 0))
/-- A wait in W4 of at least `lo` and at most 1,000,000 µs. -/
def Cmd.waitOk (c : Cmd) (lo : Nat) : Bool := decide (lo ≤ (c.w 4).toNat) && decide ((c.w 4).toNat ≤ 1000000)
/-- A host address in W3, W4 is 64-byte aligned. -/
def Cmd.bufOk (c : Cmd) : Bool := c.f 3 5 0 == 0
/-- The host address in W3, W4. -/
def Cmd.haddr (c : Cmd) : Nat := (c.w 4).toNat * 2 ^ 32 + (c.w 3).toNat
/-- A cairn range of at most `n` words (R450). -/
def Cmd.rangeOk (c : Cmd) (n : Nat) : Bool := decide (c.f 3 23 20 + 1 ≤ n) && decide (c.f 3 19 16 + c.f 3 23 20 + 1 ≤ 16)

/-- The first parameter that is out of the range its row gives (R438, R446–R457, R487). -/
def State.cmdRange (s : State) (c : Cmd) : Option Nat :=
  let need (ok : Bool) (n : Nat) : Option Nat := if ok then none else some n
  match c.op with
  | 0x0101 => need c.bufOk 3
  | 0x0104 => need c.bufOk 3
  | 0x0201 => (need (c.f 3 6 0 != s.mgr) 3).or (need (c.waitOk 0) 4)
  | 0x0202 => need (c.f 3 6 0 != s.mgr) 3
  | 0x0203 => need (c.f 3 6 0 != s.mgr) 3
  | 0x0204 => need (c.f 3 6 0 != s.mgr) 3
  | 0x0205 => need (c.f 3 6 0 != s.mgr) 3
  | 0x0301 => (need c.locOk 3).or (need (c.waitOk 1) 4)
  | 0x0302 => need c.locOk 3
  | 0x0303 => (need c.devOk 3).or (need (c.waitOk 1) 4)
  | 0x0304 => need c.devOk 3
  | 0x0305 => need c.devOk 3
  | 0x0306 => need c.devOk 3
  | 0x0401 =>
    need (decide (1 ≤ c.f 3 27 24) && decide (c.f 3 27 24 ≤ 12) && decide (c.f 3 22 2 + c.f 3 27 24 ≤ 2 ^ 21)) 3
  | 0x0503 => need (c.rangeOk 12) 3
  | 0x0504 => need (c.rangeOk 13) 3
  | 0x0505 =>
    let n := (c.w 6).toNat
    (need (c.f 4 1 0 == 0) 4).or ((need (decide (4 ≤ n) && decide (n ≤ 16384) && n % 4 == 0) 6).or
      (need (decide ((c.w 7).toNat + n / 4 ≤ 4096)) 7))
  | 0x0507 => need (c.f 3 11 0 != 0) 3
  | 0x0701 =>
    let g := c.f 3 7 0
    let o := (c.w 5).toNat * 2 ^ 32 + (c.w 4).toNat
    let n := (c.w 6).toNat
    (need (decide (g < 0x24)) 3).or ((need (o % 64 == 0 && s.inGroup g (o % 2 ^ 32)) 4).or ((need (s.inGroup g o) 5).or
      (need (decide (0 < n) && n % 64 == 0 && s.rangeInGroup g o n) 6)))
  | 0x0702 =>
    let g := c.f 3 7 0
    let m := (c.w 4).toNat
    (need (decide (g < 0x22)) 3).or ((need (decide (m < groupMacros g)) 4).or
      (need (decide ((c.w 5).toNat < (if c.f 3 9 9 = 1 then 160 else macroRows g m))) 5))
  | 0x0703 => need (decide (c.f 3 7 0 < 0x24)) 3
  | 0x0704 => need (c.f 3 7 0 == 0x22 || c.f 3 7 0 == 0x23) 3
  | 0x0705 => need (decide (c.f 3 7 0 < 0x24)) 3
  | 0x0801 => need ((clkAllowed (c.f 3 3 0)).contains (c.f 3 11 8)) 3
  | 0x0802 =>
    let k := c.f 3 1 0
    (need (decide (k < 3) && (k != 1 || decide (c.f 3 12 8 < 16)) && (k != 2 || c.f 3 12 8 == 0)) 3).or
      (need (decide ((c.w 4).toNat ≤ (if k = 2 then 4 else 3))) 4)
  | 0x0902 => need (decide (c.f 3 10 5 ≤ 32)) 3
  | 0x0A01 =>
    let n := (c.w 5).toNat
    (need c.bufOk 3).or (need (decide (64 ≤ n) && decide (n ≤ 65536) && n % 64 == 0) 5)
  | 0x0A02 => need (s.injectable ((c.w 4).toNat * 2 ^ 32 + (c.w 3).toNat)) 3
  | _ => none

/-- The first word with a bit that no field uses (R435, R438). -/
def cmdReserved (c : Cmd) (masks : List Word) : Option Nat :=
  (List.range 16).find? (fun n =>
    match n with
    | 0 => c.f 0 30 16 != 0
    | 1 => false
    | 2 => c.f 2 31 7 != 0
    | n => (c.w n &&& ~~~(masks.getD (n - 3) 0)) != 0)

/-! ## Ownership (R439, R444) -/

/-- The resources a command names, each with its resource number and whether instance i owns it; `none` for a resource
number that the spec does not give. -/
def State.cmdNames (s : State) (i : Nat) (c : Cmd) : List (Option Nat × Bool) :=
  let cairn := (some (c.f 3 15 0), s.ownsCairn i (c.f 3 15 0))
  let desc (w : Word) : Option Nat × Bool := (none, s.mgr == i || bits (s.rawWord (saList (bits w 22 6 * 64 + 4))) 6 0 == i)
  let eng := c.f 3 9 0
  match c.op with
  | 0x0305 =>
    let (p, a, d, e) := (c.f 3 3 0, c.f 3 10 4, c.f 3 11 11, c.f 3 15 12)
    [(some (pipeIdx p a d e), i == s.mgr || s.pipeOwner p a d e == i)]
  | 0x0306 =>
    let (p, a) := (c.f 3 3 0, c.f 3 10 4)
    [(none, i == s.mgr || (List.range 32).any (fun k => s.pipeOwner p a (k / 16) (k % 16) == i))]
  | 0x0401 =>
    [(none, (List.range (c.f 3 27 24)).all (fun k => s.granted i (saList ((c.f 3 22 2 + k) * 4)) true))]
  | 0x0402 => [desc (c.w 3)] ++ (if c.f 4 31 30 = 0 then [desc (c.w 4)] else [])
  | 0x0403 => [desc (c.w 3)] ++ (if c.f 4 31 30 = 0 then [desc (c.w 4)] else [])
  | 0x0404 => [desc (c.w 3)]
  | 0x0501 => [cairn]
  | 0x0502 => [cairn]
  | 0x0503 => [cairn]
  | 0x0504 => [cairn]
  | 0x0505 => [(some eng, i == s.mgr || (s.erd R.ENG_OWN_OWNEN eng == 1 && s.erd R.ENG_OWN_INST eng == i))]
  | 0x0506 => [(some eng, i == s.mgr || (s.erd R.ENG_OWN_OWNEN eng == 1 && s.erd R.ENG_OWN_INST eng == i))]
  | 0x0507 => [(some (c.f 3 11 0), s.ownsFlow i (c.f 3 11 0))]
  | _ => []

/-! ## COMMAND_TAKE -/

/-- What the checks of R438 decide: a status with its secondary, or none where the command may act. -/
def State.cmdCheck (s : State) (c : Cmd) (bad : Option Nat) : Option (Nat × Nat) × State :=
  let i := s.cmdInst c
  let spoof (res : Option Nat) : Option (Nat × Nat) × State :=
    let (w, s) := match res with
      | some n => (w32 n, s)
      | none => s.draw
    (some (stSPOOF, 0x09), s.violate i 0x09 0x70 w.toNat)
  match bad with
  | some n => (some (stMALFORMED, n), s)
  | none =>
    match opRow c with
    | none => (some (stUNKNOWN, 0), s)
    | some (t, masks) =>
      let wrong := match cmdReserved c masks, s.cmdRange c with
        | some a, some b => some (min a b)
        | some a, none => some a
        | none, b => b
      match wrong with
      | some n => (some (stMALFORMED, n), s)
      | none =>
        if i ≠ s.mgr ∧ ¬ t then (some (stDENIED, 0), s)
        else if c.f 2 6 0 ≠ i then spoof (some (c.f 2 6 0))
        else match (s.cmdNames i c).find? (fun r => !r.2) with
          | some (res, _) => spoof res
          | none => (none, s)

/-- The first context in staging order whose queue 0 has no command executing (R437). -/
def State.nextCtx (s : State) : Option Nat :=
  s.cmds.order.find? (fun c => s.cmds.cmd.all (fun e => decide (e.2.ctx ≠ c)))
/-- A list without its first `x`. -/
def dropFirst : List Nat → Nat → List Nat
  | [], _ => []
  | k :: l, x => if k = x then l else k :: dropFirst l x

/-- Core k takes the first staged command of context c. -/
def State.takeCmd (s : State) (k c : Nat) : State :=
  let x := s.getWq c
  let s := { s with cmds := { s.cmds with order := dropFirst s.cmds.order c } }
  match x.jobs.find? (fun j => j.st == .ready) with
  | none => s
  | some j =>
    let s := s.setWq c { x with jobs := x.jobs.map (fun q => if q.first = j.first then { q with st := .delivered } else q) }
    let (ws, s) := s.readWords (slotSa c j.slot) 16
    let cmd : Cmd := { ctx := c, idx := j.first, words := ws.map (·.1), wait := .toAct }
    let s := (s.putCmd k cmd).wr R.CMD_STAT_BUSY (setBits (s.rdw R.CMD_STAT_BUSY) k k 1).toNat
    match s.cmdCheck cmd ((List.range 16).find? (fun n => (ws.getD n (0, false)).2)) with
    | (some (st, sec), s) => s.fail k st sec
    | (none, s) => s
/-- COMMAND_TAKE (R437, R467, R592). -/
def execCommandTake (k : CoreNo) (s : State) : Host.Outcome State Fault Refusal :=
  act s (fun s =>
    let k := k.val
    if s.on R.CMD_STAT_FWRDY && !s.on R.CMD_CTL_HOLD && (s.getCmd k).isNone && s.rd R.HLT_CSLOT_STATE k == 0 then
      match s.nextCtx with
      | some c => s.takeCmd k c
      | none => s
    else s)

end Sys2Proof.Machine
end

