-- ==== Sys2Proof/Machine/Clk.lean ====
section
/-! DEFINITION. Reference, PLLs and clock-source switching (R548–R556, R590). -/

namespace Sys2Proof.Machine

/-! ## PLLs (R550, R551, R590) -/

/-- A domain uses PLL l (R553). -/
def State.pllUsed (s : State) (l : Nat) : Bool :=
  (List.range 12).any (fun d =>
    d != 7 && (match s.rd R.CLK_DSEL_CUR d with
      | 0 => false
      | 5 => l == 4 + (d - 8)
      | 6 => l == 4 + (if (d - 8) % 2 = 0 then d - 8 + 1 else d - 8 - 1)
      | k => l == k - 1))
/-- EN of a PLL changes. -/
def State.pllEn (s : State) (l en : Nat) : State :=
  if en = 0 then ((s.wr R.CLK_PLLCTL_EN 0 l).wr R.CLK_PLLSTAT_LOCK 0 l).wr R.CLK_PLLSTAT_READY 0 l else s.wr R.CLK_PLLCTL_EN 1 l
/-- PLL_CONTROL_WRITE (R551, R573): N is writable for CPLL0 and CPLL1, P for them too. -/
def execPllControlWrite (fn : InstNo) (l : BitVec 3) (val : Word) (s : State) : Host.Outcome State Fault Refusal :=
  act s (fun s => s.gated fn.toNat (R.CLK_PLLCTL_EN.off l.toNat) (fun s =>
    let l := l.toNat
    let en := bits val 31 31
    let (n, p) := if l < 2 then (bits val 23 16, bits val 1 0) else (s.rd R.CLK_PLLCTL_N l, s.rd R.CLK_PLLCTL_P l)
    let old := s.rd R.CLK_PLLCTL_EN l
    let change := n != s.rd R.CLK_PLLCTL_N l || p != s.rd R.CLK_PLLCTL_P l
    let s := if change then
        if old = 0 ∧ en = 0 then (s.wr R.CLK_PLLCTL_N n l).wr R.CLK_PLLCTL_P p l else s.wr R.CLK_STAT_CFGERR 1
      else s
    if en = old then s
    else if en = 0 ∧ s.pllUsed l then s.wr R.CLK_STAT_CFGERR 1
    else s.pllEn l en))
/-- PLL_LOCK (R551). -/
def execPllLock (l : BitVec 3) (s : State) : Host.Outcome State Fault Refusal :=
  act s (fun s => if s.on R.CLK_PLLCTL_EN l.toNat then s.wr R.CLK_PLLSTAT_LOCK 1 l.toNat else s)
/-- PLL_READY (R551, R590): CPLL1 under preparation reports it. -/
def execPllReady (l : BitVec 3) (s : State) : Host.Outcome State Fault Refusal :=
  act s (fun s =>
    let l := l.toNat
    if s.on R.CLK_PLLSTAT_LOCK l then
      let s := s.wr R.CLK_PLLSTAT_READY 1 l
      if l = 1 ∧ s.hlt.prep then { s with hlt := { s.hlt with prep := false } }.wr R.HLT_EVT_PLLRES 1 else s
    else s)
/-- CPLL0 is suspected; CPLL1 is prepared (R590). -/
def State.suspectCpll0 (s : State) : State :=
  let s := s.wr R.HLT_PLL_C0SUS 1
  if s.on R.HLT_CTL_AUTOPLL && !s.on R.CLK_PLLCTL_EN 1 then
    let s := (s.wr R.CLK_PLLCTL_N (s.rd R.CLK_PLLCTL_N 0) 1).wr R.CLK_PLLCTL_P (s.rd R.CLK_PLLCTL_P 0) 1
    { s.pllEn 1 1 with hlt := { s.hlt with prep := true } }
  else s
/-- PLL_LOSS_OF_LOCK (R551, R590). -/
def execPllLossOfLock (l : BitVec 3) (s : State) : Host.Outcome State Fault Refusal :=
  act s (fun s =>
    let l := l.toNat
    if s.on R.CLK_PLLSTAT_LOCK l then
      let s := ((s.wr R.CLK_PLLSTAT_LOCK 0 l).wr R.CLK_PLLSTAT_READY 0 l).wr R.CLK_EVT_LOL 1
      let s := s.count R.CLK_CNT_LOL
      if l = 0 then s.suspectCpll0 else s
    else s)
/-- CPLL0_SUSPECT (R590): its control voltage stays at an end of its range. -/
def execCpll0Suspect (s : State) : Host.Outcome State Fault Refusal :=
  act s (fun s => if s.on R.CLK_PLLCTL_EN 0 then s.suspectCpll0 else s)
/-- REFERENCE_OSCILLATOR_STOP (R548). -/
def execReferenceOscillatorStop (s : State) : Host.Outcome State Fault Refusal :=
  act s (fun s => s.wr R.CLK_STAT_OSCOK 0)
/-- REFERENCE_OSCILLATOR_RESTART (R548). -/
def execReferenceOscillatorRestart (s : State) : Host.Outcome State Fault Refusal :=
  act s (fun s => s.wr R.CLK_STAT_OSCOK 1)

/-! ## Source switching (R553, R555, R556) -/

/-- A source stands ready for domain d. -/
def State.srcReady (s : State) (d src : Nat) : Bool :=
  match src with
  | 0 => s.on R.CLK_STAT_OSCOK
  | 5 => s.on R.CLK_PLLSTAT_READY (4 + (d - 8))
  | 6 => s.on R.CLK_PLLSTAT_READY (4 + (if (d - 8) % 2 = 0 then d - 8 + 1 else d - 8 - 1))
  | k => s.on R.CLK_PLLSTAT_READY (k - 1)
/-- A source is allowed for domain d as things stand (R553). -/
def State.srcAllowed (s : State) (d src : Nat) : Bool :=
  (clkAllowed d).contains src &&
  (src != 0 || (if d = 5 ∨ d = 6 then !s.on R.MEM_DDRCFG_EN (d - 5)
    else if 8 ≤ d then (List.range 4).all (fun k => !s.on R.EWZ_CTL_EN (4 * (d - 8) + k)) else true))
/-- A switch of the engine, fabric or Eweiz domain suspends the bound of every open pair (R225). -/
def State.clkSuspend (s : State) (d : Nat) : State :=
  if d = 0 ∨ d = 1 ∨ 8 ≤ d then
    s.forN 16 (fun p s => s.suspendPairs p R.SCH_RFXSTAT_SUSP_CLK (fun _ => true))
  else s
/-- An accepted request for a source of domain d (R555, R556). -/
def State.clkSwitch (s : State) (d src : Nat) : State :=
  let s := s.wr R.CLK_DSEL_SRC src d
  if src = s.rd R.CLK_DSEL_CUR d then s
  else ((s.wr R.CLK_DSEL_SWPEND 1 d).count R.CLK_CNT_SWITCH).clkSuspend d
/-- CLOCK_SOURCE_SWITCH (R555, R573): CLK_DSEL.SRC. -/
def execClockSourceSwitch (fn : InstNo) (d : BitVec 4) (src : BitVec 4) (s : State) : Host.Outcome State Fault Refusal :=
  act s (fun s => s.gated fn.toNat (R.CLK_DSEL_SRC.off d.toNat) (fun s =>
    let (d, src) := (d.toNat, src.toNat)
    if d = 7 ∨ 12 ≤ d then s
    else if !s.srcAllowed d src || !s.srcReady d src || s.on R.CLK_DSEL_SWPEND d then s.wr R.CLK_EVT_SWREF 1
    else s.clkSwitch d src))
/-- CLOCK_SWITCH (R454, R555). -/
def execClockSwitch (k : CoreNo) (s : State) : Host.Outcome State Fault Refusal :=
  act s (fun s => s.runCmd k.val 0x0801 (fun c s =>
    let (d, src) := (c.f 3 3 0, c.f 3 11 8)
    if !s.srcAllowed d src then (s.wr R.CLK_EVT_SWREF 1).fail k.val stBAD_STATE 1
    else if !s.srcReady d src then (s.wr R.CLK_EVT_SWREF 1).fail k.val stNOT_READY src
    else if s.on R.CLK_DSEL_SWPEND d then (s.wr R.CLK_EVT_SWREF 1).fail k.val stBAD_STATE 1
    else
      let old := s.rd R.CLK_DSEL_CUR d
      (s.clkSwitch d src).ok k.val [w32 old]))
/-- An engine or rope is within an entry or exit (R567). -/
def State.powerMoves (s : State) : Bool :=
  !s.pwr.rope.isEmpty || s.eng.any (fun e => e.2.exit.isSome || s.inEntry e.1)
/-- CLOCK_SWITCH_COMPLETE (R556, R567): `lost`, the new source lost lock; `missed`, the PTU clocks that were held. -/
def execClockSwitchComplete (d : BitVec 4) (lost : Bool) (missed : BitVec 8) (s : State) : Host.Outcome State Fault Refusal :=
  act s (fun s =>
    let d := d.toNat
    if !s.on R.CLK_DSEL_SWPEND d || (d == 0 && s.powerMoves) then s
    else
      let s := if d = 3 then s.setTime (s.time + BitVec.ofNat 80 (missed.toNat * s.rd R.PTU_TINC_INC)) else s
      let src := s.rd R.CLK_DSEL_SRC d
      let s := s.wr R.CLK_DSEL_SWPEND 0 d
      if lost || !s.srcReady d src then s.wr R.CLK_EVT_SWREF 1 else s.wr R.CLK_DSEL_CUR src d)

end Sys2Proof.Machine
end

