-- ==== Sys2Proof/Machine/Lane.lean ====
section
/-! DEFINITION. The lane of an Eweiz link: 66-bit blocks and the scrambler, packets as blocks and blocks as packets, cut points,
and what stands in passage on a root port's lane (R71–R79, R131–R135, R143, R144, R169–R172, R179, R181). -/

namespace Sys2Proof.Machine

/-! ## Blocks (R71, R73, R132) -/

/-- The 64 bits of up to 8 bytes, byte 0 lowest. -/
def bytes64 (l : List Byte) : BitVec 64 := BitVec.ofNat 64 (l.foldr (fun b n => b.toNat + 256 * n) 0)
def Block.byte (k : Block) (n : Nat) : Byte := k.bits.extractLsb' (8 * n) 8
def Block.bytes (k : Block) : List Byte := (List.range 8).map k.byte
def dataBlock (l : List Byte) : Block := ⟨false, bytes64 l⟩
/-- A control block of a type; bytes that are not given are 0. -/
def ctrlBlock (ty : Nat) (l : List Byte) : Block := ⟨true, bytes64 (BitVec.ofNat 8 ty :: l)⟩

/-- Control block types (R73). -/
def bIDLE : Nat := 0x1E
def bSKIP : Nat := 0x2D
def bSOP : Nat := 0x4B
def bEOP : Nat := 0x55
def bCUT : Nat := 0x66
def bCONT : Nat := 0x6A
def bTRAIN : Nat := 0x78
def bGUARD : Nat := 0x87
def bLINKCMD : Nat := 0x99
def bABORT : Nat := 0xB4

def idle64 : List Block := List.replicate 64 (ctrlBlock bIDLE [])
def skipBlock : Block := ctrlBlock bSKIP []
def cutBlock : Block := ctrlBlock bCUT []
def contBlock : Block := ctrlBlock bCONT []
/-- The two bytes of a 16-bit field, low byte first (R2). -/
def le16 (x : BitVec 16) : List Byte := [x.extractLsb' 0 8, x.extractLsb' 8 8]
def guardBlock (frame : BitVec 16) : Block := ctrlBlock bGUARD (le16 frame)
def abortBlock (reason : Nat) : Block := ctrlBlock bABORT [BitVec.ofNat 8 reason]
/-- ABORT reasons (R181). -/
def aRESET : Nat := 0x01
def aBABBLE : Nat := 0x02
def aDISABLE : Nat := 0x03
def aUNDERRUN : Nat := 0x04
def aOTHER : Nat := 0xFF

/-- A LINKCMD, 4 times in a row (R76). -/
def linkCmd (cmd : Nat) (arg : List Byte) : List Block := List.replicate 4 (ctrlBlock bLINKCMD (BitVec.ofNat 8 cmd :: arg))
def suspendReq (level : Nat) : List Block := linkCmd 1 [BitVec.ofNat 8 level]
def retrainReq : List Block := linkCmd 4 []
def linkReset : List Block := linkCmd 5 []
def delayPing (seq : Nat) : List Block := linkCmd 6 (le16 (BitVec.ofNat 16 seq))

/-- A TRAIN block of the upstream side: the rates it supports, the step, the preset and the coefficients it asks for (R79). -/
def trainBlock (rates step preset : Nat) (coef : BitVec 16) : Block :=
  ctrlBlock bTRAIN ([BitVec.ofNat 8 (0x80 + rates), BitVec.ofNat 8 step, BitVec.ofNat 8 preset] ++ le16 coef)
/-- The rates that the downstream side names in a TRAIN block of step 1; none in any other block (R78, R79). -/
def trainRates (b : BitVec 64) : Option Nat :=
  if b.extractLsb' 0 8 = BitVec.ofNat 8 bTRAIN ∧ ¬ b.getLsbD 15 ∧ b.extractLsb' 16 8 = 1#8 then some (b.extractLsb' 8 3).toNat else none

/-! ## The scrambler (R72) -/

/-- 32 bits through x⁵⁸ + x³⁹ + 1: bit i is added to the bits of the line 39 and 58 places before it.  `h` holds the last 58 bits
of the line, the oldest lowest, so those two stand at 19 + i and i. -/
def scr32 (h : BitVec 58) (x : BitVec 32) : BitVec 32 := x ^^^ h.extractLsb' 19 32 ^^^ h.extractLsb' 0 32
/-- The last 58 bits of the line once 32 more have passed. -/
def lineHist (h : BitVec 58) (y : BitVec 32) : BitVec 58 := (y ++ h).extractLsb' 32 58
/-- The 64 bits of a block, scrambled, and the history after them. -/
def scramble64 (h : BitVec 58) (x : BitVec 64) : BitVec 64 × BitVec 58 :=
  let lo := scr32 h (x.extractLsb' 0 32)
  let h := lineHist h lo
  let hi := scr32 h (x.extractLsb' 32 32)
  (hi ++ lo, lineHist h hi)
/-- The 64 bits of a block as received, descrambled, and the history after them. -/
def descramble64 (h : BitVec 58) (y : BitVec 64) : BitVec 64 × BitVec 58 :=
  let lo := y.extractLsb' 0 32
  let hi := y.extractLsb' 32 32
  let x0 := scr32 h lo
  let h := lineHist h lo
  (scr32 h hi ++ x0, lineHist h hi)
/-- Blocks as they go over the lane: the sync header unscrambled, then the 64 bits (R71, R72). -/
def scramble (h : BitVec 58) : List Block → List (BitVec 66)
  | [] => []
  | k :: l =>
    let (y, h) := scramble64 h k.bits
    (y ++ (if k.ctrl then 2#2 else 1#2)) :: scramble h l
/-- Blocks as received; none has an invalid sync header (R71). -/
def descramble (h : BitVec 58) : List (BitVec 66) → List (Option Block)
  | [] => []
  | w :: l =>
    let (x, h) := descramble64 h (w.extractLsb' 2 64)
    (if w.extractLsb' 0 2 = 2#2 then some ⟨true, x⟩ else if w.extractLsb' 0 2 = 1#2 then some ⟨false, x⟩ else none) ::
      descramble h l
/-- The sync header of a received block is valid. -/
def syncOk (w : BitVec 66) : Bool := w.extractLsb' 0 2 == 1#2 || w.extractLsb' 0 2 == 2#2

/-! ## CRCs (R143, R144) -/

/-- One bit step of a reflected CRC of width w with polynomial `poly`. -/
def crcBit {w : Nat} (poly crc : BitVec w) : BitVec w := if crc.getLsbD 0 then (crc >>> 1) ^^^ poly else crc >>> 1
/-- One byte step. -/
def crcByte {w : Nat} (poly crc : BitVec w) (b : Byte) : BitVec w :=
  (List.range 8).foldl (fun c _ => crcBit poly c) (crc ^^^ b.zeroExtend w)
/-- The header CRC-16 over bytes (R143). -/
def crc16 (l : List Byte) : BitVec 16 := l.foldl (crcByte 0x8408#16) 0xFFFF#16
/-- The payload CRC-32 over bytes (R144). -/
def crc32 (l : List Byte) : Word := (l.foldl (crcByte 0xEDB88320#32) 0xFFFFFFFF#32) ^^^ 0xFFFFFFFF#32

/-! ## Headers and packets on the lane (R131, R132, R135) -/

/-- The fields of a header that the sender sets; HCRC follows from them. -/
structure Hdr where
  ty : Nat
  tc : Nat := 0
  addr : Nat := 0
  gen : Nat := 0
  dir : Bool := false
  ep : Nat := 0
  seq : Nat := 0
  bidx : Nat := 0
  len : Nat := 0
  flags : Nat := 0
  arg0 : Nat := 0
  arg1 : Word := 0
  arg2 : Nat := 0
  deriving DecidableEq, Repr

/-- HCRC of four header words: bytes 0–13 (R143). -/
def hcrcOf (h0 h1 h2 h3 : Word) : BitVec 16 :=
  crc16 (wordBytes h0 ++ wordBytes h1 ++ wordBytes h2 ++ (wordBytes h3).take 2)
/-- The four header words (R135). -/
def Hdr.words (h : Hdr) : List Word :=
  let h0 := w32 (h.ty * 2 ^ 28 + h.tc * 2 ^ 26 + h.addr * 2 ^ 19 + h.gen * 2 ^ 15 + b2n h.dir * 2 ^ 14 + h.ep * 2 ^ 10 +
    h.seq % 64 * 2 ^ 4 + h.bidx)
  let h1 := w32 (h.len * 2 ^ 19 + h.flags * 2 ^ 16 + h.arg0)
  [h0, h1, h.arg1, w32 ((hcrcOf h0 h1 h.arg1 (w32 h.arg2)).toNat * 2 ^ 16 + h.arg2)]
/-- The bytes of a packet between SOP and EOP: header, payload, and its CRC-32 low byte first where there is one. -/
def packetBytes (hdr : List Word) (payload : List Byte) : List Byte :=
  hdr.flatMap wordBytes ++ payload ++ (if payload.isEmpty then [] else wordBytes (crc32 payload))
/-- Bytes as data blocks, packed without gaps. -/
def dataBlocks (l : List Byte) : List Block :=
  (List.range (cdiv l.length 8)).map (fun k => dataBlock ((l.drop (8 * k)).take 8))
/-- Valid bytes of the last of the data blocks that hold n bytes. -/
def lastValid (n : Nat) : Nat := (n + 7) % 8 + 1
/-- A packet: SOP, its data blocks, EOP (R131). -/
def packetBlocks (hdr : List Word) (payload : List Byte) : List Block :=
  let l := packetBytes hdr payload
  ctrlBlock bSOP [] :: dataBlocks l ++ [ctrlBlock bEOP [BitVec.ofNat 8 (lastValid l.length)]]
/-- The cut points of a packet of LENGTH n, as blocks from its SOP: between header and payload, and after every 256th payload byte
that further payload follows (R169). -/
def cutPoints (n : Nat) : List Nat := (List.range (cdiv n 256)).map (fun k => 3 + 32 * k)

/-! ## Packets out of received blocks (R75, R131–R133) -/

/-- Where a receiver stands in the blocks of a packet: before its SOP, inside it, between CUT and the inserted packet's SOP, inside
that, behind it, and past its own end. -/
inductive RxAt where
  | start | body | cut | inner | after | ended
  deriving DecidableEq, Repr
/-- What a receiver has put together of a packet. -/
structure RxAcc where
  pos : RxAt := .start
  bytes : List Byte := []
  abort : Option Byte := none
  bad : Bool := false
  deriving DecidableEq, Repr
/-- Takes a block into the packet.  SKIP may stand between segments; any other block out of its place, and every invalid block,
spoils the packet that it stands in. -/
def RxAcc.take (x : RxAcc) (k : Option Block) : RxAcc :=
  match k with
  | none => if x.pos = .inner then x else { x with bad := true }
  | some k =>
    let ty := (k.byte 0).toNat
    match x.pos with
    | .start => if k.ctrl ∧ ty = bSOP then { x with pos := .body } else { x with bad := true }
    | .body =>
      if ¬ k.ctrl then { x with bytes := x.bytes ++ k.bytes }
      else if ty = bEOP then
        let n := (k.byte 1).toNat
        { x with pos := .ended, bytes := x.bytes.take (x.bytes.length + n - 8), bad := x.bad || n == 0 || decide (8 < n) }
      else if ty = bABORT then { x with pos := .ended, abort := some (k.byte 1) }
      else if ty = bCUT then { x with pos := .cut }
      else if ty = bSKIP then x
      else { x with bad := true }
    | .cut => if k.ctrl ∧ ty = bSOP then { x with pos := .inner } else { x with bad := true }
    | .inner => if k.ctrl ∧ (ty = bEOP ∨ ty = bABORT) then { x with pos := .after } else x
    | .after =>
      if k.ctrl ∧ ty = bCONT then { x with pos := .body }
      else if k.ctrl ∧ ty = bABORT then { x with pos := .ended, abort := some (k.byte 1) }
      else { x with bad := true }
    | .ended => { x with bad := true }

/-- A received packet: its header words, payload and CRC-32, the bytes between its SOP and EOP, the reason where it ended with
ABORT, and whether its blocks stand as R75 and R131 order them. -/
structure RxPacket where
  h0 : Word
  h1 : Word
  h2 : Word
  h3 : Word
  payload : List Byte
  crc : Word
  nbytes : Nat
  abort : Option Byte
  bad : Bool
  deriving DecidableEq, Repr
/-- The bytes behind the header: payload, and its CRC-32 where LENGTH is not 0. -/
def rxPayload (h1 : Word) (l : List Byte) : List Byte × Word :=
  if h1.extractLsb' 19 13 = 0 then (l, 0) else (l.take (l.length - 4), bytesWord (l.drop (l.length - 4)))
/-- The packet that received blocks hold. -/
def rxPacketOf (l : List (Option Block)) : RxPacket :=
  let x := l.foldl RxAcc.take {}
  let w (n : Nat) : Word := bytesWord ((x.bytes.drop (4 * n)).take 4)
  let (payload, crc) := rxPayload (w 1) (x.bytes.drop 16)
  { h0 := w 0, h1 := w 1, h2 := w 2, h3 := w 3, payload := payload, crc := crc, nbytes := x.bytes.length, abort := x.abort,
    bad := x.bad || x.pos != .ended }

end Sys2Proof.Machine

namespace Sys2Proof

/-- The packet that stands on a received line (R72, R131). -/
def RxLine.packet (k : RxLine) : Machine.RxPacket := Machine.rxPacketOf (Machine.descramble k.seed k.line)

end Sys2Proof

namespace Sys2Proof.Machine

def RxPacket.ty (k : RxPacket) : Nat := bits k.h0 31 28
def RxPacket.tc (k : RxPacket) : Nat := bits k.h0 27 26
def RxPacket.addr (k : RxPacket) : Nat := bits k.h0 25 19
def RxPacket.gen (k : RxPacket) : Nat := bits k.h0 18 15
def RxPacket.dir (k : RxPacket) : Bool := k.h0.getLsbD 14
def RxPacket.ep (k : RxPacket) : Nat := bits k.h0 13 10
def RxPacket.seq (k : RxPacket) : Nat := bits k.h0 9 4
def RxPacket.len (k : RxPacket) : Nat := bits k.h1 31 19
def RxPacket.last (k : RxPacket) : Bool := k.h1.getLsbD 18
def RxPacket.retx (k : RxPacket) : Bool := k.h1.getLsbD 17
def RxPacket.bend (k : RxPacket) : Bool := k.h1.getLsbD 16
def RxPacket.arg0 (k : RxPacket) : Nat := bits k.h1 15 0
/-- The blocks of the packet stand in their order up to its EOP, and its header is there. -/
def RxPacket.framed (k : RxPacket) : Bool := k.abort.isNone && !k.bad && decide (16 ≤ k.nbytes)
/-- The header CRC, and the payload CRC where the packet has one, agree. -/
def RxPacket.crcOk (k : RxPacket) : Bool :=
  decide (bits k.h3 31 16 = (hcrcOf k.h0 k.h1 k.h2 k.h3).toNat) && (k.len == 0 || k.crc == crc32 k.payload)
/-- The packet is complete and its fields are in range (R133). -/
def RxPacket.formOk (k : RxPacket) : Bool :=
  k.framed && decide (k.len ≤ 4096) && decide (k.nbytes = 16 + k.len + (if 0 < k.len then 4 else 0)) && decide (k.ty ≠ 0) &&
  decide (k.ty < 0xD)

/-! ## The lane of a root port (R74, R75, R169–R172, R179) -/

/-- A low-frequency burst of its nominal length (R77). -/
def Burst.ns : Burst → Nat
  | .keep => 200 | .wake => 400 | .presence => 2000 | .reset => 20000
/-- A burst of n ns is recognised (R77). -/
def Burst.heard (b : Burst) (n : Nat) : Bool :=
  match b with
  | .keep => decide (160 ≤ n) && decide (n ≤ 240)
  | .wake => decide (320 ≤ n) && decide (n ≤ 480)
  | .presence => decide (1600 ≤ n) && decide (n ≤ 2400)
  | .reset => decide (16000 ≤ n)
def burstOut (p : Nat) (b : Burst) : Output := .burst p b b.ns

/-- Blocks l that leave together, with a SKIP before them where the interval would pass 2,048 blocks; `n` blocks have left since
the last SKIP (R74). -/
def laneOuts (p n : Nat) (l : List Block) : List Output :=
  (if 2047 < n + l.length then [.lane p [skipBlock]] else []) ++ [.lane p l]
/-- Blocks leave root port p together. -/
def State.laneOut (s : State) (p : Nat) (l : List Block) : State :=
  let x := s.getPort p
  let n := if 2047 < x.unskip + l.length then l.length else x.unskip + l.length
  (s.setPort p { x with unskip := n }).emits (laneOuts p x.unskip l)
/-- What has not left of a packet in passage. -/
def Passing.rest (x : Passing) : List Block := (if x.cut then [contBlock] else []) ++ x.blocks.drop x.sent
/-- Every packet in passage has left. -/
def State.passAll (s : State) (p : Nat) : State :=
  let l := (s.getPort p).pass
  if l.isEmpty then s
  else (s.setPort p { s.getPort p with pass := [] }).forL l (fun x s => s.laneOut p x.rest)
/-- Blocks leave behind everything in passage. -/
def State.lane (s : State) (p : Nat) (l : List Block) : State := (s.passAll p).laneOut p l
/-- A DATA packet of a burst enters passage (R151). -/
def State.pass (s : State) (p addr : Nat) (hdr : List Word) (payload : List Byte) : State :=
  let x := s.getPort p
  s.setPort p { x with pass := x.pass ++ [⟨addr, payload.length, packetBlocks hdr payload, 0, false⟩] }
/-- The points of a packet at which it may pause, counted in blocks: its start, and its cut points that are still to come. -/
def Passing.points (x : Passing) : List Nat := (if x.sent = 0 then [0] else []) ++ (cutPoints x.len).filter (fun k => x.sent ≤ k)
/-- The points in passage: the number of packets that leave before it, and the blocks of the packet behind them. -/
def passPoints : List Passing → List (Nat × Nat)
  | [] => [(0, 0)]
  | x :: l => x.points.map (fun k => (0, k)) ++ (passPoints l).map (fun e => (e.1 + 1, e.2))
/-- The lane reaches a point in passage: the packets before it have left, and the packet there up to it. -/
def State.passTo (s : State) (p : Nat) (at_ : Nat × Nat) : State :=
  let l := (s.getPort p).pass
  let s := s.forL (l.take at_.1) (fun x s => s.laneOut p x.rest)
  match l.drop at_.1 with
  | [] => s.setPort p { s.getPort p with pass := [] }
  | x :: t =>
    let out := (if x.cut then [contBlock] else []) ++ (x.blocks.take at_.2).drop x.sent
    let s := if out.isEmpty then s else s.laneOut p out
    s.setPort p { s.getPort p with pass := { x with sent := at_.2, cut := false } :: t }
/-- The lane has come to a point in passage that timing gives: which one is a free choice. -/
def State.passSome (s : State) (p : Nat) : (Nat × Nat) × State :=
  let l := passPoints (s.getPort p).pass
  let (k, s) := s.choose l.length
  let at_ := l.getD k (0, 0)
  (at_, s.passTo p at_)
/-- A SOF or class-0 packet leaves: at once on an idle lane and between packets, else at a cut point, behind CUT; CONT follows
when the cut packet goes on (R75, R170–R172). -/
def State.insert (s : State) (p : Nat) (l : List Block) : State :=
  if (s.getPort p).pass.isEmpty then s.laneOut p l
  else
    let (at_, s) := s.passSome p
    match (s.getPort p).pass with
    | x :: t =>
      if at_.2 = 0 then s.laneOut p l
      else
        let s := s.laneOut p (cutBlock :: l)
        s.setPort p { s.getPort p with pass := { x with cut := true } :: t }
    | [] => s.laneOut p l
/-- A SKIP leaves, between packets or between two segments (R74). -/
def State.skip (s : State) (p : Nat) : State :=
  let s := if (s.getPort p).pass.isEmpty then s else (s.passSome p).2
  (s.setPort p { s.getPort p with unskip := 0 }).emit (.lane p [skipBlock])
/-- The blocks of the packets in passage of which k have left, and whether the last of them belongs to a packet that goes on. -/
def passLeft : Nat → List Passing → List Block × Bool
  | _, [] => ([], false)
  | k, x :: l =>
    let n := x.blocks.length - x.sent
    if k = 0 then ([], decide (0 < x.sent))
    else if n ≤ k then let r := passLeft (k - n) l; (x.rest ++ r.1, r.2)
    else ((if x.cut then [contBlock] else []) ++ (x.blocks.drop x.sent).take k, true)
/-- The packets in passage end: how far they had left is a free choice.  The one that is on the lane ends with ABORT, in place of
CONT where it stands cut; `r` none: it ends without (R75, R179, R642). -/
def State.passEnd (s : State) (p : Nat) (r : Option Nat) : State :=
  let l := (s.getPort p).pass
  if l.isEmpty then s
  else
    let (k, s) := s.choose ((l.map (fun x => x.blocks.length - x.sent)).sum + 1)
    let (out, on) := passLeft k l
    let out := out ++ (match r with | some r => if on then [abortBlock r] else [] | none => [])
    let s := s.setPort p { s.getPort p with pass := [] }
    if out.isEmpty then s else s.laneOut p out
/-- The packets in passage to address a end with ABORT (R179). -/
def State.passAbort (s : State) (p a r : Nat) : State :=
  if (s.getPort p).pass.any (fun x => x.addr == a) then s.passEnd p (some r) else s

end Sys2Proof.Machine
end

