-- ==== Sys2Proof/Machine/TxCore.lean ====
section
/-! DEFINITION. The tokens, handshakes and bursts that a root port sends (R130–R164, R182). -/

namespace Sys2Proof.Machine

/-! ## Packets that leave -/

/-- The blocks of a packet with its LENGTH filled in (R131). -/
def Hdr.packet (h : Hdr) (payload : List Byte) : List Block := packetBlocks ({ h with len := payload.length }).words payload
/-- A packet leaves root port p behind everything in passage. -/
def State.send (s : State) (p : Nat) (h : Hdr) (payload : List Byte) : State := s.lane p (h.packet payload)
/-- A SOF or class-0 packet leaves root port p, cut into the packet in passage (R170, R171). -/
def State.sendCut (s : State) (p : Nat) (h : Hdr) (payload : List Byte) : State := s.insert p (h.packet payload)
/-- A DATA packet of classes 1–3 enters passage. -/
def State.sendData1 (s : State) (p : Nat) (h : Hdr) (payload : List Byte) : State :=
  s.pass p h.addr ({ h with len := payload.length }).words payload

/-! ## Tokens and bursts -/

/-- A token, PROBE or handshake of the root port on an endpoint. -/
def State.ctl (s : State) (p ty tc addr gen : Nat) (din : Bool) (ep seq flags arg0 : Nat) : State :=
  s.send p { ty := ty, tc := tc, addr := addr, gen := gen, dir := din, ep := ep, seq := seq, flags := flags, arg0 := arg0 } []
/-- A pipe that is resynchronised (R146, R150). -/
def Pipe.resync (x : Pipe) : Pipe := { x with seq := 0, credit := 1, waiting := false, due := false, sync := false }
/-- The pipe as its next token uses it: a due SYNC takes effect with that token (R162, R168). -/
def Pipe.forToken (x : Pipe) : Pipe := if x.sync then x.resync else x

def State.setCur (s : State) (p : Nat) (t : Option Txn) : State := s.setPort p { s.getPort p with cur := t }

/-- A handshake of type ty on the endpoint of an IN transaction leaves, or waits for PREWARN to end (R136, R189). -/
def State.answer (s : State) (p ty : Nat) (t : Txn) (seq credit : Nat) : State :=
  let h : Hdr := { ty := ty, tc := t.tc, addr := t.addr, gen := t.gen, dir := t.dirIn, ep := t.ep, seq := seq, arg0 := credit }
  if s.on R.PTU_PSTAT_PREWARN p then s.setPort p { s.getPort p with held := (s.getPort p).held ++ [h.packet []] }
  else s.send p h []
/-- The handshakes that waited leave once PREWARN has ended and the SOF has gone (R189). -/
def State.sendHeld (s : State) (p : Nat) : State :=
  let l := (s.getPort p).held
  if l.isEmpty ∨ s.on R.PTU_PSTAT_PREWARN p ∨ (s.getFrame p).sof.isSome ∨ s.lstate p ≠ lL0 then s
  else (s.setPort p { s.getPort p with held := [] }).forL l (fun b s => s.lane p b)
/-- The handshake of a received burst: ACK with a credit, or NOTYET (R151, R153). -/
def State.handshake (s : State) (p : Nat) (t : Txn) (seq credit : Nat) : State :=
  if credit = 0 then s.answer p 7 t seq 0 else s.answer p 5 t seq credit

/-- The payload of packet j of a burst: the retained one where the packet was sent before (R145), else read from its buffer, with
the poison it is delivered with (R182). -/
def State.payload (s : State) (d : Desc) (x : Xfer) (j : Nat) : List Byte × Bool × State :=
  match x.kept[j]? with
  | some l => (l, false, s)
  | none => s.getBytes (d.buf + x.done + j * d.mps) (min d.mps (d.tlen - x.done - j * d.mps))
/-- The DATA packets of an OUT burst from index j on, until one is poisoned: those sent, the payloads retained (R145, R148, R149,
R182). -/
def State.sendData (d : Desc) (x : Xfer) (p seq0 n : Nat) : Nat → Nat → List (List Byte) → State → List (List Byte) × Bool × State
  | 0, _, kept, s => (kept, false, s)
  | f + 1, j, kept, s =>
    match s.payload d x j with
    | (_, true, s) => (kept, true, s)
    | (l, false, s) =>
      let flags := b2n (decide (x.acked + j + 1 = d.packets)) * 4 + b2n (decide (x.acked + j < x.sent)) * 2 +
        b2n (decide (j + 1 = n))
      let s := s.sendData1 p { ty := 4, tc := d.cls, addr := d.addr, gen := d.gen, ep := d.ep, seq := seq0 + j, bidx := j,
                               flags := flags } l
      State.sendData d x p seq0 n f (j + 1) (kept ++ [l]) s

/-- A transaction of a descriptor. -/
def mkTxn (k : TxKind) (a : Nat) (d : Desc) (src : Where) (n : Nat) (seq0 : Nat) : Txn :=
  { kind := k, desc := a, words := d, src := src, addr := d.addr, gen := d.gen, dirIn := d.dirIn, ep := d.ep, tc := d.cls,
    n := n, seq0 := BitVec.ofNat 6 seq0, answered := false, ended := none, full := false }

/-- A TOKEN_OUT with SYNC and NODATA on an OUT pipe (R182). -/
def State.startPsync (s : State) (p : Nat) (t : Txn) : State :=
  let s := s.setPipe p t.addr false t.ep (s.pipe p t.addr false t.ep).resync
  (s.ctl p 3 t.tc t.addr t.gen false t.ep 0 5 0).setCur p (some t)
/-- TOKEN_OUT: a burst of n packets of an OUT descriptor (R151, R182). -/
def State.startOut (s : State) (p a : Nat) (d : Desc) (btd : Bool) (src : Where) (n : Nat) : State :=
  let q0 := s.pipe p d.addr false d.ep
  let q := q0.forToken
  let x := (s.xfer p a).getD { btd := btd }
  let s := s.setPipe p d.addr false d.ep q
  let (_, pois0, _) := s.payload d x 0
  let s1 := if pois0 then s
    else s.ctl p 3 d.cls d.addr d.gen false d.ep q.seq.toNat (b2n q0.sync * 4) (n - 1)
  let (kept, pois, s1) := State.sendData d x p q.seq.toNat n n 0 [] s1
  let k := kept.length
  let y := { x with sent := max x.sent (x.acked + k), retx := x.retx + min k (x.sent - x.acked), kept := kept ++ x.kept.drop k }
  let s1 := s1.setXfer p a y
  if pois then
    let any := decide (0 < y.sent)
    let s1 := s1.endXfer p a d btd dPOISONED any
    if any then
      s1.startPsync p { mkTxn .psync 0 d src 0 0 with dirIn := false }
    else s1.setPipe p d.addr false d.ep q0
  else s1.setCur p (some (mkTxn .out a d src n q.seq.toNat))

/-- TOKEN_IN of an IN descriptor for n packets (R152, R210). -/
def State.startIn (s : State) (p a : Nat) (d : Desc) (btd : Bool) (src : Where) (n : Nat) : State :=
  let q0 := s.pipe p d.addr true d.ep
  let q := q0.forToken
  let s := s.setPipe p d.addr true d.ep { q with due := false }
  let s := match s.xfer p a with | some _ => s | none => s.setXfer p a { btd := btd }
  let s := s.ctl p 2 d.cls d.addr d.gen true d.ep q.seq.toNat (b2n q0.sync * 4) (n - 1)
  s.setCur p (some (mkTxn .inn a d src n q.seq.toNat))

/-- PROBE on a waiting OUT pipe (R156). -/
def State.startProbe (s : State) (p a : Nat) (d : Desc) (src : Where) : State :=
  let q := s.pipe p d.addr false d.ep
  let s := s.setPipe p d.addr false d.ep { q with due := false }
  let s := s.ctl p 9 d.cls d.addr d.gen false d.ep q.seq.toNat 0 0
  s.setCur p (some (mkTxn .probe a d src 0 q.seq.toNat))

/-- The poll of a hub's endpoint 1 (R118). -/
def State.startHub (s : State) (p a : Nat) : State :=
  let g := s.rd R.EWZ_ADDRTAB0_GEN p a
  let q0 := s.pipe p a true 1
  let q := q0.forToken
  let s := s.setPipe p a true 1 q
  let s := s.ctl p 2 2 a g true 1 q.seq.toNat (b2n q0.sync * 4) 0
  s.setCur p (some { kind := .hub, desc := 0, words := [], src := .bulk, addr := a, gen := g, dirIn := true, ep := 1, tc := 2,
                     n := 1, seq0 := q.seq, answered := false, ended := none, full := false })

/-- The next token of the firmware transaction at the head of the queue: SETUP with its request, the reply's TOKEN_IN, or a
SYNC token of PIPE_CLEAR (R149, R161, R163).  n: the packets that the reply's TOKEN_IN asks for. -/
def State.startFw (s : State) (p : Nat) (j : FwJob) (n : Nat) : State :=
  let t : Txn := { kind := .setup, desc := 0, words := [], src := .bulk, addr := j.addr, gen := j.gen, dirIn := false, ep := j.ep,
                   tc := j.tc, n := 1, seq0 := 0, answered := false, ended := none, full := false }
  if j.isClear then
    let q := s.pipe p j.addr j.dirIn j.ep
    let s := s.setPipe p j.addr j.dirIn j.ep { q.resync with halted := q.halted }
    let s := if j.dirIn then s.ctl p 2 j.tc j.addr j.gen true j.ep 0 4 0 else s.ctl p 3 j.tc j.addr j.gen false j.ep 0 5 0
    s.setCur p (some { t with kind := .clear, dirIn := j.dirIn, n := if j.dirIn then 1 else 0 })
  else if j.setupDone then
    let q := s.pipe p j.addr true 0
    let s := s.setPipe p j.addr true 0 { q with due := false }
    let s := s.ctl p 2 j.tc j.addr j.gen true 0 q.seq.toNat 0 (n - 1)
    s.setCur p (some { t with kind := .reply, dirIn := true, ep := 0, n := n, seq0 := q.seq })
  else
    let s := s.setPipe p j.addr false 0 ((s.pipe p j.addr false 0).resync)
    let s := s.setPipe p j.addr true 0 ((s.pipe p j.addr true 0).resync)
    let s := s.ctl p 3 j.tc j.addr j.gen false 0 0 2 0
    let s := s.sendData1 p { ty := 4, tc := j.tc, addr := j.addr, gen := j.gen, ep := 0, flags := if j.sent then 7 else 5 }
      (wordBytes j.w0 ++ wordBytes j.w1)
    let x := s.getPort p
    s.setPort p { x with cur := some { t with kind := .setup, ep := 0 },
                         fw := match x.fw with | i :: l => { i with sent := true } :: l | [] => [] }

end Sys2Proof.Machine
end

