-- ==== Sys2Proof/Machine/LinkCore.lean ====
section
/-! DEFINITION. Devices that leave a root port: removal, reset, declared lost, link drop, and what the firmware's transactions
to them become (R91, R121–R126, R176–R180). -/

namespace Sys2Proof.Machine

/-! ## Firmware transactions -/

/-- A firmware transaction of port p waits its turn. -/
def State.fwPush (s : State) (p : Nat) (j : FwJob) : State := s.setPort p { s.getPort p with fw := (s.getPort p).fw ++ [j] }
/-- A control transfer (R110, R163). -/
def ctlJob (client : FwClient) (a g req tgt value index length : Nat) : FwJob :=
  { client := client, isClear := false, addr := a, gen := g, dirIn := true, ep := 0, tc := 2,
    w0 := w32 (req * 2 ^ 24 + tgt * 2 ^ 16 + value), w1 := w32 (index * 2 ^ 16 + length), setupDone := false, sent := false, reply := [] }
/-- The enumeration of port p ends without its device: DEFOPEN clears, ENUMFAIL is set, the command replies (R106, R448). -/
def State.enumFail (s : State) (p second : Nat) : State :=
  match (s.getPort p).enum with
  | none => s
  | some j =>
    let s := s.setPort p { s.getPort p with enum := none }
    let s := (s.wr R.EWZ_ENUM_DEFOPEN 0 p).wr R.CMD_EVT_ENUMFAIL 1
    match j.core with
    | some k => s.fail k stDEVICE_ERR second
    | none => s
/-- What becomes of a firmware transaction whose device has gone. -/
def State.fwGone (s : State) (p : Nat) (j : FwJob) : State :=
  match j.client with
  | .enum => s.enumFail p (match (s.getPort p).enum with | some e => e.step | none => 0)
  | .clear k => s.fail k stDEVICE_ERR 0
  | .parent | .bit _ _ _ => s

/-! ## The tree (R129) -/

def State.parent (s : State) (p a : Nat) : Nat := s.rd R.EWZ_ADDRTAB0_PARENT p a
/-- Addresses 1–126 with VALID = 1. -/
def State.addrs (s : State) (p : Nat) : List Nat := ((List.range 126).map (· + 1)).filter (fun a => s.on R.EWZ_ADDRTAB0_VALID p a)
/-- Device a stands behind port `hp` of hub `h` (0: the root link), at most `n` links away. -/
def State.behind (s : State) (p h hp : Nat) : Nat → Nat → Bool
  | 0, _ => false
  | n + 1, a =>
    if h = 0 then true
    else (s.parent p a == h && s.rd R.EWZ_ADDRTAB0_PPORT p a == hp) || (s.parent p a != 0 && s.behind p h hp n (s.parent p a))
/-- Devices behind port `hp` of hub `h`. -/
def State.below (s : State) (p h hp : Nat) : List Nat := (s.addrs p).filter (s.behind p h hp 8)

/-! ## Removal and reset (R176, R177, R180, R203) -/

/-- SCH_CANCEL reports its outcome; a DESC_CANCEL that waits for it replies (R203, R228, R449). -/
def State.cancelResult (s : State) (p r : Nat) : State :=
  let s := (s.wr R.SCH_CANCEL_RESULT r p).wr R.SCH_CANCEL_GO 0 p
  match s.waiter (.cancel p) with
  | some k => s.ok k [w32 r]
  | none => s
/-- A cancel whose descriptor is served no longer: it ended for another cause (R203). -/
def State.cancelSettle (s : State) (p : Nat) : State :=
  let x := s.getPort p
  let a := s.rd R.SCH_CANCEL_ADDR p * 64
  let token := match x.cur0 with
    | some t => (match smFind x.pairs t.pair with | some y => y.desc == a | none => false)
    | none => false
  let serving := match x.cur with | some t => t.desc == a | none => false
  if s.on R.SCH_CANCEL_GO p && !token && !serving then s.cancelResult p 3 else s

/-- A descriptor's device is at address a; the OUT device of a pair counts too. -/
def Desc.names (d : Desc) (a : Nat) : Bool := d.addr == a || (d.cls == 0 && d.oaddr == a)
/-- TRANSFER_LINK_LOST, DEVICE_RESET: every transfer to address a ends with `status`; its pipes are discarded. -/
def State.removeAddr (s : State) (p a status : Nat) : State :=
  let x := s.getPort p
  let s := s.setPort p { x with cur := match x.cur with | some t => if t.addr = a then none else some t | none => none }
  let s := s.forL x.xfers (fun e s =>
    let d := match x.cur with | some t => if t.desc = e.1 then t.words else s.peekDesc e.1 | none => s.peekDesc e.1
    if d.addr = a then s.endXfer p e.1 d e.2.btd status (s.ouOf p e.1 d) else s)
  let s := s.forL x.pairs (fun e s => if Desc.names e.2.words a then s.endPair p e.1 status else s)
  let y := s.getPort p
  let gone := y.fw.filter (fun j => j.addr == a)
  let s := s.setPort p { y with fw := y.fw.filter (fun j => decide (j.addr ≠ a)), psyncs := y.psyncs.filter (fun t => decide (t.addr ≠ a)),
                                pipes := y.pipes.filter (fun e => decide (e.1 / 32 ≠ a)) }
  (s.forL gone (fun j s => s.fwGone p j)).cancelSettle p
/-- The generation of an address is retired now (R103). -/
def State.retireGen (s : State) (p a : Nat) : State :=
  let x := s.getPort p
  s.setPort p { x with retired := smIns x.retired (a * 16 + s.rd R.EWZ_ADDRTAB0_GEN p a) s.ns.toNat }
/-- A device is removed as by a link drop (R91, R176). -/
def State.dropAddr (s : State) (p a : Nat) : State := (s.retireGen p a).removeAddr p a dLINK_LOST

/-- A root port leaves Sleep or Deep Sleep other than by a resume: its power state is Idle again (R557). -/
def State.portIdle (s : State) (p : Nat) : State :=
  if 2 ≤ s.rd R.PWR_PCTL_STATE p then s.wr R.PWR_PCTL_STATE 1 p else s
/-- LINK_DROP: the link enters `st` from an attached state, and its subtree is detached (R91, R176, R177). -/
def State.linkDrop (s : State) (p st : Nat) : State :=
  let s := ((s.wr R.EWZ_LSTAT_STATE st p).wr R.EWZ_EVT_DETACH 1 p).portIdle p
  let s := s.report (0x2000 + p * 128) (0x3000 + p * 128) 0x21
  let s := s.forL (s.addrs p) (fun a s => s.dropAddr p a)
  let s := s.removeAddr p 0 dLINK_LOST
  let x := s.getPort p
  let s := s.setPort p { x with pipes := [], cur := none, resuming := false, presLast := false, presNow := false, exitFrom := 0,
                                pass := [], held := [], attach := [] }
  let s := (s.wr R.EWZ_CTL_SUSPREQ 0 p).cancelSettle p
  match x.enum with
  | some j => if j.step = 1 ∧ j.hub = 0 then s else s.enumFail p j.step
  | none => s
/-- The link is attached: its entry into Disconnected or Disabled is a link drop (R91). -/
def State.attached (s : State) (p : Nat) : Bool :=
  let l := s.lstate p
  l == lL0 || l == lRETRAIN || l == lRECOV || l == lENTRY || l == lL1 || l == lL2
/-- The link goes to Disabled: a link drop where it was attached, with ABORT for the packet in passage (R90, R91, R181). -/
def State.disableLink (s : State) (p reason : Nat) : State :=
  let s := (s.wr R.EWZ_CTL_RESET 0 p).passEnd p (some reason)
  if s.attached p then s.linkDrop p lDISABLED
  else (s.wr R.EWZ_LSTAT_STATE lDISABLED p).setPort p { s.getPort p with quiet := false, presLast := false, presNow := false }
/-- The link becomes Disconnected, with presence detection from its start; a pending RESET is sent as a burst (R90). -/
def State.toDisconnected (s : State) (p : Nat) : State :=
  let s := if s.attached p then s.linkDrop p lDISC else s.wr R.EWZ_LSTAT_STATE lDISC p
  let s := s.setPort p { s.getPort p with presLast := false, presNow := false }
  if s.on R.EWZ_CTL_RESET p then (s.wr R.EWZ_CTL_RESET 0 p).emit (burstOut p .reset) else s

/-- The packet of an EMIT accepted for OUT pipe (a, ep): the EMIT's payload in a class-0 DATA (R166, R167, R222). -/
def State.emitPacket (s : State) (p : Nat) (d : Desc) (payload : List Byte) : List Block :=
  Hdr.packet { ty := 4, addr := d.oaddr, gen := d.ogen, ep := d.oep, seq := (s.pipe p d.oaddr false d.oep).seq.toNat, flags := 5 } payload
/-- The EMIT packet that is next to leave, where its device is at address a, may be on the lane: it ends with ABORT after any of
its blocks (R75, R171, R179). -/
def State.emitAbort (s : State) (p a : Nat) : State :=
  match (s.getPort p).emitq with
  | [] => s
  | n :: _ =>
    match smFind (s.getPort p).pairs n with
    | some { emit := some e, words := d, .. } =>
      if Desc.oaddr d ≠ a ∨ s.lstate p ≠ lL0 then s
      else
        let l := s.emitPacket p d e.payload
        let (k, s) := s.choose l.length
        if k = 0 then s else s.insert p (l.take k ++ [abortBlock aRESET])
    | _ => s
/-- DEVICE_RESET_ABORT: a packet on the lane to a device that is reset ends with ABORT, an inserted one before the one it was cut
into (R75, R179). -/
def State.resetAbort (s : State) (p a : Nat) : State := (s.emitAbort p a).passAbort p a aRESET
/-- The devices at the addresses l are reset, and so is what stands at address 0 (R179, R180). -/
def State.resetAddrs (s : State) (p : Nat) (l : List Nat) : State :=
  (s.forL (l ++ [0]) (fun a s => s.resetAbort p a)).forL (l ++ [0]) (fun a s => s.removeAddr p a dDEVICE_RESET)
/-- Every tier-1 device is reset. -/
def State.resetTier1 (s : State) (p : Nat) : State := s.resetAddrs p ((s.addrs p).filter (fun a => s.parent p a == 0))
/-- Highest rate code of `rates` that is not above EWZ_CTL.MAXRATE (R78). -/
def State.bestRate (s : State) (p rates : Nat) : Option Nat :=
  [2, 1, 0].find? (fun r => decide (r ≤ s.rd R.EWZ_CTL_MAXRATE p) && rates.testBit r)
/-- The rates that the port names in its TRAIN blocks: those up to EWZ_CTL.MAXRATE (R69, R78). -/
def State.ownRates (s : State) (p : Nat) : Nat := 2 ^ (min 2 (s.rd R.EWZ_CTL_MAXRATE p) + 1) - 1
/-- Step 1 of a full training, and where the partner has answered it with a rate in common, steps 2 and 3 and the first DELAY_PING
of step 4 (R78, R79).  What the receiver finds best, and asks for beyond the presets, is a free value. -/
def State.trainSteps (s : State) (p : Nat) : State :=
  let own := s.ownRates p
  let s := s.laneOut p [trainBlock own 1 0 0]
  match (s.getPort p).train.findSome? trainRates with
  | none => s
  | some rates =>
    match s.bestRate p rates with
    | none => s
    | some r =>
      let s := (s.wr R.EWZ_LSTAT_RATE r p).laneOut p [trainBlock own 2 0 0]
      let (best, s) := s.choose 8
      let (coef, s) := s.draw
      let s := s.laneOut p ((List.range 8).map (fun k => trainBlock own 3 k 0) ++ [trainBlock own 3 best (coef.extractLsb' 0 16)])
      s.laneOut p (delayPing 0)
/-- The two sides have no rate in common (R90). -/
def State.noRate (s : State) (p : Nat) : Bool :=
  match (s.getPort p).train.findSome? trainRates with
  | some rates => (s.bestRate p rates).isNone
  | none => false
/-- A full training fails (R80, R90). -/
def State.trainFail (s : State) (p : Nat) : State :=
  ((s.wr R.EWZ_EVT_TRAINFAIL 1 p).setPort p { s.getPort p with quiet := true }).toDisconnected p
/-- A full training starts at 3.125 GBd; without a rate in common it fails (R78, R90). -/
def State.startTraining (s : State) (p : Nat) : State :=
  let x := s.getPort p
  let s := s.setPort p { x with presLast := false, presNow := false, echoes := 0, echoSum := 0, resuming := false, exitFrom := 0 }
  let s := ((s.wr R.EWZ_LSTAT_STATE lTRAIN p).wr R.EWZ_LSTAT_RATE 0 p).trainSteps p
  if s.noRate p then s.trainFail p else s
/-- RESET of the tier-1 device by the state of the link; in a passing state the request is held (R90). -/
def State.rootReset (s : State) (p : Nat) : State :=
  let l := s.lstate p
  if l = lL0 then ((s.wr R.EWZ_CTL_RESET 0 p).resetTier1 p).lane p linkReset
  else if l = lL1 ∨ l = lL2 then
    ((((s.wr R.EWZ_CTL_RESET 0 p).resetTier1 p).portIdle p).emit (burstOut p .reset)).startTraining p
  else if l = lDISC then (s.wr R.EWZ_CTL_RESET 0 p).emit (burstOut p .reset)
  else if l = lDISABLED then s.wr R.EWZ_CTL_RESET 0 p
  else s.wr R.EWZ_CTL_RESET 1 p
/-- The link reaches L0: a RESET held meanwhile is acted on (R90). -/
def State.enterL0 (s : State) (p : Nat) : State :=
  let s := s.wr R.EWZ_LSTAT_STATE lL0 p
  if s.on R.EWZ_CTL_RESET p then s.rootReset p else s

/-- POWER_STATE_EXIT: a resume starts with a cause code of R568, or one that is under way learns of the other side's WAKE
within 480 ns (R90, R98). -/
def State.startResume (s : State) (p cause : Nat) : State :=
  let x := s.getPort p
  let host := cause != 5
  if x.resuming then
    if s.ns.toNat < x.wakeAt + 480 then
      s.setPort p { x with hostWake := x.hostWake || host, remoteWake := x.remoteWake || !host }
    else s
  else
    (s.setPort p { x with resuming := true, hostWake := host, remoteWake := !host, during := false, wakeAt := s.ns.toNat,
                          wakeCause := cause, exitFrom := s.rd R.PWR_PCTL_STATE p }).emit (burstOut p .wake)

/-! ## Devices declared lost (R122–R126) -/

def State.lostValid (s : State) (p i : Nat) : Bool := s.on R.EWZ_LOST5_VALID p i
/-- The lost-list entry of an address and generation. -/
def State.lostFind (s : State) (p a g : Nat) : Option Nat :=
  (List.range 64).find? (fun i => s.lostValid p i && s.rd R.EWZ_LOST5_ADDR p i == a && s.rd R.EWZ_LOST5_GEN p i == g)
/-- Removes lost-list entry i. -/
def State.lostRemove (s : State) (p i : Nat) : State :=
  let x := s.getPort p
  (s.wr R.EWZ_LOST5_VALID 0 p i).setPort p { x with lostAge := x.lostAge.filter (fun k => decide (k ≠ i)) }
/-- DEVICE_DECLARED_LOST: LOST, the lost-list entry and the end of its transfers; the entry's index (R122, R126).  A device
that is lost already keeps the entry it has. -/
def State.declareLost (s : State) (p a : Nat) : Nat × State :=
  let g := s.rd R.EWZ_ADDRTAB0_GEN p a
  if s.on R.EWZ_ADDRTAB0_LOST p a then ((s.lostFind p a g).getD 0xFFFFFFFF, s)
  else
    let s := s.wr R.EWZ_ADDRTAB0_LOST 1 p a
    let x := s.getPort p
    let i := match (List.range 64).find? (fun i => !s.lostValid p i) with
      | some i => i
      | none => x.lostAge.headD 0
    let key := smGet x.ident [] a
    let s := s.setPort p { x with lostAge := x.lostAge.filter (fun k => decide (k ≠ i)) ++ [i] }
    let s := (((s.wr R.EWZ_LOST0_KEY (key.getD 0 0).toNat p i).wr R.EWZ_LOST1_KEY (key.getD 1 0).toNat p i).wr
      R.EWZ_LOST2_KEY (key.getD 2 0).toNat p i).wr R.EWZ_LOST3_KEY (key.getD 3 0).toNat p i
    let s := ((s.wr R.EWZ_LOST4_KEY (key.getD 4 0).toNat p i).wr R.EWZ_LOST5_ADDR a p i).wr R.EWZ_LOST5_GEN g p i
    let s := s.wr R.EWZ_LOST5_VALID 1 p i
    let s := s.report (0x2000 + p * 128 + a) (0x3000 + p * 128 + s.parent p a) 0x20
    (i, s.dropAddr p a)
/-- PARENT_PORT_STOP: traffic through the parent port of a lost device stops (R123). -/
def State.parentStop (s : State) (p a : Nat) : State :=
  let h := s.parent p a
  if h = 0 then (s.wr R.EWZ_CTL_EN 0 p).disableLink p aDISABLE
  else
    let hp := s.rd R.EWZ_ADDRTAB0_PPORT p a
    let s := s.fwPush p (ctlJob .parent h (s.rd R.EWZ_ADDRTAB0_GEN p h) 0x12 1 0 hp 0)
    s.forL ((s.below p h hp).filter (fun b => decide (b ≠ a))) (fun b s => s.dropAddr p b)
/-- A transaction timed out: TOCNT, and at LOSTLIM the device is declared lost (R122, R123, R174). -/
def State.countTimeout (s : State) (p a : Nat) : State :=
  if a = 0 then s
  else
    let n := min 15 (s.rd R.EWZ_ADDRTAB0_TOCNT p a + 1)
    let s := s.wr R.EWZ_ADDRTAB0_TOCNT n p a
    if max 1 (s.rd R.EWZ_CTL_LOSTLIM p) ≤ n ∧ s.on R.EWZ_ADDRTAB0_VALID p a ∧ ¬ s.on R.EWZ_ADDRTAB0_LOST p a then
      let (_, s) := s.declareLost p a
      s.parentStop p a
    else s

end Sys2Proof.Machine
end

