-- ==== Sys2Proof/Machine/Enum.lean ====
section
/-! DEFINITION. Enumeration by the firmware: the steps of R107, the choice of address and generation, and the descriptors it
activates again (R102–R113, R124, R125, R212). -/

namespace Sys2Proof.Machine

/-- How a firmware transaction ends. -/
inductive FwRes where
  | done (reply : List Byte)
  | stall (cause : Nat)
  | timeout
  deriving DecidableEq, Repr

def State.setEnum (s : State) (p : Nat) (e : Option EnumJob) : State := s.setPort p { s.getPort p with enum := e }
/-- The hub port's status is read (R113). -/
def State.readHubPort (s : State) (p : Nat) (e : EnumJob) : State :=
  let s := s.setEnum p (some { e with step := 1, status := true })
  s.fwPush p (ctlJob .enum e.hub (s.rd R.EWZ_ADDRTAB0_GEN p e.hub) 0x10 1 0 e.hport 8)

/-- Accumulated delay of the path to a hub port whose hop delay is `delay` (R108). -/
def State.pathDelay (s : State) (p hub delay : Nat) : Nat :=
  (s.adelay p hub + bits ((smGet (s.getPort p).ident [] hub).getD 5 0) 31 16 + delay) % 2 ^ 16
/-- Step 2 on a hub port whose hop delay is `delay` (R107, R108, R112); `opened`: the port is Disabled, so that its link has yet to
reach L0. -/
def State.enumHubPort (s : State) (p : Nat) (e : EnumJob) (delay : Nat) (opened : Bool) : State :=
  let dl := s.pathDelay p e.hub delay
  let s := (s.wr R.EWZ_ENUM_ADELAY0 dl p).wr R.EWZ_ENUM_DEFOPEN 1 p
  let s := s.setEnum p none
  let s := s.resetAddrs p ((s.addrs p).filter (fun a => s.parent p a == e.hub && s.rd R.EWZ_ADDRTAB0_PPORT p a == e.hport))
  let s := s.setEnum p (some { e with step := 2, status := false, opened := opened, adelay := dl, resetAt := s.ns.toNat })
  s.fwPush p (ctlJob .enum e.hub (s.rd R.EWZ_ADDRTAB0_GEN p e.hub) 0x11 1 0 e.hport 0)
/-- Step 3: GET_IDENTITY to address 0. -/
def State.enumIdentity (s : State) (p : Nat) (e : EnumJob) : State :=
  let s := s.setEnum p (some { e with step := 3, status := false, resetAt := s.ns.toNat })
  s.fwPush p (ctlJob .enum 0 0 0x01 0 0 0 32)
/-- Step 2 on the root link (R107, R108). -/
def State.enumRoot (s : State) (p : Nat) (e : EnumJob) : State :=
  let dl := s.rd R.EWZ_CBLDLY_DELAY p
  let s := (s.wr R.EWZ_ENUM_ADELAY0 dl p).wr R.EWZ_ENUM_DEFOPEN 1 p
  let s := (s.setEnum p none).rootReset p
  s.enumIdentity p { e with adelay := dl }
/-- The hub port of an enumeration is in L0 with hop delay `delay`: step 2, or, where its ENABLE has been given already, step 3 with
the delay that is known now (R107, R112). -/
def State.enumPortUp (s : State) (p : Nat) (e : EnumJob) (delay : Nat) : State :=
  if e.opened then
    let dl := s.pathDelay p e.hub delay
    (s.wr R.EWZ_ENUM_ADELAY0 dl p).enumIdentity p { e with adelay := dl }
  else s.enumHubPort p e delay false
/-- An enumeration whose port has not reached L0 goes on where it can (R107 step 1). -/
def State.enumTry (s : State) (p : Nat) : State :=
  match (s.getPort p).enum with
  | none => s
  | some e =>
    if e.step ≠ 1 ∨ e.status then s
    else if e.hub = 0 then if s.lstate p = lL0 then s.enumRoot p e else s
    else if s.present p e.hub then s.readHubPort p e
    else s.enumFail p 1
/-- Port location and own address of a waiting PORT_ENABLE or PORT_RESET (R448). -/
def State.enumLoc (s : State) (p : Nat) (c : Cmd) : Nat × Nat × Option Nat :=
  if c.op = 0x0301 then (c.f 3 10 4, c.f 3 14 11, none)
  else let a := c.f 3 10 4; (s.parent p a, s.rd R.EWZ_ADDRTAB0_PPORT p a, some a)
/-- An enumeration that starts at step 1. -/
def enumJob (core : Option Nat) (hub hport : Nat) (own : Option Nat) : EnumJob :=
  { core := core, hub := hub, hport := hport, step := 1, status := false, adelay := 0, resetAt := 0, own := own, key := [],
    addr := 0, gen := 0, scan := [], found := none }
/-- A port reports attach: the firmware enumerates it once its turn comes, unless an enumeration waits for it or has it among the
ports to come (R106, R107 step 1). -/
def State.attachAt (s : State) (p hub hport delay : Nat) : State :=
  let x := s.getPort p
  let waits : Bool := match x.enum with
    | some e => (e.step == 1 && e.hub == hub && e.hport == hport) || e.scan.contains (hub, hport)
    | none => false
  if waits || x.attach.any (fun a => a.1 == hub && a.2.1 == hport) then s
  else s.setPort p { x with attach := x.attach ++ [(hub, hport, delay)] }
/-- The ports l report attach no longer: they are being enumerated. -/
def State.attachDone (s : State) (p : Nat) (l : List (Nat × Nat)) : State :=
  let x := s.getPort p
  s.setPort p { x with attach := x.attach.filter (fun a => !l.contains (a.1, a.2.1)) }
/-- With no enumeration in progress and the firmware running, the port that reported attach first is enumerated (R106, R107). -/
def State.enumNext (s : State) (p : Nat) : State :=
  match (s.getPort p).enum, (s.getPort p).attach with
  | none, (h, hp, dl) :: l =>
    if ¬ s.on R.CMD_STAT_FWRDY ∨ (h = 0 ∧ s.lstate p ≠ lL0) then s
    else
      let s := s.setPort p { s.getPort p with attach := l }
      if h = 0 then s.enumRoot p (enumJob none 0 0 none)
      else if s.present p h then s.enumHubPort p (enumJob none h hp none) dl false
      else s
  | _, _ => s
/-- The next command that waits to enumerate on port p begins; it takes over an enumeration of its port that no command
awaits.  With no command, a port that reported attach is enumerated (R106, R107). -/
def State.enumKick (s : State) (p : Nat) : State :=
  let mine (k : Nat) : Bool := match (s.getPort p).enum with | some e => e.core == some k | none => false
  match s.cmds.cmd.find? (fun e => e.2.wait == .enum p && !mine e.1) with
  | none => s.enumNext p
  | some (k, c) =>
    let (h, hp, own) := s.enumLoc p c
    match (s.getPort p).enum with
    | none => (((s.attachDone p [(h, hp)]).setEnum p (some (enumJob (some k) h hp own))).enumTry p)
    | some e =>
      if e.core.isNone ∧ e.step = 1 ∧ e.hub = h ∧ e.hport = hp ∧ e.scan = [] ∧ e.found = none then
        s.setEnum p (some { e with core := some k, own := own })
      else s

/-! ## Steps 4 and 5 (R102, R103, R124, R125) -/

/-- Two identity records name the same device (R105): MAKER and MODEL, LOT_LO, LOT_HI with WAFER and DIEX, DIEY. -/
def sameKey (k : List Word) (w0 w2 w3 w4 : Word) : Bool :=
  k.getD 0 0 == w0 && k.getD 2 0 == w2 && k.getD 3 0 == w3 && bits (k.getD 4 0) 31 24 == bits w4 31 24
/-- The lost-list entry of an identity record. -/
def State.lostMatch (s : State) (p : Nat) (k : List Word) : Option Nat :=
  (List.range 64).find? (fun i => s.lostValid p i && sameKey k (s.rdw R.EWZ_LOST0_KEY p i) (s.rdw R.EWZ_LOST2_KEY p i)
    (s.rdw R.EWZ_LOST3_KEY p i) (s.rdw R.EWZ_LOST4_KEY p i))
/-- Address x is free for a device that matched lost-list entry `mi` (R125). -/
def State.addrFree (s : State) (p x : Nat) (mi : Option Nat) : Bool :=
  !s.on R.EWZ_ADDRTAB0_VALID p x ||
  (s.on R.EWZ_ADDRTAB0_LOST p x &&
    !(List.range 64).any (fun i => s.lostValid p i && s.rd R.EWZ_LOST5_ADDR p i == x && mi != some i))
/-- The next generation of an address: its table entry holds the previous one (R102). -/
def State.nextGen (s : State) (p x : Nat) : Nat :=
  let g := s.rd R.EWZ_ADDRTAB0_GEN p x
  if g = 15 then 1 else g + 1
/-- The next generation of an address was retired less than 100 ms ago (R103). -/
def State.tooFresh (s : State) (p x : Nat) : Bool :=
  match smFind (s.getPort p).retired (x * 16 + s.nextGen p x) with
  | some t => decide (s.ns.toNat < t + 100000000)
  | none => false
/-- The address and generation under which a device was known: those of its lost-list entry, or those that PORT_RESET named where
the same device answers (R105, R124, R178). -/
def State.formerOf (s : State) (p : Nat) (key : List Word) (own : Option Nat) : Option (Nat × Nat) :=
  match s.lostMatch p key with
  | some i => some (s.rd R.EWZ_LOST5_ADDR p i, s.rd R.EWZ_LOST5_GEN p i)
  | none =>
    match own with
    | none => none
    | some a =>
      let k := smGet (s.getPort p).ident [] a
      if !k.isEmpty && sameKey key (k.getD 0 0) (k.getD 2 0) (k.getD 3 0) (k.getD 4 0) then
        some (a, s.rd R.EWZ_ADDRTAB0_GEN p a)
      else none
/-- The address for a device, and the state with its lost-list entry removed: its former address where it is free, else the lowest
free one; an address whose next generation is retired too recently only where no other is free (R103, R124, R125). -/
def State.chooseAddr (s : State) (p : Nat) (key : List Word) : Option Nat × State :=
  let mi := s.lostMatch p key
  let frees := ((List.range 126).map (· + 1)).filter (fun x => s.addrFree p x mi)
  let kept := match mi with
    | some i => frees.filter (fun x => x == s.rd R.EWZ_LOST5_ADDR p i)
    | none => []
  let order := kept ++ frees
  let pick := match order.find? (fun x => !s.tooFresh p x) with
    | some x => some x
    | none => order.head?
  let s := match mi with | some i => s.lostRemove p i | none => s
  match pick with
  | some x => (some x, s)
  | none =>
    match (s.getPort p).lostAge with
    | [] => (none, s)
    | i :: _ => (some (s.rd R.EWZ_LOST5_ADDR p i), s.lostRemove p i)

/-! ## IDEMPOTENT_RETRY (R178, R212) -/

/-- Descriptor addresses of a chain from `a`. -/
def State.chain (s : State) : Nat → Nat → List Nat → List Nat
  | 0, _, acc => acc
  | n + 1, a, acc =>
    if acc.contains a then acc
    else
      let w0 := s.rawWord (saList a)
      if w0.getLsbD 31 || s.poisoned (saList a) then a :: acc else s.chain n (bits w0 22 6 * 64) (a :: acc)
/-- Every descriptor of port p: of its anchor chains, its bulk list from its head and from the walker's resume point, and its frame
list. -/
def State.portDescs (s : State) (p : Nat) : List Nat :=
  let anchors := (List.range 32).filterMap (fun m =>
    if s.on R.SCH_ANCHOR_EMPTY p m then none else some (s.rd R.SCH_ANCHOR_HEAD p m * 64))
  let bulk := (if s.on R.SCH_BULKHEAD_EMPTY p then [] else [s.rd R.SCH_BULKHEAD_HEAD p * 64]) ++
    (if s.on R.SCH_BULKPOS_VALID p then [s.rd R.SCH_BULKPOS_POS p * 64] else [])
  let frames := if s.on R.SCH_PFLBASE_PEN p then
      (List.range 1024).filterMap (fun k =>
        let w := s.rawWord (saList (s.rd R.SCH_PFLBASE_BASE p * 4096 + 4 * k))
        if w.getLsbD 31 then none else some (bits w 22 6 * 64))
    else []
  (anchors ++ bulk ++ frames).foldl (fun acc a => s.chain 131072 a acc) []
/-- Activates again every descriptor that R212 names, at the device's new address and generation. -/
def State.idempotentRetry (s : State) (p fa fg na ng : Nat) : State :=
  s.forL (s.portDescs p) (fun a s =>
    let d := s.peekDesc a
    if d.addr = fa ∧ d.gen = fg ∧ d.idem ∧ ¬ d.retried ∧ (d.status = dLINK_LOST ∨ d.status = dDEVICE_RESET) then
      let w8 := if d.cls = 0 ∧ d.oaddr = fa ∧ d.ogen = fg then setBits (setBits (d.w 8) 22 16 na) 15 12 ng else d.w 8
      let s := (s.storeWord (saList a + 32) w8).storeWord (saList a + 36) (setBits (d.w 9) 22 22 1)
      let s := s.storeWord (saList a + 40) 0
      s.storeWord (saList a + 4) (setBits (setBits (setBits (d.w 1) 22 16 na) 15 12 ng) 31 31 1)
    else s)

/-! ## Port status records (R112, R113) -/

/-- A port status record is read: its change bits, [4:0] for bits 8–12, that the last record did not show; the firmware clears them at
the hub (R112). -/
def State.seeRecord (s : State) (p h : Nat) (w0 w1 : Word) : Nat × State :=
  let hp := bits w0 3 0
  let x := s.getPort p
  let new := bits (w0 &&& ~~~ (smGet x.hubRec (0, 0) (h * 16 + hp)).1) 12 8
  let s := s.setPort p { x with hubRec := smIns x.hubRec (h * 16 + hp) (w0, w1) }
  (new, s.forL ((List.range 5).filter (nbit new)) (fun n s =>
    s.fwPush p (ctlJob (.bit h hp (8 + n)) h (s.rd R.EWZ_ADDRTAB0_GEN p h) 0x12 1 (8 + n) hp 0)))
/-- A change bit has been cleared at the hub. -/
def State.clearedBit (s : State) (p h hp n : Nat) : State :=
  let x := s.getPort p
  match smFind x.hubRec (h * 16 + hp) with
  | some (w0, w1) => s.setPort p { x with hubRec := smIns x.hubRec (h * 16 + hp) (setBits w0 n n 0, w1) }
  | none => s

/-! ## Results -/

/-- Step 9: the next hub port; none left ends the enumeration (R107). -/
def State.enumScan (s : State) (p : Nat) (e : EnumJob) : State :=
  match e.scan with
  | [] => (s.setEnum p none).enumKick p
  | (h, hp) :: rest =>
    s.readHubPort p { e with core := none, hub := h, hport := hp, own := none, scan := rest, key := [], opened := false }
/-- The enumeration of this device fails; with hub ports left, the next follows. -/
def State.enumLose (s : State) (p : Nat) (e : EnumJob) (second : Nat) : State :=
  let s := s.enumFail p second
  if e.scan.isEmpty then s.enumKick p else s.enumScan p e

/-- The reply of a control transfer of the enumeration, by its step (R107). -/
def State.enumDone (s : State) (p : Nat) (e : EnumJob) (reply : List Byte) : State :=
  let ws := bytesWords reply
  match e.step with
  | 1 =>
    let w0 := setBits (ws.getD 0 0) 3 0 e.hport
    let s := (s.seeRecord p e.hub w0 (ws.getD 1 0)).2
    if bits w0 31 28 = lL0 then s.enumPortUp p e (bits (ws.getD 1 0) 15 0)
    else if e.found.isSome then s.enumScan p e
    else if bits w0 31 28 = lDISABLED ∧ ¬ e.opened then s.enumHubPort p e (bits (ws.getD 1 0) 15 0) true
    else s.setEnum p (some { e with status := false })
  | 2 => if e.opened then s.setEnum p (some { e with step := 1 }) else s.enumIdentity p e
  | 3 =>
    if reply.length < 32 ∨ e.resetAt + 50000 < s.ns.toNat then s.enumLose p e 3
    else
      let former := s.formerOf p ws e.own
      match s.chooseAddr p ws with
      | (none, s) => s.enumLose p e 5
      | (some a, s) =>
        let g := s.nextGen p a
        let s := s.setEnum p (some { e with step := 6, key := ws.take 8, addr := a, gen := g, resetAt := s.ns.toNat, former := former })
        s.fwPush p (ctlJob .enum 0 0 0x02 0 (g * 256 + a) e.adelay 0)
  | 6 =>
    let a := e.addr
    let s := if s.on R.EWZ_ADDRTAB0_VALID p a then s.retireGen p a else s
    let hub := bits (e.key.getD 1 0) 31 24 == 1
    let tier := if e.hub = 0 then 1 else min 7 (s.rd R.EWZ_ADDRTAB0_TIER p e.hub + 1)
    let s := ((((((s.wr R.EWZ_ADDRTAB0_VALID 1 p a).wr R.EWZ_ADDRTAB0_LOST 0 p a).wr R.EWZ_ADDRTAB0_HUB (b2n hub) p a).wr
      R.EWZ_ADDRTAB0_GEN e.gen p a).wr R.EWZ_ADDRTAB0_TIER tier p a).wr R.EWZ_ADDRTAB0_PARENT e.hub p a).wr
      R.EWZ_ADDRTAB0_PPORT e.hport p a
    let s := ((s.wr R.EWZ_ADDRTAB0_TOCNT 0 p a).wr R.EWZ_ADDRTAB1_ADELAY e.adelay p a).wr R.EWZ_ENUM_DEFOPEN 0 p
    let x := s.getPort p
    let s := s.setPort p { x with ident := smIns x.ident a e.key, hubRec := x.hubRec.filter (fun q => decide (q.1 / 16 ≠ a)),
                                  pipes := x.pipes.filter (fun q => decide (q.1 / 32 ≠ a)) }
    let s := s.setEnum p (some { e with step := 8, resetAt := s.ns.toNat })
    s.fwPush p (ctlJob .enum a e.gen 0x03 0 0 0 128)
  | 8 =>
    let a := e.addr
    let s := s.setPort p { s.getPort p with config := smIns (s.getPort p).config a ws }
    let s := match e.former with
      | some (fa, fg) => s.idempotentRetry p fa fg a e.gen
      | none => s
    let s := match e.core with
      | some k => s.ok k [w32 (2 ^ 31 + e.gen * 2 ^ 11 + a * 2 ^ 4)]
      | none => s
    let w1 := e.key.getD 1 0
    let ports := if bits w1 31 24 = 1 then (List.range (bits w1 7 4)).map (fun k => (a, k + 1)) else []
    (s.attachDone p ports).enumScan p { e with core := none, scan := ports ++ e.scan, former := none,
                                                found := some (e.found.getD (a, e.gen)) }
  | _ => s

/-- A firmware transaction ends with `r` (R107, R123, R448). -/
def State.fwResult (s : State) (p : Nat) (j : FwJob) (r : FwRes) : State :=
  match j.client with
  | .parent => s
  | .bit h hp n => s.clearedBit p h hp n
  | .clear k =>
    match r with
    | .done _ =>
      let q := s.pipe p j.addr j.dirIn j.ep
      (s.setPipe p j.addr j.dirIn j.ep { q with halted := false }).ok k []
    | .stall c => s.fail k stDEVICE_ERR c
    | .timeout => s.fail k stTIMEOUT 0
  | .enum =>
    match (s.getPort p).enum with
    | none => s
    | some e =>
      match r with
      | .done reply => s.enumDone p e reply
      | .stall c => s.enumLose p e c
      | .timeout => s.enumLose p e e.step

end Sys2Proof.Machine
end

