-- ==== Sys2Proof/Machine/WalkCore.lean ====
section
/-! DEFINITION. The list walker: what it serves next, how a transaction ends for it, the close of a frame and what follows it
(R185–R217, R161–R164). -/

namespace Sys2Proof.Machine

/-! ## Close (R187, R228) -/

/-- FRAME_CLOSE: the walker starts no further transaction in this frame. -/
def State.closeFrame (s : State) (p : Nat) : State :=
  let w := s.getWalk p
  if w.closed then s
  else
    let s := (s.setWalk p { w with closed := true }).wr R.SCH_PSTAT_WSTATE 3 p
    let (q, s) := s.quot w.psum 400
    s.wr R.SCH_PSUM_PSUM (min q (2 ^ 20 - 1)) p

/-! ## End of a transaction (R203, R213, R215) -/

/-- How a transaction of a descriptor ends. -/
inductive TxRes where
  /-- Its next burst may follow. -/
  | go
  /-- NAK. -/
  | nak
  /-- The pipe waits. -/
  | wait
  | timeout
  /-- The transfer completes. -/
  | fin (st : Nat) (ou : Bool)
  deriving DecidableEq, Repr

/-- A cancel of descriptor a is pending. -/
def State.cancelDue (s : State) (p a : Nat) : Bool := s.on R.SCH_CANCEL_GO p && decide (s.rd R.SCH_CANCEL_ADDR p * 64 = a)

/-- A PTD of a frame that ends is not complete: class 1 completes with MISSED where it was started, its pipe resynchronised by
its next token, else with SKIPPED, and class 2 is served first in the next frame (R159, R162, R168, R213, R216). -/
def State.leftover (s : State) (p a : Nat) (d : Desc) (started : Bool) : State :=
  if d.cls = 1 then
    if started then
      let s := s.endXfer p a d false dMISSED false
      s.setPipe p d.addr d.dirIn d.ep 
        { s.pipe p d.addr d.dirIn d.ep with sync := true, waiting := false, due := false }
    else s.endXfer p a d false dSKIPPED false
  else
    let w := s.getWalk p
    if w.owed.isSome then s.setWalk p { w with todo := a :: w.todo.erase a }
    else s.setWalk p { w with carry := w.carry ++ [a] }
/-- A waiting pipe may be asked again at the next opportunity: its PROBE or TOKEN_IN ended unanswered (R175, R642). -/
def State.dueAgain (s : State) (p : Nat) (t : Txn) : State :=
  let q := s.pipe p t.addr t.dirIn t.ep
  if q.waiting then s.setPipe p t.addr t.dirIn t.ep { q with due := true } else s
/-- A PTD that an overrun frame left in service keeps the places that the new frame gives it (R191, R213). -/
def State.keepLists (s : State) (p : Nat) (w : Walk) : State :=
  let y := s.getWalk p
  s.setWalk p { y with todo := w.todo, retry := w.retry, defer := w.defer, starved := w.starved, carry := w.carry, fin := w.fin,
                       cont := w.cont }
/-- The outstanding transaction of classes 1–3 ends. -/
def State.txnDone (s : State) (p : Nat) (t : Txn) (r : TxRes) : State :=
  let s := s.setCur p none
  let w0 := s.getWalk p
  match t.kind with
  | .out | .probe | .inn =>
    let a := t.desc
    let d : Desc := t.words
    let btd := t.src == .bulk
    let pend := s.cancelDue p a
    let s := match r with
      | .fin st ou =>
        let s := s.endXfer p a d btd st ou
        if pend then s.cancelResult p 3 else s
      | _ =>
        if pend then (s.endXfer p a d btd dCANCELLED (s.ouOf p a d)).cancelResult p 1
        else if btd then
          match s.xfer p a with
          | some x => s.storeWord (saList a + 40) (w32 x.done)
          | none => s
        else
          let w := s.getWalk p
          match r with
          | .nak =>
            if d.cls = 2 ∧ d.dirIn then s.endXfer p a d false dNODATA false
            else if w.owed.isSome then s.leftover p a d true
            else s.setWalk p { w with retry := w.retry ++ [a] }
          | .go => if w.owed.isSome then s.leftover p a d true else s.setWalk p { w with cont := some (a, t.src) }
          | _ => if w.owed.isSome then s.leftover p a d true else s.setWalk p { w with retry := w.retry ++ [a] }
    let s := if w0.owed.isSome && !btd && !(s.getWalk p).todo.contains a then
        s.keepLists p w0
      else s
    s.reSync p
  | .psync =>
    match r with
    | .timeout => s.setPort p { s.getPort p with psyncs := (s.getPort p).psyncs ++ [t] }
    | _ => s
  | .hub =>
    let w := s.getWalk p
    match r with
    | .timeout => s.setWalk p { w with hubs := t.addr :: w.hubs, rehub := setAdd w.rehub t.addr }
    | _ => s.setWalk p { w with rehub := setDel w.rehub t.addr }
  | _ => s

/-- The firmware transaction at the head of the queue ends. -/
def State.fwDone (s : State) (p : Nat) (r : FwRes) : State :=
  let x := s.getPort p
  match x.fw with
  | [] => s
  | j :: l => (s.setPort p { x with fw := l }).fwResult p j r
/-- A firmware transaction timed out: a control transfer is sent again until the device's limit has passed (R164, R174,
R175). -/
def State.fwTimeout (s : State) (p : Nat) : State :=
  let x := s.getPort p
  match x.fw with
  | [] => s
  | j :: _ =>
    if j.isClear then s.fwDone p .timeout
    else match j.client, x.enum with
      | .enum, some e =>
        if e.resetAt + (if e.step = 3 then 50000 else 10000000) < s.ns.toNat then s.fwDone p .timeout else s
      | _, _ => s

/-! ## The next transaction (R185, R186, R210, R213) -/

/-- The packets of the next burst of a descriptor: their number and longest payloads. -/
def State.plan (s : State) (p : Nat) (d : Desc) (x : Xfer) : List Nat :=
  if d.dirIn then d.lens 0 (s.credit p d)
  else
    let q := (s.pipe p d.addr false d.ep).forToken
    d.lens x.acked (min (min (max 1 q.credit) (d.nmax + 1)) (d.packets - x.acked))
/-- PWMAX in 2.5 ps (R228). -/
def State.pwmax (s : State) (p : Nat) : Nat := min 1000000 (s.rd R.SCH_PWMAX_PWMAX p) * 400

/-- What the walker did with a descriptor: it goes on to the next, waits, or has started a transaction. -/
inductive WStep where
  | next | stop
  deriving DecidableEq, Repr

/-- Starts the next transaction of a descriptor, n packets. -/
def State.startDesc (s : State) (p a : Nat) (d : Desc) (btd : Bool) (src : Where) (n : Nat) : State :=
  if d.dirIn then s.startIn p a d btd src n
  else if (s.pipe p d.addr false d.ep).waiting then s.startProbe p a d src
  else s.startOut p a d btd src n
/-- A transaction that has ended at its start, with a poisoned first packet, leaves the walker going on (R182). -/
def startedStep (p : Nat) (s : State) : WStep × State := (if (s.getPort p).cur.isNone then .next else .stop, s)
/-- W of the next transaction: a PROBE counts as an OUT burst without DATA. -/
def State.fitDesc (s : State) (p : Nat) (d : Desc) (l : List Nat) : Option (Nat × Nat) :=
  if !d.dirIn && (s.pipe p d.addr false d.ep).waiting then
    let w := s.estimate p d.addr false []
    if s.fits p w then some (0, w) else none
  else s.fitBurst p d.addr d.dirIn l l.length

/-- The completion queue is full, which bars a descriptor with COP = 1 from a transaction (R255). -/
def State.cqBars (s : State) (p : Nat) (d : Desc) : Bool := d.cop && decide (32 ≤ (s.getPort p).cq.length)
/-- One PTD of class 1 or 2 is visited (R206–R213); those of a stopped instance are passed over (R374). -/
def State.servePtd (s : State) (p a : Nat) (src : Where) : WStep × State :=
  let (d, pois, s) := s.readDesc a
  let w := s.getWalk p
  if !d.active || (d.cls == 0 && !pois.any id) || w.fin.contains a then (.next, s)
  else if s.instStopped d.inst && !pois.any id then (.next, s.setWalk p { w with starved := w.starved ++ [a] })
  else match s.descCheck p d pois false with
    | (some st, s) => (.next, s.endXfer p a d false st (st == dLINK_LOST && s.ouOf p a d) (copOk pois))
    | (none, s) =>
      let q := s.pipe p d.addr d.dirIn d.ep
      if q.halted then (.next, s.endXfer p a d false dHALTED false)
      else if q.waiting && !q.due then (.next, s.setWalk p { w with retry := w.retry ++ [a] })
      else if (d.dirIn && s.credit p d == 0) || s.cqBars p d then (.next, s.setWalk p { w with starved := w.starved ++ [a] })
      else
        let x := (s.xfer p a).getD { btd := false }
        let l := s.plan p d x
        let wf := if !d.dirIn && q.waiting then s.estimate p d.addr false [] else s.estimate p d.addr d.dirIn l
        if src = .periodic ∧ s.pwmax p < w.psum + wf then
          if d.cls = 1 then (.next, s.endXfer p a d false dSKIPPED false)
          else (.next, s.setWalk p { w with defer := w.defer ++ [a] })
        else match s.fitDesc p d l with
          | none => (.stop, s.closeFrame p)
          | some (n, wn) =>
            let s := s.setWalk p { w with psum := if src = .periodic then w.psum + wn else w.psum, started := setAdd w.started a }
            startedStep p (s.startDesc p a d false src n)

/-- One BTD is visited (R197, R213, R217). -/
def State.serveBtd (s : State) (p a : Nat) (d : Desc) (pois : List Bool) : WStep × State :=
  match s.descCheck p d pois true with
  | (some st, s) => (.next, s.endXfer p a d true st (st == dLINK_LOST && s.ouOf p a d) (copOk pois))
  | (none, s) =>
    let done := (d.w 10).toNat
    let x : Xfer := match s.xfer p a with
      | some x => if x.done = done then x else { btd := true, done := done, acked := done / d.mps, sent := done / d.mps }
      | none => { btd := true, done := done, acked := done / d.mps, sent := done / d.mps }
    let q := s.pipe p d.addr d.dirIn d.ep
    if q.halted then (.next, s.endXfer p a d true dHALTED false)
    else if q.waiting && !q.due then (.next, s)
    else if (d.dirIn && s.credit p d == 0) || s.cqBars p d then (.next, s)
    else match s.fitDesc p d (s.plan p d x) with
      | none => (.stop, s.closeFrame p)
      | some (n, _) =>
        let s := (s.setXfer p a x).setWalk p { s.getWalk p with bserved := true }
        startedStep p (s.startDesc p a d true .bulk n)

/-- The bulk window: one BTD of the list is visited, or a round ends (R187, R197, R198, R213). -/
def State.bulkStep (s : State) (p : Nat) : WStep × State :=
  if !s.on R.SCH_CTL_BULKEN p || !s.on R.SCH_BULKPOS_VALID p then (.stop, s.closeFrame p)
  else
    let a := s.rd R.SCH_BULKPOS_POS p * 64
    let w := s.getWalk p
    if (w.bfirst == some a && decide (0 < w.bvis)) || decide (4096 ≤ w.bvis) then
      if !w.bcls3 then (.next, s.setWalk p { w with bcls3 := true, bvis := 0, bfirst := some a })
      else if !w.bserved then (.stop, s.closeFrame p)
      else (.next, s.setWalk p { w with bcls3 := false, bserved := false, bvis := 0, bfirst := some a })
    else
      let s := s.setWalk p { w with bvis := w.bvis + 1, bfirst := some (w.bfirst.getD a) }
      let (d, pois, s) := s.readDesc a
      let s := if chainEnds d pois then
          s.setBulkPos p (if s.on R.SCH_BULKHEAD_EMPTY p then none else some (s.rd R.SCH_BULKHEAD_HEAD p * 64))
        else s.setBulkPos p (some d.next)
      if !d.active || (((d.cls == 3) != w.bcls3 || s.instStopped d.inst) && !pois.any id) then (.next, s)
      else s.serveBtd p a d pois

/-- The burst of a firmware transaction that fits, of at most c packets: SETUP with its request, the reply's TOKEN_IN or the
SYNC token of PIPE_CLEAR, whose packets may be as long as a packet can be (R133, R184–R186). -/
def State.fwFit (s : State) (p : Nat) (j : FwJob) (c : Nat) : Option (Nat × Nat) :=
  if j.isClear then
    if j.dirIn then s.fitBurst p j.addr true [4096] 1
    else (let w := s.estimate p j.addr false []; if s.fits p w then some (1, w) else none)
  else if j.setupDone then s.fitBurst p j.addr true (List.replicate c 4096) c
  else s.fitBurst p j.addr false [8] 1
/-- The firmware transaction at the head of the queue starts; one whose device has gone ends (R161, R163). -/
def State.fwStep (s : State) (p : Nat) (gate : Bool) : Option (WStep × State) :=
  match (s.getPort p).fw with
  | [] => none
  | j :: l =>
    if (j.addr ≠ 0 ∧ ¬ s.genOk p j.addr j.gen) ∨ ¬ s.linkUp p then
      some (.next, (s.setPort p { s.getPort p with fw := l }).fwGone p j)
    else
      let reply := j.setupDone && !j.isClear
      let q := s.pipe p j.addr true 0
      let c := if reply then s.fwCredit p else 1
      if c = 0 ∨ (reply ∧ q.waiting ∧ ¬ q.due) then none
      else if gate then
        match s.fwFit p j c with
        | none => some (.stop, s.closeFrame p)
        | some (n, _) => some (.stop, s.startFw p j n)
      else some (.stop, s.startFw p j c)

/-- The next hub poll of the frame (R118). -/
def State.hubStep (s : State) (p : Nat) : Option (WStep × State) :=
  let w := s.getWalk p
  match w.hubs with
  | [] => none
  | h :: l =>
    let s1 := s.setWalk p { w with hubs := l }
    if !s.present p h || !s.linkUp p then some (.next, s1)
    else if s.fits p (s.estimate p h true [8 * bits ((smGet (s.getPort p).ident [] h).getD 1 0) 7 4]) then
      some (.stop, s1.startHub p h)
    else some (.stop, s.closeFrame p)

/-- The next SYNC token that ended unanswered is sent again (R175, R182). -/
def State.psyncStep (s : State) (p : Nat) : Option (WStep × State) :=
  match (s.getPort p).psyncs with
  | [] => none
  | t :: l =>
    let s1 := s.setPort p { s.getPort p with psyncs := l }
    if !s.genOk p t.addr t.gen || !s.linkUp p then some (.next, s1)
    else if s.fits p (s.estimate p t.addr false []) then some (.stop, s1.startPsync p t)
    else some (.stop, s.closeFrame p)

/-- The first PTD of the retry queue that may run now (R215). -/
def State.readyRetry (s : State) (p : Nat) : Option Nat :=
  (s.getWalk p).retry.find? (fun a =>
    let d := s.peekDesc a
    let q := s.pipe p d.addr d.dirIn d.ep
    !q.waiting || q.due)

/-- One step of the walker within an open window (R213). -/
def State.walkStep (s : State) (p : Nat) : WStep × State :=
  let w := s.getWalk p
  match s.psyncStep p with
  | some r => r
  | none =>
  if !s.on R.SCH_CTL_EN p then
    let s := s.wr R.SCH_PSTAT_WSTATE 2 p
    match s.hubStep p with
    | some r => r
    | none => match s.fwStep p true with
      | some r => r
      | none => (.stop, s.closeFrame p)
  else match w.cont with
  | some (a, src) => (s.setWalk p { w with cont := none }).servePtd p a src
  | none =>
    match w.todo with
    | a :: l =>
      (s.setWalk p { w with todo := l }).servePtd p a .periodic
    | [] =>
      let s := s.wr R.SCH_PSTAT_WSTATE 2 p
      let back := w.starved.filter (fun a =>
        let d := s.peekDesc a
        (!d.dirIn || decide (0 < s.credit p d)) && !s.cqBars p d && !s.instStopped d.inst)
      let w := { w with starved := w.starved.filter (fun a => !back.contains a), retry := w.retry ++ back }
      let s := s.setWalk p w
      if !w.retry.isEmpty then
        match s.readyRetry p with
        | none => (.stop, s)
        | some a => (s.setWalk p { w with retry := w.retry.erase a }).servePtd p a .retry
      else match w.defer with
        | a :: l => (s.setWalk p { w with defer := l }).servePtd p a .deferred
        | [] =>
          match s.hubStep p with
          | some r => r
          | none =>
            match s.fwStep p true with
            | some r => r
            | none => s.bulkStep p

/-- The lane may carry a new transaction of classes 1–3 (R154, R189, R643). -/
def State.laneFree (s : State) (p : Nat) : Bool :=
  (s.getPort p).cur.isNone && (s.lstate p == lL0 || !s.linkUp p) && !s.on R.PTU_PSTAT_PREWARN p && (s.getPort p).held.isEmpty
/-- The window of the frame is open: SOF has been sent, and no GUARD of an earlier frame is owed (R183, R191). -/
def State.windowOpen (s : State) (p : Nat) : Bool :=
  let w := s.getWalk p
  w.live && !w.closed && (s.getFrame p).sof.isNone && w.owed.isNone
/-- WALKER_SERVE_BURST: the walker goes on until it has started a transaction, waits, or closes the frame (R185, R213). -/
def State.walkLoop (p : Nat) : Nat → State → State
  | 0, s => s
  | n + 1, s =>
    if !s.laneFree p || !s.windowOpen p then s
    else match s.walkStep p with
      | (.next, s) => State.walkLoop p n s
      | (.stop, s) => s
/-- A frame is in progress: one has started, and where no more start it has not ended with its GUARD (R45, R188). -/
def State.inFrame (s : State) (p : Nat) : Bool :=
  let w := s.getWalk p
  w.live && (s.on R.PTU_PFRM_FEN p || !w.guarded)
/-- The walker serves what follows; with no frame in progress, the firmware's transactions run (R107). -/
def State.walkerGo (s : State) (p : Nat) : State :=
  let s := (s.sendHeld p).enumKick p
  if s.inFrame p then (State.walkLoop p 65536 s).reSync p
  else if s.laneFree p then
    match s.fwStep p false with
    | some (_, s) => s
    | none => s
  else s

end Sys2Proof.Machine
end

