-- ==== Sys2Proof/Machine/Rx.lean ====
section
/-! DEFINITION. What arrives on a root port: DATA, handshakes, STALL, PROBE, READY, PORT_EVENT and POSITION_REPORT, and the
timeouts of transactions (R100, R101, R133, R141, R147–R182). -/

namespace Sys2Proof.Machine

/-! ## Acceptance (R100, R101, R133) -/

/-- A packet belongs to a transaction (R136). -/
def Txn.meets (t : Txn) (k : RxPacket) : Bool :=
  t.addr == k.addr && t.gen == k.gen && t.dirIn == k.dir && t.ep == k.ep && t.tc == k.tc
/-- The packet is not discarded, is of type `ty`, and its address accepts it; then it sets TOCNT to 0 and meets the response
timeout of its transaction (R100, R101, R133, R174).  CRC errors count for a packet that ended with EOP (log entry 183). -/
def State.rxAccept (s : State) (p : Nat) (k : RxPacket) (ty : Nat) : Bool × State :=
  let l := s.lstate p
  if l ≠ lL0 ∧ l ≠ lENTRY then (false, s)
  else if k.framed && !k.crcOk then (false, s.count R.EWZ_CNT0_CRCERR p)
  else if !k.formOk || k.ty != ty then (false, s)
  else
    let a := k.addr
    if a = 0 ∧ k.gen = 0 ∧ s.on R.EWZ_ENUM_DEFOPEN p then (true, s)
    else if a ≠ 0 ∧ a ≠ 127 ∧ s.on R.EWZ_ADDRTAB0_VALID p a then
      if s.genOk p a k.gen then
        let x := s.getPort p
        let s := s.setPort p { x with toOld := s.rd R.EWZ_ADDRTAB0_TOCNT p a }
        (true, s.wr R.EWZ_ADDRTAB0_TOCNT 0 p a)
      else
        let s := (s.count R.EWZ_CNT0_STALEGEN p).wr R.EWZ_EVT_ZOMBIE 1 p
        (false, s.report (0x2000 + p * 128) (0x3000 + p * 128) 0x22)
    else (false, s.count R.EWZ_CNT2_BADADDR p)
/-- The outstanding transaction of classes 1–3 that a packet answers. -/
def State.rxTxn (s : State) (p : Nat) (k : RxPacket) : Option Txn :=
  match (s.getPort p).cur with
  | some t => if t.meets k then some { t with answered := true } else none
  | none => none
/-- The pair whose TOKEN_IN a class-0 packet answers. -/
def State.rxPair (s : State) (p : Nat) (k : RxPacket) : Option Nat :=
  match (s.getPort p).cur0 with
  | some t => if k.tc = 0 ∧ t.addr = k.addr ∧ t.gen = k.gen ∧ t.ep = k.ep ∧ k.dir then some t.pair else none
  | none => none
/-- Runs a received packet through its acceptance, then lets the walker go on.  An answer shows that the burst which it answers has
left (R151). -/
def State.rx (s : State) (p : Nat) (k : RxPacket) (ty : Nat) (f : State → State) : State :=
  match s.rxAccept p k ty with
  | (true, s) => (f (if (s.rxTxn p k).isSome then s.passAll p else s)).walkerGo p
  | (false, s) => s

/-! ## Reception of payload (R147, R209, R210, R235) -/

/-- Payload words, the last padded with 0. -/
def payloadWords (l : List Byte) : List (Word × Bool) := (bytesWords l).map (fun w => (w, false))
/-- A taken packet with DOP = 1 becomes a PACKET operand; its payload stays in the packet buffer (R210, R235). -/
def State.packetOperand (s : State) (p : Nat) (d : Desc) (k : RxPacket) : State :=
  let (idx, s) : Nat × State := if k.len = 0 then (0, s)
    else
      let (i, s) := s.bufTake p k.len
      (i, s.storeWords (saBuf p (i * 16)) (payloadWords k.payload))
  let w0 := w32 (p * 2 ^ 28 + k.len * 2 ^ 15 + b2n k.last * 2 ^ 14 + idx)
  let w1 := w32 (2 ^ 28 + k.tc * 2 ^ 26 + k.addr * 2 ^ 19 + k.gen * 2 ^ 15 + k.ep * 2 ^ 10 + k.seq * 2 ^ 4)
  (s.offer d.dcairn d.dslot w0 w1).2
/-- The root port has room for a packet (R210). -/
def State.takes (s : State) (p : Nat) (d : Desc) (len : Nat) : Bool :=
  (len == 0 || s.bufRoom p len) && (!d.dop || s.drops d.dcairn d.dslot ||
    (s.wouldTake d.dcairn d.dslot && !s.outranked (.packet p) d.dcairn d.dslot))

/-- One DATA packet of an IN burst: taken or not, by its sequence, the pipe's waiting state, its length and the room for it
(R147, R155, R209). -/
def State.takeData (s : State) (p : Nat) (t : Txn) (k : RxPacket) : Bool × Txn × State :=
  let d : Desc := t.words
  let q := s.pipe p t.addr true t.ep
  if k.seq ≠ q.seq.toNat ∨ t.ended.isSome ∨ q.waiting then (false, t, s)
  else
    let x := (s.xfer p t.desc).getD { btd := t.src == .bulk }
    if d.tlen < x.done + k.len then (false, { t with ended := some dLENGTH_ERR }, s)
    else if !s.takes p d k.len then (false, { t with full := true }, s)
    else
      let s := if d.dop then s.packetOperand p d k else s.putBytes (d.buf + x.done) k.payload
      let done := x.done + k.len
      let s := s.setXfer p t.desc { x with done := done, retx := x.retx + b2n k.retx }
      let s := s.setPipe p t.addr true t.ep { s.pipe p t.addr true t.ep with seq := q.seq + 1 }
      let fin := k.last || decide (k.len < d.mps) || decide (done = d.tlen)
      (true, { t with ended := if fin then some (if done < d.tlen then dSHORT else dOK) else none }, s)

/-- One handshake of NAK or NOTYET counts in NAKS (R204). -/
def State.addNak (s : State) (p a : Nat) : State :=
  match s.xfer p a with
  | some x => s.setXfer p a { x with naks := x.naks + 1 }
  | none => s
/-- Probe interval of the descriptor of a transaction, in ns: PINT × 20 ns, 0 one segment time (R204). -/
def State.probeNs (s : State) (p : Nat) (t : Txn) : Nat :=
  let n := Desc.pint t.words
  if n = 0 then s.tseg p else 20 * n
/-- The pipe waits from now on; its probe interval starts (R155, R156, R158). -/
def State.startWait (s : State) (p : Nat) (t : Txn) (din : Bool) : State :=
  s.setPipe p t.addr din t.ep
    { s.pipe p t.addr din t.ep with waiting := true, due := false, dueAt := s.ns.toNat + s.probeNs p t }

/-- The burst of an IN transaction has ended: its handshake, and what becomes of it (R151, R153, R161). -/
def State.burstEnd (s : State) (p : Nat) (t : Txn) : State :=
  let q := s.pipe p t.addr true t.ep
  match t.kind with
  | .inn =>
    let d : Desc := t.words
    let c := if t.full || q.waiting then 0 else s.credit p d
    let s := s.handshake p t q.seq.toNat c
    let s := if c = 0 then (s.addNak p t.desc).startWait p t true else s
    s.txnDone p t (match t.ended with | some st => .fin st false | none => if c = 0 then .wait else .go)
  | .reply =>
    let c := if t.full || q.waiting then 0 else s.fwCredit p
    let s := (s.handshake p t q.seq.toNat c).setCur p none
    let s := if c = 0 then s.startWait p t true else s
    if t.ended.isSome then
      s.fwDone p (.done (match (s.getPort p).fw with | j :: _ => j.reply | [] => []))
    else s
  | .clear => ((s.handshake p t 0 1).setCur p none).fwDone p (.done [])
  | .hub => (s.handshake p t q.seq.toNat 1).txnDone p t .go
  | _ => s

/-- A class-0 packet answers its pair's TOKEN_IN: whether it is taken (R166, R167, R209, R210, R222). -/
def State.inbound (s : State) (p n : Nat) (k : RxPacket) : Bool × State :=
  match smFind (s.getPort p).pairs n with
  | none => (false, s)
  | some x =>
    let d : Desc := x.words
    let y := s.getPort p
    let s := s.setPort p { y with cur0 := none }
    let s := s.setPipe p k.addr true k.ep { s.pipe p k.addr true k.ep with seq := BitVec.ofNat 6 (k.seq + 1) }
    let pend := s.cancelDue p x.desc
    let done (s : State) : State := if pend then s.cancelResult p 3 else s
    if d.tlen < k.len then (false, done (s.endPair p n dLENGTH_ERR))
    else if !s.takes p d k.len then (false, done (s.endPair p n dMISSED))
    else
      let s := s.packetOperand p d k
      let s := s.setPort p { s.getPort p with pairs := smIns (s.getPort p).pairs n { x with inbound := true, done := k.len } }
      (true, if pend then (s.endPair p n dCANCELLED).cancelResult p 1
        else if x.late then s.endPair p n dEXPIRED else s)
/-- A class-0 TOKEN_IN ends without its packet. -/
def State.endToken0 (s : State) (p n status : Nat) : State :=
  match smFind (s.getPort p).pairs n with
  | none => s
  | some x =>
    let pend := s.cancelDue p x.desc
    let s := s.endPair p n status
    if pend then s.cancelResult p 3 else s

/-- DATA, PORT_EVENT and POSITION_REPORT (R147): the packet is taken or not, and a burst that ends is answered.  `seen` acts on a
packet that is taken. -/
def State.rxData (s : State) (p : Nat) (k : RxPacket) (seen : State → State) : State :=
  match s.rxPair p k with
  | some n =>
    match s.inbound p n k with
    | (true, s) => seen s
    | (false, s) => s
  | none =>
    match s.rxTxn p k with
    | none => s
    | some t =>
      let s := s.setCur p (some t)
      let (t, s) : Txn × State := match t.kind with
        | .inn => let (ok, t, s) := s.takeData p t k; (t, if ok then seen s else s)
        | .reply =>
          let q := s.pipe p t.addr true t.ep
          if k.seq = q.seq.toNat ∧ t.ended.isNone ∧ ¬ q.waiting then
            if 0 < k.len ∧ ¬ s.bufRoom p k.len then ({ t with full := true }, s) else
            let s := s.setPipe p t.addr true t.ep { q with seq := q.seq + 1 }
            let x := s.getPort p
            let s := match x.fw with
              | j :: l => s.setPort p { x with fw := { j with reply := j.reply ++ k.payload } :: l }
              | [] => s
            (if k.last then { t with ended := some dOK } else t, s)
          else (t, s)
        | _ => (t, s)
      let s := s.setCur p (some t)
      if k.bend then s.burstEnd p t else s

/-- DATA (R147). -/
def execDataPkt (p : PortNo) (pkt : RxLine) (s : State) : Host.Outcome State Fault Refusal :=
  act s (fun s => s.rx p.toNat pkt.packet 4 (fun s => s.rxData p.toNat pkt.packet id))

/-! ## Handshakes (R149, R155, R156, R175) -/

/-- A handshake that names no sequence of the burst: the transaction counts as timed out (R149). -/
def State.badHandshake (s : State) (p : Nat) (t : Txn) : State :=
  let s := s.dueAgain p t
  let s := if t.addr = 0 then s else s.wr R.EWZ_ADDRTAB0_TOCNT (s.getPort p).toOld p t.addr
  let s := match t.kind with
    | .setup | .reply | .clear => (s.setCur p none).fwTimeout p
    | _ => s.txnDone p t .timeout
  s.countTimeout p t.addr
/-- An OUT pipe continues from E: the k packets before it are released; `f` is what else the handshake says of the pipe (R149). -/
def State.advance (s : State) (p : Nat) (t : Txn) (k nak : Nat) (f : Pipe → Pipe) : State :=
  let d : Desc := t.words
  let x := (s.xfer p t.desc).getD { btd := t.src == .bulk }
  let s := s.setXfer p t.desc { x with acked := x.acked + k, done := min d.tlen (x.done + k * d.mps), naks := x.naks + nak,
                                       kept := x.kept.drop k }
  let q := s.pipe p t.addr false t.ep
  s.setPipe p t.addr false t.ep { f q with seq := q.seq + BitVec.ofNat 6 k }
/-- Every packet of the transfer has been released. -/
def State.allAcked (s : State) (p : Nat) (t : Txn) : Bool :=
  match s.xfer p t.desc with | some x => decide (Desc.packets t.words ≤ x.acked) | none => false
/-- CREDIT as a sender uses it; 0 acts as 1, and more than 16 as 16 (log entry 181). -/
def creditOf (c : Nat) : Nat := max 1 (min 16 c)
/-- ACK, NOTYET or NAK of an OUT burst, whose E is one of its sequences or the one after it (R149, R151).  `credit` none: no credit
is granted; `waits`: NOTYET. -/
def State.release (s : State) (p : Nat) (t : Txn) (e : Nat) (credit : Option Nat) (waits : Bool) (r : TxRes) : State :=
  let k := (e + 64 - t.seq0.toNat) % 64
  if t.n < k then s.badHandshake p t
  else
    let s := s.advance p t k (b2n credit.isNone) (fun q =>
      { q with credit := match credit with | some c => creditOf c | none => q.credit, waiting := waits, due := false,
               dueAt := s.ns.toNat + s.probeNs p t })
    s.txnDone p t (if s.allAcked p t then .fin dOK false else r)
/-- READY or NAK in answer to a PROBE, whose E is that of a packet sent and not acknowledged, or S (R149, R156). -/
def State.probed (s : State) (p : Nat) (t : Txn) (e nak : Nat) (f : Pipe → Pipe) (r : TxRes) : State :=
  let k := (e + 64 - t.seq0.toNat) % 64
  let x := (s.xfer p t.desc).getD { btd := t.src == .bulk }
  if x.sent - x.acked < k then s.badHandshake p t
  else
    let s := s.advance p t k nak f
    s.txnDone p t (if s.allAcked p t then .fin dOK false else r)
/-- A handshake of a SYNC token on an OUT pipe: E is 0, or it is a bad one (R149, R162). -/
def State.syncAnswer (s : State) (p : Nat) (t : Txn) (e : Nat) : State :=
  if e ≠ 0 then s.badHandshake p t
  else match t.kind with
    | .clear => (s.setCur p none).fwDone p (.done [])
    | _ => s.txnDone p t .go
/-- The SETUP burst has been taken up to E (R163). -/
def State.setupAck (s : State) (p : Nat) (t : Txn) (e : Nat) : State :=
  if 1 < e then s.badHandshake p t
  else
    let s := (s.setCur p none).setPipe p t.addr false 0 { s.pipe p t.addr false 0 with seq := BitVec.ofNat 6 e }
    let x := s.getPort p
    match x.fw with
    | j :: l => if e = 1 then s.setPort p { x with fw := { j with setupDone := true } :: l } else s
    | [] => s

/-- ACK (R149). -/
def execAck (p : PortNo) (pkt : RxLine) (s : State) : Host.Outcome State Fault Refusal :=
  act s (fun s => s.rx p.toNat pkt.packet 5 (fun s =>
    let p := p.toNat
    let k := pkt.packet
    match s.rxTxn p k with
    | none => s
    | some t => match t.kind with
      | .out => s.release p t k.seq (some (k.arg0 % 32)) false .go
      | .setup => s.setupAck p t k.seq
      | .psync => s.syncAnswer p t k.seq
      | .clear => if t.dirIn then s else s.syncAnswer p t k.seq
      | _ => s))
/-- NOTYET (R155). -/
def execNotyet (p : PortNo) (pkt : RxLine) (s : State) : Host.Outcome State Fault Refusal :=
  act s (fun s => s.rx p.toNat pkt.packet 7 (fun s =>
    let p := p.toNat
    let k := pkt.packet
    match s.rxTxn p k with
    | none => s
    | some t => match t.kind with
      | .out => s.release p t k.seq none true .wait
      | .setup => s.setupAck p t k.seq
      | .psync => s.syncAnswer p t k.seq
      | .clear => if t.dirIn then s else s.syncAnswer p t k.seq
      | _ => s))
/-- NAK (R149, R151, R152, R156, R158, R166, R175). -/
def execNak (p : PortNo) (pkt : RxLine) (s : State) : Host.Outcome State Fault Refusal :=
  act s (fun s => s.rx p.toNat pkt.packet 6 (fun s =>
    let p := p.toNat
    let k := pkt.packet
    match s.rxPair p k with
    | some n => s.endToken0 p n dNODATA
    | none => match s.rxTxn p k with
      | none => s
      | some t => match t.kind with
        | .out => s.release p t k.seq none false .nak
        | .probe => s.probed p t k.seq 1 (fun q => { q with waiting := true, due := false, dueAt := s.ns.toNat + s.probeNs p t }) .wait
        | .inn =>
          let s := s.addNak p t.desc
          let s := if (s.pipe p t.addr true t.ep).waiting then s.startWait p t true else s
          s.txnDone p t .nak
        | .reply =>
          let s := if (s.pipe p t.addr true t.ep).waiting then s.startWait p t true else s
          s.setCur p none
        | .setup => s.setupAck p t k.seq
        | .psync => s.syncAnswer p t k.seq
        | .clear => if t.dirIn then (s.setCur p none).fwDone p (.done []) else s.syncAnswer p t k.seq
        | .hub => s.txnDone p t .go))
/-- The pipe is halted (R161). -/
def State.haltPipe (s : State) (p a : Nat) (din : Bool) (ep : Nat) : State :=
  s.setPipe p a din ep { s.pipe p a din ep with halted := true }
/-- STALL (R161). -/
def execStallPkt (p : PortNo) (pkt : RxLine) (s : State) : Host.Outcome State Fault Refusal :=
  act s (fun s => s.rx p.toNat pkt.packet 8 (fun s =>
    let p := p.toNat
    let k := pkt.packet
    match s.rxPair p k with
    | some n => (s.haltPipe p k.addr true k.ep).endToken0 p n dSTALLED
    | none => match s.rxTxn p k with
      | none => s
      | some t =>
        let s := s.haltPipe p t.addr t.dirIn t.ep
        match t.kind with
        | .out | .probe | .inn => s.txnDone p t (.fin dSTALLED false)
        | .psync | .hub => s.txnDone p t .go
        | .setup | .reply | .clear => (s.setCur p none).fwDone p (.stall (k.arg0 % 256))))
/-- The answer to a PROBE: READY with a credit, which acts as a TOKEN_IN for it, or NAK, after which the pipe is asked again one probe
interval later where it waits or a descriptor is served (R158). -/
def State.answerProbe (s : State) (p : Nat) (t : Txn) (c : Nat) : State :=
  let q := s.pipe p t.addr true t.ep
  if c = 0 then s.answer p 6 t q.seq.toNat 0
  else
    let s := s.setPipe p t.addr true t.ep { q with waiting := false, due := false }
    (s.answer p 10 t q.seq.toNat c).setCur p (some { t with answered := false, n := c, seq0 := q.seq, full := false })
/-- PROBE of a device, in answer to a TOKEN_IN (R158).  PIPE_CLEAR releases its pipe at this answer, and waits for the burst that a
READY asks for (R161). -/
def execProbe (p : PortNo) (pkt : RxLine) (s : State) : Host.Outcome State Fault Refusal :=
  act s (fun s => s.rx p.toNat pkt.packet 9 (fun s =>
    let p := p.toNat
    match s.rxTxn p pkt.packet with
    | none => s
    | some t => match t.kind with
      | .inn =>
        let c := s.credit p t.words
        let s := s.answerProbe p t c
        if c = 0 then ((s.addNak p t.desc).startWait p t true).txnDone p t .wait else s
      | .reply =>
        let c := s.fwCredit p
        let s := s.answerProbe p t c
        if c = 0 then (s.startWait p t true).setCur p none else s
      | .hub => s.answerProbe p t 1
      | .clear =>
        let c := min 1 (s.fwCredit p)
        let s := s.answerProbe p { t with ended := some dOK } c
        if c = 0 then (s.setCur p none).fwDone p (.done []) else s
      | _ => s))
/-- READY (R149, R156). -/
def execReady (p : PortNo) (pkt : RxLine) (s : State) : Host.Outcome State Fault Refusal :=
  act s (fun s => s.rx p.toNat pkt.packet 10 (fun s =>
    let p := p.toNat
    let k := pkt.packet
    match s.rxTxn p k with
    | none => s
    | some t => match t.kind with
      | .probe =>
        s.probed p t k.seq 0 (fun q => { q with waiting := false, due := false, credit := creditOf (k.arg0 % 32) }) .go
      | .clear => if t.dirIn then (s.setCur p none).fwDone p (.done []) else s.syncAnswer p t k.seq
      | _ => s))

/-! ## PORT_EVENT (R118, R121, R142) -/

/-- One port status record reaches the root port: what its new change bits say of the devices below, and a port that has come up
(R91, R107, R113, R121). -/
def State.hubRecord (s : State) (p h : Nat) (w0 w1 : Word) : State :=
  let hp := bits w0 3 0
  let was := (smGet (s.getPort p).hubRec (0, 0) (h * 16 + hp)).1
  let (new, s) := s.seeRecord p h w0 w1
  let s := if nbit new 4 then s.forL (s.below p h hp) (fun a s => (s.declareLost p a).2)
    else if nbit new 1 then s.forL (s.below p h hp) (fun a s => s.dropAddr p a) else s
  if w0.getLsbD 8 ∧ bits w0 31 28 = lL0 then
    match (s.getPort p).enum with
    | some e =>
      if e.step = 1 ∧ ¬ e.status ∧ e.hub = h ∧ e.hport = hp then s.enumPortUp p e (bits w1 15 0)
      else if (nbit new 0 ∨ bits was 31 28 ≠ lL0) ∧ ¬ w0.getLsbD 24 then s.attachAt p h hp (bits w1 15 0) else s
    | none => if (nbit new 0 ∨ bits was 31 28 ≠ lL0) ∧ ¬ w0.getLsbD 24 then s.attachAt p h hp (bits w1 15 0) else s
  else s
/-- The records of a PORT_EVENT, two words each. -/
def State.hubRecords (p h : Nat) : List Word → State → State
  | w0 :: w1 :: l, s => State.hubRecords p h l (s.hubRecord p h w0 w1)
  | _, s => s
/-- A PORT_EVENT has been received: HUBEVT, and its records (R113, R127). -/
def State.hubEvent (s : State) (p : Nat) (k : RxPacket) : State :=
  State.hubRecords p k.addr (bytesWords k.payload) (s.wr R.EWZ_EVT_HUBEVT 1 p)
/-- PORT_EVENT (R118, R147): the answer to the port's own poll, or to the TOKEN_IN of a descriptor or of PIPE_CLEAR. -/
def execPortEvent (p : PortNo) (pkt : RxLine) (s : State) : Host.Outcome State Fault Refusal :=
  act s (fun s => s.rx p.toNat pkt.packet 11 (fun s =>
    let p := p.toNat
    let k := pkt.packet
    match s.rxTxn p k with
    | none => s
    | some t =>
      if t.kind ≠ .hub then s.rxData p k (fun s => s.hubEvent p k)
      else
        let q := s.pipe p t.addr true t.ep
        let s := s.setCur p (some t)
        let s := if k.seq = q.seq.toNat then
            (s.setPipe p t.addr true t.ep { q with seq := q.seq + 1 }).hubEvent p k
          else s
        if k.bend ∧ (s.getPort p).cur = some t then s.burstEnd p t else s))

/-! ## POSITION_REPORT (R29–R31, R140, R141) -/

/-- TRACK_SOURCE_ERROR, or the report of a virtual track accepted (R29, R30, R31, R141). -/
def State.trackMeets (s : State) (t p : Nat) (k : RxPacket) : State :=
  let ws := bytesWords k.payload
  if ¬ s.trkRuns t then s
  else
    let err := s.wr R.PTU_TRKSTAT_SRCERR 1 t
    if s.rd R.PTU_TRKSRC_PORT t ≠ p ∨ s.rd R.PTU_TRKSRC_ADDR t ≠ k.addr ∨ s.rd R.PTU_TRKSRC_GEN t ≠ k.gen ∨
        s.rd R.PTU_TRKSRC_EP t ≠ k.ep then err
    else match (s.getFrame p).sofs.find? (fun f => f.1.toNat == bits (ws.getD 2 0) 15 0) with
      | some (_, some sof) =>
        let at_ := BitVec.ofInt 80 ((sof.toNat : Int) + (ws.getD 3 0).toInt * 4096)
        let pos : BitVec 64 := ws.getD 1 0 ++ ws.getD 0 0
        match (s.getTrack t).lastAt with
        | some last => if at_.toNat ≤ last.toNat then err else s.trkReport t at_ pos
        | none => s.trkReport t at_ pos
      | _ => err
/-- POSITION_REPORT (R140, R141): the packet is taken as DATA of its pipe is, and the virtual tracks see one of 16 bytes (log entry
182). -/
def execPositionReport (p : PortNo) (pkt : RxLine) (s : State) : Host.Outcome State Fault Refusal :=
  act s (fun s => s.rx p.toNat pkt.packet 12 (fun s => s.rxData p.toNat pkt.packet (fun s =>
    if pkt.packet.len = 16 then s.forN 8 (fun t s => s.trackMeets (8 + t) p.toNat pkt.packet) else s)))

/-! ## Timeouts (R173–R175) -/

/-- RESPONSE_TIMEOUT (R174): no valid answer in time. -/
def execResponseTimeout (p : PortNo) (class0 : Bool) (s : State) : Host.Outcome State Fault Refusal :=
  act s (fun s =>
    let p := p.toNat
    if class0 then
      match (s.getPort p).cur0 with
      | none => s
      | some t => ((s.endToken0 p t.pair dTIMEOUT).countTimeout p t.addr).walkerGo p
    else
      match (s.getPort p).cur with
      | none => s
      | some t =>
        if t.answered then s
        else
          let s := (s.passAll p).dueAgain p t
          let s := match t.kind with
            | .clear => if t.ended.isSome then (s.setCur p none).fwDone p (.done []) else (s.setCur p none).fwTimeout p
            | .setup | .reply => (s.setCur p none).fwTimeout p
            | _ => s.txnDone p t .timeout
          (s.countTimeout p t.addr).walkerGo p)
/-- BURST_GAP_TIMEOUT (R173): the burst of an IN transaction ends without BEND. -/
def execBurstGapTimeout (p : PortNo) (s : State) : Host.Outcome State Fault Refusal :=
  act s (fun s =>
    let p := p.toNat
    match (s.getPort p).cur with
    | some t => if t.answered then (s.burstEnd p t).walkerGo p else s
    | none => s)
/-- PROBE_INTERVAL_EXPIRY (R156, R158): a waiting pipe may be asked again. -/
def execProbeIntervalExpiry (p : PortNo) (addr : BitVec 7) (dirIn : Bool) (ep : BitVec 4) (s : State) :
    Host.Outcome State Fault Refusal :=
  act s (fun s =>
    let q := s.pipe p.toNat addr.toNat dirIn ep.toNat
    if q.waiting then
      (s.setPipe p.toNat addr.toNat dirIn ep.toNat { q with due := true }).walkerGo p.toNat
    else s)

end Sys2Proof.Machine
end

