-- ==== Sys2Proof/Machine/Sched.lean ====
section
/-! DEFINITION. Frames: markers that fire and what they commit, SOF and its stamp, the periodic set, GUARD, class-0 tokens,
EMIT packets, and the schedule's own commands (R37–R60, R85–R89, R188–R228). -/

namespace Sys2Proof.Machine

/-! ## The end of a frame and the periodic set (R188, R193–R196, R213) -/

/-- What is left of a frame's periodic set when it ends (R168, R213, R216, R220); the descriptor being served is left to
its transaction. -/
def State.frameEnd (s : State) (p : Nat) : State :=
  let w := s.getWalk p
  let serving := match (s.getPort p).cur with | some t => some t.desc | none => none
  let x := s.getPort p
  let s := s.setPort p { x with psyncs := x.psyncs.filter (fun t => decide (t.tc ≠ 1)) }
  let s := s.forL (x.psyncs.filter (fun t => decide (t.tc = 1))) (fun t s =>
    s.setPipe p t.addr false t.ep { s.pipe p t.addr false t.ep with sync := true })
  let s := s.forL w.c0 (fun a s =>
    let d := s.peekDesc a
    if d.active && d.cls == 0 then s.complete p a d false { status := dSKIPPED } else s)
  let s := s.setWalk p { s.getWalk p with c0 := [] }
  s.forL w.set (fun a s =>
    let d := s.peekDesc a
    if serving = some a ∨ (s.getWalk p).fin.contains a ∨ ¬ d.active ∨ d.cls = 0 then s
    else s.leftover p a d (w.started.contains a))

/-- Follows a chain from a into the periodic set of at most 4,096 PTDs; `seen` are the PTDs of this chain so far.  The second value
says that the set reaches further, as a chain that leads back into itself does (R195, R196). -/
def State.setChain (s : State) : Nat → Nat → List Nat → List Nat → List Nat × Bool × State
  | 0, _, _, acc => (acc, true, s)
  | n + 1, a, seen, acc =>
    let old := acc.contains a
    if seen.contains a || (!old && decide (4096 ≤ acc.length)) then (acc, true, s)
    else
      let acc := if old then acc else acc ++ [a]
      let (w0, pois, s) := s.readWord (saList a)
      if w0.getLsbD 31 || pois then (acc, false, s) else s.setChain n (bits w0 22 6 * 64) (a :: seen) acc
/-- The periodic set of frame `fnum`: carried PTDs, the chains of the fired markers, the frame-list chain (R193–R196). -/
def State.buildSet (s : State) (p : Nat) (carry fired : List Nat) (fnum : Nat) : List Nat × State :=
  let anchors := fired.filterMap (fun m => if s.on R.SCH_ANCHOR_EMPTY p m then none else some (s.rd R.SCH_ANCHOR_HEAD p m * 64))
  let (heads, s) : List Nat × State :=
    if s.on R.SCH_PFLBASE_PEN p then
      let (w, pois, s) := s.readWord (saList (s.rd R.SCH_PFLBASE_BASE p * 4096 + fnum % 1024 * 4))
      (if pois || w.getLsbD 31 then anchors else anchors ++ [bits w 22 6 * 64], s)
    else (anchors, s)
  let (l, full, s) := heads.foldl (fun (acc : List Nat × Bool × State) a =>
    let (l, o, s) := acc.2.2.setChain 131073 a [] acc.1
    (l, acc.2.1 || o, s)) (carry.eraseDups, false, s)
  (l, if full then s.wr R.SCH_PSTAT_LISTERR 1 p else s)

/-- The new frame's periodic set enters the walker; with SCH_CTL.EN = 0 carried PTDs wait for a later frame (R216, R227). -/
def State.loadSet (s : State) (p : Nat) (carry fired : List Nat) (fnum : Nat) : State :=
  if s.on R.SCH_CTL_EN p then
    let (l, s) := s.buildSet p carry fired fnum
    s.setWalk p { s.getWalk p with set := l, todo := l, c0 := l.filter (fun a => (s.peekDesc a).cls == 0), carried := carry, carry := [] }
  else s.setWalk p { s.getWalk p with set := [], todo := [], c0 := [], carried := carry, carry := carry }

/-- The root link is in L1 or L2. -/
def State.linkAsleep (s : State) (p : Nat) : Bool := s.lstate p == lL1 || s.lstate p == lL2
/-- WALKER_FRAME_START: the frame of port p ends and frame `fnum` starts; what is outstanding overruns it (R187, R191, R194,
R198, R213, R222). -/
def State.frameStart (s : State) (p fnum : Nat) (fired : List Nat) : State :=
  let w := s.getWalk p
  let guardDue := w.live && !w.guarded && s.linkUp p && !s.linkAsleep p
  let late := w.live && !w.guarded && (s.getPort p).cur.isSome
  let s := if w.live && !w.guarded then (s.closeFrame p).frameEnd p else s
  let s := if late then (s.wr R.SCH_PSTAT_FOVR 1 p).count R.SCH_PCNT1_FOVR p else s
  let w := s.getWalk p
  let new : Walk := { live := true, fnum := BitVec.ofNat 16 fnum, owed := if guardDue then some w.fnum else w.owed,
                      overran := late, gTime := if late || !w.guarded then none else w.gTime, bTime := w.bTime, sync := w.sync,
                      rehub := w.rehub }
  let s := s.setWalk p { new with carry := w.carry }
  let s := if ¬ s.on R.SCH_BULKPOS_VALID p ∧ ¬ s.on R.SCH_BULKHEAD_EMPTY p then
      s.setBulkPos p (some (s.rd R.SCH_BULKHEAD_HEAD p * 64))
    else s
  let i := s.rd R.EWZ_HUBPOLL_INTVL p
  let hubs := if 0 < i ∧ fnum % i = 0 then (s.addrs p).filter (fun a => s.on R.EWZ_ADDRTAB0_HUB p a && s.present p a) else []
  let again := w.rehub.filter (fun a => s.present p a)
  let s := s.setWalk p { s.getWalk p with hubs := (again ++ hubs).eraseDups, rehub := again }
  (s.loadSet p w.carry fired fnum).reSync p

/-- PAIR_EXPIRED: at a commit, an open pair with an inbound packet and no EMIT ends; one whose token is unanswered ends when
its packet comes (R222). -/
def State.expirePairs (s : State) (p : Nat) : State :=
  s.forL (s.getPort p).pairs (fun e s =>
    if e.2.inbound then
      if e.2.emit.isSome then s
      else
        let pend := s.cancelDue p e.2.desc
        let s := s.endPair p e.1 dEXPIRED
        if pend then s.cancelResult p 3 else s
    else s.setPort p { s.getPort p with pairs := smIns (s.getPort p).pairs e.1 { e.2 with late := true } })

/-! ## Commits (R45–R60) -/

/-- The class-0 bound of the port is suspended until its next SOF (R89, R225). -/
def State.suspendBound (s : State) (p : Nat) : State :=
  let s := s.wr R.EWZ_EVT_BNDSUSP 1 p
  let x := s.getPort p
  let s := if x.pairs.isEmpty then s else s.wr R.SCH_RFXSTAT_SUSP_LINK 1 p
  s.setPort p { x with unbound := true, pairs := x.pairs.map (fun e => (e.1, { e.2 with bsusp := true })) }

/-- A port's link can send the SOF of a commit: it is in L0, or in a fast retrain that delays it (R59, R88). -/
def State.sofLink (s : State) (p : Nat) : Bool := s.lstate p == lL0 || s.lstate p == lRETRAIN
/-- FRAME_COMMIT on port p of the gang led by q (R45, R48, R50, R58, R59, R97). -/
def State.commitPort (s : State) (p fnum : Nat) (k : CommitKind) (m : Option Nat) (late retrain : Bool) (fired : List Nat) : State :=
  let s := s.expirePairs p
  let s := s.frameStart p fnum fired
  let s := s.wr R.PTU_PFNUM_FNUM fnum p
  let s := s.wr R.PTU_PSTAT_LASTCAUSE (match k with | .marker => 0 | .timeFill => 1 | .deferredMarker => 2) p
  let s := match m with | some m => s.wr R.PTU_PSTAT_LASTMK m p | none => s
  let s := if k = .timeFill then s.count R.PTU_PCNT0_TIMEFILL p else s
  let x := s.rd R.PTU_PCFG_STRK p
  let f := s.getFrame p
  let sof : Option SofPend := if s.sofLink p then
      some { fnum := BitVec.ofNat 16 fnum, timeFill := k == .timeFill, deferred := k == .deferredMarker,
             late := late, retrain := retrain, age := 0, hist := [(s.trkPos x, s.rdw R.PTU_TRKVEL_VEL x)] }
    else none
  let s := s.setFrame p { f with since := 0, first := false, deferred := none, now := some k, sof := sof, joining := false, led := none,
                                 sofs := ((BitVec.ofNat 16 fnum, none) :: f.sofs).take 4 }
  let l := s.lstate p
  let s := if l = lL1 ∨ l = lL2 then
      let s := (s.count R.EWZ_CNT2_MISSEDSOF p).wr R.EWZ_EVT_MISSEDSOF 1 p
      s.lateWake.startResume p 8
    else if retrain && s.sofLink p then s.suspendBound p
    else s
  let s := if sof.isNone && (s.getWalk p).owed.isNone then s.wr R.SCH_PSTAT_WSTATE 1 p else s
  (s.lateRopes (fun r => nbit (s.rd R.PWR_RPORTS_PORTS r) p)).predict p
/-- The commit of the gang led by q; a member that must delay its SOF makes every member late (R54, R58, R88). -/
def State.commit (s : State) (q : Nat) (k : CommitKind) (m : Option Nat) : State :=
  let fs := s.followers q
  let fnum := (s.rd R.PTU_PFNUM_FNUM q + 1) % 2 ^ 16
  let fired := if k = .timeFill then [] else (s.getFrame q).fired
  let retrain := fs.any (fun p => s.lstate p == lRETRAIN)
  let late := fs.any (fun p => s.sofLink p && (decide ((s.getFrame p).preClk * 2 < s.tseg p) || s.lstate p == lRETRAIN))
  s.forL fs (fun p s => s.commitPort p fnum k m late retrain fired)
/-- A bound marker fires in this clock and has not been taken yet (R45, R49). -/
def State.boundDue (s : State) (q : Nat) : Bool := (List.range 32).any (fun m => s.bound q m && (s.mkDue m).isSome)
/-- FMIN of port q has passed, or does not apply (R45, R46). -/
def State.fminPassed (s : State) (q : Nat) : Bool :=
  (s.getFrame q).first || decide (limClk (s.rd R.PTU_PFRM_FMIN q) ≤ (s.getFrame q).since)

/-- A bound marker has fired on port q, which leads its gang: a commit, a deferred start, or a merged fire (R45–R49). -/
def State.boundFire (s : State) (q m : Nat) : State :=
  let f := s.getFrame q
  let f := { f with fired := setAdd f.fired m }
  let s := s.setFrame q f
  match f.now with
  | some _ =>
    let s := (s.count R.PTU_PCNT0_MERGED q).forL (s.followers q) (fun p s =>
      s.wr R.PTU_PSTAT_LASTMK (min m (s.rd R.PTU_PSTAT_LASTMK p)) p)
    s.forL (s.followers q) (fun p s =>
      s.loadSet p (s.getWalk p).carried f.fired (s.rd R.PTU_PFNUM_FNUM p))
  | none =>
    if s.fminPassed q then
      let s := if f.deferred.isSome then s.count R.PTU_PCNT0_MERGED q else s
      s.commit q .marker (some m)
    else match f.deferred with
      | none => s.setFrame q { f with deferred := some (BitVec.ofNat 5 m, 0) }
      | some (m0, age) =>
        let s := s.count R.PTU_PCNT0_MERGED q
        if age = 0 then s.setFrame q { s.getFrame q with deferred := some (BitVec.ofNat 5 (min m m0.toNat), 0) } else s

/-- MARKER_FIRE (R37): the marker fires if its armed value has reached its target in this clock. -/
def execMarkerFire (m : MarkNo) (s : State) : Host.Outcome State Fault Refusal :=
  act s (fun s =>
    let m := m.toNat
    match s.mkDue m with
    | none => s
    | some down =>
      let s := s.mkFire m down
      s.forL ((List.range 16).filter (fun q => s.on R.PTU_PFRM_FEN q && s.leader q == q && s.bound q m))
        (fun q s => s.boundFire q m))
/-- DEFERRED_START_DUE (R45, R49). -/
def execDeferredStartDue (p : PortNo) (s : State) : Host.Outcome State Fault Refusal :=
  act s (fun s =>
    let q := s.leader p.toNat
    let f := s.getFrame q
    match f.deferred with
    | some (m, _) =>
      if s.on R.PTU_PFRM_FEN q && f.now.isNone && s.fminPassed q && !s.boundDue q then s.commit q .deferredMarker (some m.toNat)
      else s
    | none => s)
/-- FMAX_EXPIRY (R45, R46, R49). -/
def execFmaxExpiry (p : PortNo) (s : State) : Host.Outcome State Fault Refusal :=
  act s (fun s =>
    let q := s.leader p.toNat
    let f := s.getFrame q
    if s.on R.PTU_PFRM_FEN q && f.now.isNone && decide (limClk (s.rd R.PTU_PFRM_FMAX q) ≤ f.since) && !s.boundDue q &&
        !(f.deferred.isSome && s.fminPassed q) then s.commit q .timeFill none
    else s)

/-! ## SOF (R53–R55, R139) -/

/-- POSITION_STAMP: a position at a velocity, LAT + TRIM later (R55). -/
def State.stamp (s : State) (p : Nat) (pos : BitVec 64) (vel : Word) : BitVec 64 × State :=
  let t : Int := (s.rd R.PTU_PLAT_LAT p : Int) + (BitVec.ofNat 16 (s.rd R.PTU_PLAT_TRIM p)).toInt
  let n := vel.toInt * t
  let (d, s) := s.squot n 16000
  (pos + BitVec.ofInt 64 d, s)
/-- PTU clocks in PTU_PLAT.LAT (R53). -/
def State.latClk (s : State) (p : Nat) : Nat := cdiv (s.rd R.PTU_PLAT_LAT p) 32
/-- A late SOF of the gang is held: a member with it is still in its fast retrain, or the clock in which every member's SOF enters its
path lies LAT back only later (R54, R58, R88). -/
def State.sofHeld (s : State) (p : Nat) (x : SofPend) : Bool :=
  x.late && ((s.followers (s.leader p)).any (fun q =>
      s.lstate q == lRETRAIN && (match (s.getFrame q).sof with | some y => y.fnum == x.fnum | none => false)) ||
    (match x.enter with | some e => decide (x.age < e + s.latClk p) | none => false))
/-- The first late SOF of a gang that leaves gives the clock to which every member delays (R58). -/
def State.sofEnter (s : State) (p : Nat) (x : SofPend) : State :=
  if x.late then
    s.forL (s.followers (s.leader p)) (fun q s =>
      let f := s.getFrame q
      match f.sof with
      | some y => if y.fnum = x.fnum ∧ y.enter.isNone then s.setFrame q { f with sof := some { y with enter := some (x.age - s.latClk p) } } else s
      | none => s)
  else s
/-- SOF_TRANSMIT (R53): SOF leaves the port, at its SOF instant, cut into a packet in passage (R171). -/
def execSofTransmit (p : PortNo) (s : State) : Host.Outcome State Fault Refusal :=
  act s (fun s =>
    let p := p.toNat
    match (s.getFrame p).sof with
    | none => s
    | some x =>
      if s.lstate p ≠ lL0 ∨ s.sofHeld p x then s
      else
        let k := if x.late then x.age - x.enter.getD (x.age - s.latClk p) else x.hist.length - 1
        let (pos, vel) := x.hist.getD (min k (x.hist.length - 1)) (0, 0)
        let (st, s) := s.stamp p pos vel
        let s := s.sendCut p { ty := 1, addr := 127, arg0 := x.fnum.toNat, arg1 := st.extractLsb' 16 32, arg2 := st.toNat % 2 ^ 16,
                               flags := b2n x.timeFill * 4 + b2n x.deferred * 2 + b2n x.late } []
        let s := if x.late then s.count R.PTU_PCNT1_LATE p else s
        let w := s.getWalk p
        let g := match w.gTime with
          | some t => if w.overran then 0 else min (2 ^ 20 - 1) ((s.time.toNat - t.toNat) / 2 ^ 16)
          | none => 0
        let s := s.wr R.SCH_LASTGRD_GLAST g p
        let s := if w.owed.isNone then s.wr R.SCH_PSTAT_WSTATE 1 p else s
        let s := s.sofEnter p x
        let f := s.getFrame p
        let s := s.setFrame p { f with sof := none,
                                       sofs := f.sofs.map (fun e => if e.1 = x.fnum then (e.1, some s.time) else e) }
        s.setPort p { s.getPort p with unbound := x.retrain })

/-! ## The walker's commands -/

/-- WALKER_SERVE_BURST (R185). -/
def execWalkerServeBurst (p : PortNo) (s : State) : Host.Outcome State Fault Refusal :=
  act s (fun s => s.walkerGo p.toNat)

/-- FAST_RETRAIN starts at GUARD (R85–R89). -/
def State.startRetrain (s : State) (p : Nat) : State :=
  let s := (s.wr R.EWZ_LSTAT_RTPEND 0 p).wr R.EWZ_CTL_FORCERT 0 p
  let s := ((s.wr R.EWZ_LSTAT_STATE lRETRAIN p).count R.EWZ_CNT1_RETRAIN p).lane p retrainReq
  (s.setPort p { s.getPort p with waitFrames := 0, lowWidth := 0, lowHeight := 0 }).suspendBound p
/-- A pending fast retrain may start at the GUARD of the frame (R85). -/
def State.retrainFits (s : State) (p : Nat) : Bool :=
  let w := s.getWalk p
  let pairs := !w.issued.isEmpty || w.set.any (fun a => let d := s.peekDesc a; d.active && d.cls == 0)
  let longest := (if s.rd R.EWZ_LSTAT_RATE p = 2 then 3000 else 4000) + s.tseg p
  !pairs && decide (longest ≤ s.rd R.PTU_PNEXT_NEXT p)
/-- RETRAIN_STARVE: a pending retrain meets a GUARD that is sent; one sent after the next frame's SOF starts it only where software
forces it (R85, R87, R192). -/
def State.retrainAtGuard (s : State) (p : Nat) (owed : Bool) : State :=
  if ¬ s.on R.EWZ_LSTAT_RTPEND p then s
  else if s.on R.EWZ_CTL_FORCERT p || (!owed && s.retrainFits p) then s.startRetrain p
  else
    let n := (s.getPort p).waitFrames + 1
    let s := s.setPort p { s.getPort p with waitFrames := n }
    if s.rd R.EWZ_RTCFG_WAITF p ≤ n then s.wr R.EWZ_EVT_RTSTARVE 1 p else s
/-- GUARD with a frame number leaves the port (R188). -/
def State.guard (s : State) (p : Nat) (frame : BitVec 16) : State :=
  let s := s.lane p [guardBlock frame]
  s.setWalk p { s.getWalk p with bTime := some s.time }
/-- The GUARD that an earlier frame still owes leaves; the new frame's periodic window starts with it (R191). -/
def State.guardOwed (s : State) (p : Nat) (frame : BitVec 16) (up : Bool) : State :=
  let s := if up then s.guard p frame else s
  let s := s.setWalk p { s.getWalk p with owed := none }
  let s := if (s.getFrame p).sof.isNone ∧ ¬ (s.getWalk p).closed then s.wr R.SCH_PSTAT_WSTATE 1 p else s
  if up then s.retrainAtGuard p true else s
/-- GUARD_SEND (R188, R191, R192).  A frame ends also while the root link cannot carry GUARD; none is sent then (R643). -/
def execGuardSend (p : PortNo) (s : State) : Host.Outcome State Fault Refusal :=
  act s (fun s =>
    let p := p.toNat
    let s := s.sendHeld p
    let x := s.getPort p
    let w := x.walk
    let up := s.lstate p == lL0
    if x.cur.isSome ∨ x.cur0.isSome ∨ ¬ x.held.isEmpty ∨ (s.linkUp p ∧ !up) then s
    else match w.owed with
      | some f => (s.guardOwed p f up).walkerGo p
      | none =>
        if w.live && w.closed && !w.guarded then
          let s := s.frameEnd p
          let s := if up then s.guard p w.fnum else s
          let s := (s.setWalk p { s.getWalk p with guarded := true, gTime := if up then some s.time else none }).wr R.SCH_PSTAT_WSTATE 4 p
          (if up then s.retrainAtGuard p false else s).reSync p
        else s)

/-- LIST_SYNC (R202). -/
def execListSync (fn : InstNo) (p : PortNo) (s : State) : Host.Outcome State Fault Refusal :=
  act s (fun s => s.gated fn.toNat (R.SCH_CTL_LISTSYNC.off p.toNat) (fun s =>
    let p := p.toNat
    (s.wr R.SCH_CTL_LISTSYNC 1 p).setWalk p { s.getWalk p with sync := s.heldAll p }))
/-- LIST_SYNC_CLEAR (R202): the commands that wait for it reply (R449). -/
def execListSyncClear (p : PortNo) (s : State) : Host.Outcome State Fault Refusal :=
  act s (fun s =>
    let p := p.toNat
    let s := s.reSync p
    if s.on R.SCH_CTL_LISTSYNC p && (s.getWalk p).sync.isEmpty then
      let s := s.wr R.SCH_CTL_LISTSYNC 0 p
      s.forN 5 (fun k s => match s.getCmd k with
        | some c =>
          if c.wait = .unlink p ∨ (c.wait = .unlink 16 ∧ (List.range 16).all (fun q => !s.on R.SCH_CTL_LISTSYNC q)) then s.ok k [] else s
        | none => s)
    else s)

/-- The cancel of a descriptor begins; it ends at once where no transaction of the descriptor is outstanding (R203). -/
def State.cancelDesc (s : State) (p a : Nat) : State :=
  let s := ((s.wr R.SCH_CANCEL_ADDR (a / 64) p).wr R.SCH_CANCEL_GO 1 p).wr R.SCH_CANCEL_RESULT 0 p
  let x := s.getPort p
  let serving := match x.cur with | some t => t.desc == a && t.kind != .psync && (t.kind == .out || t.kind == .inn || t.kind == .probe) | none => false
  let token := match x.cur0 with
    | some t => (match smFind x.pairs t.pair with | some y => y.desc == a | none => false)
    | none => false
  if serving || token then s
  else match x.pairs.find? (fun e => e.2.desc == a) with
    | some (n, _) => (s.endPair p n dCANCELLED).cancelResult p 1
    | none =>
      let d := s.peekDesc a
      if d.active then
        let btd := match s.xfer p a with | some y => y.btd | none => d.cls == 3
        (s.endXfer p a d btd dCANCELLED (s.ouOf p a d)).cancelResult p 1
      else s.cancelResult p 2
/-- DESCRIPTOR_CANCEL (R203): `desc` is the descriptor address / 64. -/
def execDescriptorCancel (fn : InstNo) (p : PortNo) (desc : BitVec 17) (s : State) : Host.Outcome State Fault Refusal :=
  act s (fun s => s.gated fn.toNat (R.SCH_CANCEL_GO.off p.toNat) (fun s => s.cancelDesc p.toNat (desc.toNat * 64)))

/-! ## Class 0 (R214, R219–R223) -/

/-- MAXOPEN; 5–7 act as 4 (R228). -/
def State.maxOpen (s : State) (p : Nat) : Nat := min 4 (s.rd R.SCH_RFXCFG_MAXOPEN p)
/-- A class-0 charge enters the periodic sum, which SCH_PSUM shows once the frame has closed (R214, R228). -/
def State.charge (s : State) (p c : Nat) : State :=
  let w := s.getWalk p
  let s := s.setWalk p { w with psum := w.psum + c }
  if w.closed then
    let (q, s) := s.quot (w.psum + c) 400
    s.wr R.SCH_PSUM_PSUM (min q (2 ^ 20 - 1)) p
  else s
/-- The class-0 issuer passes over the PTDs that it does not send and sends the next TOKEN_IN; `k` PTDs at the head of its list stay
there: those of a stopped instance, and those that a full completion queue bars (R206–R208, R214, R220, R255, R374). -/
def State.issue0 (p : Nat) : Nat → Nat → State → State
  | 0, _, s => s
  | n + 1, k, s =>
    let w := s.getWalk p
    match w.c0[k]? with
    | none => s
    | some a =>
      let (d, pois, s1) := s.readDesc a
      let skip (s : State) : State := s.setWalk p { s.getWalk p with c0 := w.c0.eraseIdx k }
      let bad (s : State) (st : Nat) : State := (skip s).complete p a d false { status := st } (copOk pois)
      if !d.active || (d.cls != 0 && !pois.any id) then State.issue0 p n k (skip s1)
      else if (s1.instStopped d.inst || s1.cqBars p d) && !pois.any id then State.issue0 p n (k + 1) s1
      else match s1.descCheck p d pois false with
        | (some st, s2) => State.issue0 p n k (bad s2 st)
        | (none, s2) =>
          if w.issued.contains d.pair then State.issue0 p n k (bad s2 dSKIPPED)
          else if (s2.pipe p d.addr true d.ep).halted then State.issue0 p n k (bad s2 dHALTED)
          else
            let c := (4 + pBlocks d.omax) * s2.tblk p
            if s2.pwmax p < w.psum + c then State.issue0 p n k (bad s2 dSKIPPED)
            else if s2.rd R.PTU_PNEXT_NEXT p * 8 < s2.adelay p d.addr + 24000 ∨ s2.lstate p ≠ lL0 then s
            else
              let q0 := s2.pipe p d.addr true d.ep
              let q := q0.forToken
              let s := s2.setPipe p d.addr true d.ep q
              let s := s.sendCut p { ty := 2, addr := d.addr, gen := d.gen, dir := true, ep := d.ep, seq := q.seq.toNat,
                                     flags := b2n q0.sync * 4 } []
              let s := (skip s).charge p c
              let s := s.setWalk p { s.getWalk p with issued := setAdd w.issued d.pair }
              let x := s.getPort p
              ((s.setPort p { x with
                cur0 := some { pair := d.pair, addr := d.addr, gen := d.gen, ep := d.ep },
                pairs := smIns x.pairs d.pair { desc := a, words := d, inbound := false, late := false, bsusp := x.unbound,
                                                emit := none, done := 0 } }).syncOpen p).suspendNew p d.pair
/-- CLASS0_TOKEN_ISSUE (R171, R220): a SOF and EMIT packets that are ready leave before it. -/
def execClass0TokenIssue (p : PortNo) (s : State) : Host.Outcome State Fault Refusal :=
  act s (fun s =>
    let p := p.toNat
    let x := s.getPort p
    let w := x.walk
    if w.live && !w.guarded && (s.getFrame p).sof.isNone && x.cur0.isNone && x.emitq.isEmpty &&
        decide (x.pairs.length < s.maxOpen p) && s.on R.SCH_CTL_EN p then State.issue0 p 4096 0 s
    else s)
/-- EMIT_PACKET_SEND (R171, R222, R223): the packet of an accepted EMIT leaves whole, with its measured reflex latency in ns; a SOF
that is pending and EMIT packets that became ready before it leave first. -/
def execEmitPacketSend (p : PortNo) (pair : BitVec 5) (latency : BitVec 16) (s : State) : Host.Outcome State Fault Refusal :=
  act s (fun s =>
    let p := p.toNat
    match smFind (s.getPort p).pairs pair.toNat with
    | none => s
    | some x =>
      match x.emit with
      | none => s
      | some e =>
        if s.lstate p ≠ lL0 ∨ (s.getFrame p).sof.isSome ∨ (s.getPort p).emitq.head? ≠ some pair.toNat then s
        else
          let d : Desc := x.words
          let q := s.pipe p d.oaddr false d.oep
          let s := s.insert p (s.emitPacket p d e.payload)
          let s := s.setPipe p d.oaddr false d.oep { q with seq := q.seq + 1 }
          let s := s.wr R.SCH_RFXMAX_MAXLAT (max latency.toNat (s.rd R.SCH_RFXMAX_MAXLAT p)) p
          let pend := s.cancelDue p x.desc
          let s := s.endPair p pair.toNat dOK latency.toNat
          if pend then s.cancelResult p 3 else s)

end Sys2Proof.Machine
end

