-- ==== Sys2Proof/Machine/Link.lean ====
section
/-! DEFINITION. The root link's own commands: presence, training, KEEP, suspend and resume, retrain, Recovery, reset, enable
and babble (R74–R98, R119–R121, R642). -/

namespace Sys2Proof.Machine

/-! ## Presence and training (R77–R82) -/

/-- PRESENCE_PERIOD (R77). -/
def execPresencePeriod (p : PortNo) (s : State) : Host.Outcome State Fault Refusal :=
  act s (fun s =>
    let p := p.toNat
    if s.lstate p ≠ lDISC then s
    else
      let x := s.getPort p
      let s := s.setPort p { x with presLast := x.presNow, presNow := false }
      if x.quiet then s else s.emit (burstOut p .presence))
/-- PRESENCE_BURST (R77, R90): the second of two consecutive periods starts a full training, with the TRAIN blocks that the partner
sends in it. -/
def execPresenceBurst (k : PresenceIn) (s : State) : Host.Outcome State Fault Refusal :=
  act s (fun s =>
    let p := k.p.toNat
    if s.lstate p ≠ lDISC ∨ ¬ Burst.heard .presence k.ns.toNat then s
    else
      let x := s.getPort p
      if x.presLast && !x.quiet then (s.setPort p { x with train := k.train }).startTraining p
      else s.setPort p { x with presNow := true })
/-- DELAY_ECHO (R81): its sequence number, its turnaround and the measured round trip, both ns × 1/16. -/
def execDelayEcho (p : PortNo) (seq turnaround roundTrip : BitVec 16) (s : State) : Host.Outcome State Fault Refusal :=
  act s (fun s =>
    let p := p.toNat
    let x := s.getPort p
    if s.lstate p ≠ lTRAIN ∨ (x.train.findSome? trainRates).isNone ∨ 64 ≤ x.echoes ∨ seq.toNat ≠ x.echoes then s
    else
      let s := s.setPort p { x with echoes := x.echoes + 1,
                                    echoSum := x.echoSum + ((roundTrip.toNat : Int) - (turnaround.toNat : Int)) }
      if x.echoes + 1 < 64 then s.laneOut p (delayPing (x.echoes + 1)) else s)
/-- LATENCY_MEASURE (R56): LAT, and LATCHG at a change of more than 2 ns. -/
def State.measureLat (s : State) (p : Nat) (lat : BitVec 16) : State :=
  let old := s.rd R.PTU_PLAT_LAT p
  let x := s.getPort p
  let far := decide (old + 32 < lat.toNat) || decide (lat.toNat + 32 < old)
  let s := if x.latSeen && far then s.wr R.PTU_PSTAT_LATCHG 1 p else s
  (s.wr R.PTU_PLAT_LAT lat.toNat p).setPort p { x with latSeen := true }
/-- The link is in L0 with nothing held back: enumeration and the walker go on. -/
def State.goOn (s : State) (p : Nat) : State := ((s.enterL0 p).enumTry p).walkerGo p
/-- TRAINING_COMPLETE (R78, R81): the hop delay, LAT as measured, 64 IDLE blocks both ways; the root link reports attach (R107). -/
def execTrainingComplete (p : PortNo) (idle : Byte) (lat : BitVec 16) (s : State) : Host.Outcome State Fault Refusal :=
  act s (fun s =>
    let p := p.toNat
    let x := s.getPort p
    if s.lstate p ≠ lTRAIN ∨ x.echoes < 64 ∨ idle.toNat < 64 then s
    else
      let (q, s) := s.quot x.echoSum.toNat 128
      let s := (s.wr R.EWZ_CBLDLY_DELAY (min q 65535) p).measureLat p lat
      let s := ((s.laneOut p idle64).wr R.EWZ_EVT_LINKUP 1 p).attachAt p 0 0 0
      s.goOn p)
/-- TRAINING_TIMEOUT (R80). -/
def execTrainingTimeout (p : PortNo) (s : State) : Host.Outcome State Fault Refusal :=
  act s (fun s => if s.lstate p.toNat = lTRAIN then s.trainFail p.toNat else s)
/-- TRAINFAIL_QUIET_END (R80). -/
def execTrainfailQuietEnd (p : PortNo) (s : State) : Host.Outcome State Fault Refusal :=
  act s (fun s => s.setPort p.toNat { s.getPort p.toNat with quiet := false })

/-! ## L1 and L2 (R77, R90, R93–R98) -/

def State.asleep (s : State) (p : Nat) : Bool := s.lstate p == lL1 || s.lstate p == lL2
/-- KEEP_PERIOD (R77). -/
def execKeepPeriod (p : PortNo) (s : State) : Host.Outcome State Fault Refusal :=
  act s (fun s =>
    let p := p.toNat
    if s.asleep p then
      let x := s.getPort p
      (s.setPort p { x with keepMiss := x.keepMiss + 1 }).emit (burstOut p .keep)
    else s)
/-- KEEP_BURST (R77, R90). -/
def execKeepBurst (k : BurstIn) (s : State) : Host.Outcome State Fault Refusal :=
  act s (fun s =>
    let p := k.p.toNat
    if s.asleep p && Burst.heard .keep k.ns.toNat then s.setPort p { s.getPort p with keepMiss := 0 } else s)
/-- KEEP_TIMEOUT (R90, R98): 3.5 ms cover three of the port's own KEEP periods. -/
def execKeepTimeout (p : PortNo) (s : State) : Host.Outcome State Fault Refusal :=
  act s (fun s => if s.asleep p.toNat && decide (3 ≤ (s.getPort p.toNat).keepMiss) then s.toDisconnected p.toNat else s)
/-- The suspend is not entered: the link is in L0 again (R90, R563). -/
def State.suspendRefused (s : State) (p : Nat) : State :=
  let s := (s.wr R.EWZ_CTL_SUSPREQ 0 p).wr R.PWR_EVT_SUSPREF 1
  s.setPort p { s.getPort p with susRef := some (s.getWalk p).fnum }
/-- RESUME is reported with its qualifiers (R98). -/
def State.reportResume (s : State) (p : Nat) (host remote during : Bool) : State :=
  (((s.wr R.EWZ_LSTAT_HOSTWAKE (b2n host) p).wr R.EWZ_LSTAT_REMOTEWAKE (b2n remote) p).wr R.EWZ_LSTAT_DURING_ENTRY
    (b2n during) p).wr R.EWZ_EVT_RESUME 1 p
/-- WAKE_BURST (R77, R90, R98): in the entry window it aborts the suspend. -/
def execWakeBurst (k : BurstIn) (s : State) : Host.Outcome State Fault Refusal :=
  act s (fun s =>
    let p := k.p.toNat
    if ¬ Burst.heard .wake k.ns.toNat then s
    else if s.asleep p then s.startResume p 5
    else if s.lstate p = lENTRY then
      let s := s.suspendRefused p
      (if s.on R.EWZ_CTL_RESET p then s else s.reportResume p false true true).goOn p
    else s)
/-- RESUME_COMPLETE (R90, R98). -/
def execResumeComplete (p : PortNo) (s : State) : Host.Outcome State Fault Refusal :=
  act s (fun s =>
    let p := p.toNat
    let x := s.getPort p
    if s.asleep p && x.resuming then
      (((s.setPort p { x with resuming := false, keepMiss := 0 }).wr R.EWZ_CTL_RESUME 0 p).reportResume p x.hostWake x.remoteWake
        false).goOn p
    else s)
/-- HOST_RESUME (R98): EWZ_CTL.RESUME. -/
def execHostResume (fn : InstNo) (p : PortNo) (s : State) : Host.Outcome State Fault Refusal :=
  act s (fun s => s.gated fn.toNat (R.EWZ_CTL_RESUME.off p.toNat) (fun s =>
    if s.asleep p.toNat then (s.wr R.EWZ_CTL_RESUME 1 p.toNat).startResume p.toNat 6 else s))
/-- The port asks its partner for L1 (1) or L2 (2) (R93). -/
def State.askSuspend (s : State) (p level : Nat) : State :=
  if s.lstate p = lL0 ∧ (level = 1 ∨ level = 2) then
    ((s.wr R.EWZ_CTL_SUSPREQ level p).wr R.EWZ_LSTAT_STATE lENTRY p).lane p (suspendReq level)
  else s
/-- SUSPEND_REQUEST (R93): EWZ_CTL.SUSPREQ. -/
def execSuspendRequest (fn : InstNo) (p : PortNo) (level : BitVec 2) (s : State) : Host.Outcome State Fault Refusal :=
  act s (fun s => s.gated fn.toNat (R.EWZ_CTL_SUSPREQ.off p.toNat) (fun s => s.askSuspend p.toNat level.toNat))
/-- SUSPEND_ACK (R90): POWER_STATE_ENTRY of the port (R557).  A RESET requested in the entry window wins: the suspend is abandoned, and
the RESET leaves in L0 (R90, R98). -/
def execSuspendAck (p : PortNo) (s : State) : Host.Outcome State Fault Refusal :=
  act s (fun s =>
    let p := p.toNat
    if s.lstate p ≠ lENTRY then s
    else if s.on R.EWZ_CTL_RESET p then (s.wr R.EWZ_CTL_SUSPREQ 0 p).goOn p
    else
      let l2 := s.rd R.EWZ_CTL_SUSPREQ p == 2
      let s := ((s.lane p idle64).wr R.EWZ_LSTAT_STATE (if l2 then lL2 else lL1) p).wr R.EWZ_CTL_SUSPREQ 0 p
      (s.wr R.PWR_PCTL_STATE (if l2 then 3 else 2) p).setPort p { s.getPort p with keepMiss := 0, resuming := false })
/-- SUSPEND_NAK (R90, R94). -/
def execSuspendNak (p : PortNo) (s : State) : Host.Outcome State Fault Refusal :=
  act s (fun s => if s.lstate p.toNat = lENTRY then (s.suspendRefused p.toNat).goOn p.toNat else s)
/-- SUSPEND_ENTRY_TIMEOUT (R90). -/
def execSuspendEntryTimeout (p : PortNo) (s : State) : Host.Outcome State Fault Refusal :=
  act s (fun s => if s.lstate p.toNat = lENTRY then (s.suspendRefused p.toNat).goOn p.toNat else s)

/-! ## Margin, retrain and Recovery (R83–R90, R642) -/

/-- RETRAIN_REQ received in L0 (R90): a fast retrain starts. -/
def execRetrainReq (p : PortNo) (s : State) : Host.Outcome State Fault Refusal :=
  act s (fun s =>
    let p := p.toNat
    if s.lstate p = lL0 then
      (((s.passAll p).wr R.EWZ_LSTAT_STATE lRETRAIN p).count R.EWZ_CNT1_RETRAIN p).suspendBound p
    else s)
/-- MARGIN_MEASURE (R83, R84): width in UI × 1/64 and height in mV × 4. -/
def execMarginMeasure (p : PortNo) (width height : BitVec 8) (s : State) : Host.Outcome State Fault Refusal :=
  act s (fun s =>
    let p := p.toNat
    if s.lstate p ≠ lL0 then s
    else
      let s := (s.wr R.EWZ_MARGIN_WIDTH width.toNat p).wr R.EWZ_MARGIN_HEIGHT height.toNat p
      let x := s.getPort p
      let w := if width.toNat < s.rd R.EWZ_MARGIN_TH_WTH p then x.lowWidth + 1 else 0
      let h := if height.toNat < s.rd R.EWZ_MARGIN_TH_HTH p then x.lowHeight + 1 else 0
      let hold := max 1 (s.rd R.EWZ_MARGIN_TH_HOLD p)
      if (hold ≤ w ∨ hold ≤ h) ∧ ¬ s.on R.EWZ_LSTAT_RTPEND p then
        ((s.wr R.EWZ_EVT_MARGIN 1 p).wr R.EWZ_LSTAT_RTPEND 1 p).setPort p { x with lowWidth := w, lowHeight := h, waitFrames := 0 }
      else s.setPort p { x with lowWidth := w, lowHeight := h })
/-- FORCE_RETRAIN (R87): EWZ_CTL.FORCERT. -/
def execForceRetrain (fn : InstNo) (p : PortNo) (s : State) : Host.Outcome State Fault Refusal :=
  act s (fun s => s.gated fn.toNat (R.EWZ_CTL_FORCERT.off p.toNat) (fun s => s.wr R.EWZ_CTL_FORCERT 1 p.toNat))
/-- FAST_RETRAIN_COMPLETE (R86). -/
def execFastRetrainComplete (p : PortNo) (lat : BitVec 16) (s : State) : Host.Outcome State Fault Refusal :=
  act s (fun s => if s.lstate p.toNat = lRETRAIN then (s.measureLat p.toNat lat).goOn p.toNat else s)
/-- Recovery is entered: packets in passage are lost and outstanding transactions end (R642), and the class-0 bound is suspended
(R89). -/
def State.enterRecovery (s : State) (p : Nat) : State :=
  let s := (((s.passEnd p none).wr R.EWZ_LSTAT_STATE lRECOV p).wr R.EWZ_EVT_RECOV 1 p).suspendBound p
  let s := s.setPort p { s.getPort p with held := [] }
  let s := match (s.getPort p).cur with
    | none => s
    | some t =>
      let s := s.dueAgain p t
      match t.kind, t.ended with
      | .inn, some st => s.txnDone p t (.fin st false)
      | .setup, _ | .reply, _ | .clear, _ => s.setCur p none
      | _, _ => s.txnDone p t .timeout
  match (s.getPort p).cur0 with
  | none => s
  | some t => s.endToken0 p t.pair dTIMEOUT
/-- RETRAIN_TIMEOUT (R90). -/
def execRetrainTimeout (p : PortNo) (s : State) : Host.Outcome State Fault Refusal :=
  act s (fun s => if s.lstate p.toNat = lRETRAIN then s.enterRecovery p.toNat else s)
/-- Block lock is lost for good: 8 invalid sync headers in 64 blocks, or none held for 1 µs.  A block time without block lock, `none`,
counts as an invalid sync header (R90). -/
def State.lockLost (s : State) (p : Nat) (line : List (Option (BitVec 66))) : Bool :=
  let back := line.reverse
  decide (8 ≤ ((back.take 64).filter (fun w => !w.any syncOk)).length) ||
  decide (400000 ≤ (back.takeWhile (·.isNone)).length * s.tblk p)
/-- BLOCK_LOCK_LOST (R90, R642). -/
def execBlockLockLost (k : LockIn) (s : State) : Host.Outcome State Fault Refusal :=
  act s (fun s => if s.lstate k.p.toNat = lL0 ∧ s.lockLost k.p.toNat k.line then s.enterRecovery k.p.toNat else s)
/-- RECOVERY_COMPLETE (R90). -/
def execRecoveryComplete (p : PortNo) (lat : BitVec 16) (s : State) : Host.Outcome State Fault Refusal :=
  act s (fun s =>
    if s.lstate p.toNat = lRECOV then ((s.count R.EWZ_CNT1_RECOV p.toNat).measureLat p.toNat lat).goOn p.toNat else s)
/-- RECOVERY_TIMEOUT (R90, R91). -/
def execRecoveryTimeout (p : PortNo) (s : State) : Host.Outcome State Fault Refusal :=
  act s (fun s => if s.lstate p.toNat = lRECOV then s.toDisconnected p.toNat else s)

/-! ## Reset, enable, SKIP and babble -/

/-- PORT_RESET_REQUEST (R90): EWZ_CTL.RESET. -/
def execPortResetRequest (fn : InstNo) (p : PortNo) (s : State) : Host.Outcome State Fault Refusal :=
  act s (fun s => s.gated fn.toNat (R.EWZ_CTL_RESET.off p.toNat) (fun s => (s.rootReset p.toNat).walkerGo p.toNat))
/-- A root port is enabled or disabled (R90). -/
def State.portEn (s : State) (p : Nat) (en : Bool) : State :=
  let s := s.wr R.EWZ_CTL_EN (b2n en) p
  if en then (if s.lstate p = lDISABLED then s.toDisconnected p else s)
  else if s.lstate p = lDISABLED then s else s.disableLink p aDISABLE
/-- EWZ_ENABLE_WRITE (R90): EWZ_CTL.EN. -/
def execEwzEnableWrite (fn : InstNo) (p : PortNo) (en : Bool) (s : State) : Host.Outcome State Fault Refusal :=
  act s (fun s => s.gated fn.toNat (R.EWZ_CTL_EN.off p.toNat) (fun s => s.portEn p.toNat en))
/-- SKIP_INSERT (R74): a SKIP block leaves, where the lane carries blocks. -/
def execSkipInsert (p : PortNo) (s : State) : Host.Outcome State Fault Refusal :=
  act s (fun s => if s.lstate p.toNat = lL0 then s.skip p.toNat else s)
/-- The receiver of the root link takes blocks in: it may be inside a packet (R90). -/
def State.receiving (s : State) (p : Nat) : Bool := s.lstate p == lL0 || s.lstate p == lENTRY || s.lstate p == lRETRAIN
/-- BABBLE_TIMEOUT (R119–R121): one segment time plus 100 ns after the port's last GUARD, in the PTU clock in which that passes. -/
def execBabbleTimeout (p : PortNo) (s : State) : Host.Outcome State Fault Refusal :=
  act s (fun s =>
    let p := p.toNat
    match (s.getWalk p).bTime with
    | some t =>
      if s.receiving p ∧ t.toNat + (s.tseg p + 100) * 65536 < s.time.toNat + 2 * 65536 then
        let s := (s.wr R.EWZ_EVT_BABBLE 1 p).wr R.EWZ_CTL_EN 0 p
        (s.forL (s.addrs p) (fun a s => (s.declareLost p a).2)).disableLink p aBABBLE
      else s
    | none => s)

end Sys2Proof.Machine
end

