-- ==== Sys2Proof/Machine/CmdDev.lean ====
section
/-! DEFINITION. The 0x01xx, 0x02xx and 0x0Axx commands: identity, the summit report, instances, diagnostics, and the end of a
wait (R446, R447, R456, R461–R465). -/

namespace Sys2Proof.Machine

/-! ## The summit report (R461–R465) -/

/-- A word from its fields, each with its lowest bit. -/
def packW (l : List (Nat × Nat)) : Word := w32 (l.foldl (fun n e => n + e.1 * 2 ^ e.2) 0)
/-- VERSION, stepping and manager port. -/
def State.devWord (s : State) : Word := packW [(0x4610, 0), (s.rd R.GLB_ID_STEP, 16), (s.rd R.GLB_STRAP_MGR_PORT, 24)]
/-- Section 0: the device-wide fields, 0 in the report of another instance (R462). -/
def State.sumDevice (s : State) (m : Bool) : List Word :=
  if m then
    [s.devWord, s.boot.version,
     packW [(s.rd R.CMD_STAT_FWRDY, 0), (s.rd R.CMD_STAT_RESCORE, 1), (s.rd R.PWR_DCTL_STATE, 2)],
     s.rdw R.CMD_TOKEN0_ROPES, s.rdw R.CMD_TOKEN1_OTHER, s.rdw R.HLT_STAT_RESLEFT, s.rdw R.MEM_FUSE_LEFT, 0]
  else List.replicate 8 0
/-- Section 1. -/
def State.sumInst (s : State) (i : Nat) : List Word :=
  [packW [(i, 0), (s.inst i, 8), (nbits (s.regWord R.VIM_ISTATE.fields i) 23 11, 19)],
   packW [(s.rd R.VIM_IVIOL_COUNT i, 0), (min 0xFFFF (s.liveCairns i).length, 16)]]
/-- Section 2. -/
def State.sumQueue (s : State) (c : Nat) : List Word :=
  [packW [(c, 0), (s.wqInst c, 15), (s.wqQ c, 22), (s.rd R.WQ_QSTATE_PHASE c, 28), (s.wqState c, 29)],
   packW [(s.rd R.WQ_QSTATE_FETCH c, 0), (s.rd R.WQ_QIDX_TAIL c, 16)],
   packW [(s.rd R.WQ_QIDX_HEAD c, 0), (s.wqf R.WQ_FHEAD_HEAD c, 16)],
   packW [(s.wqf R.WQ_FCTL_LOG2N c, 0), (s.wqf R.WQ_FCTL_PMODE c, 8), (s.rd R.WQ_QSTATE_STAGED c, 16), (s.wqf R.WQ_FSTAT_LASTERR c, 24)]]
/-- Section 3. -/
def State.sumPort (s : State) (p : Nat) : List Word :=
  let as := s.addrs p
  [packW [(s.rd R.PTU_PFNUM_FNUM p, 0), (s.rd R.SCH_RFXSTAT_OPEN p, 20), (s.rd R.SCH_PSTAT_WSTATE p, 23), (s.rd R.EWZ_LSTAT_RATE p, 26),
     (s.lstate p, 28)],
   packW [(s.regWord R.EWZ_EVT.fields p, 0), (s.rd R.PTU_PSTAT_LASTCAUSE p, 12), ((as.filter (fun a => s.on R.EWZ_ADDRTAB0_LOST p a)).length, 16),
     (as.length, 24)],
   packW [(s.rd R.EWZ_CTL_EN p, 0), (s.rd R.SCH_CTL_EN p, 1), (s.rd R.EWZ_LSTAT_RTPEND p, 2), (nbits (s.regWord R.SCH_PSTAT.fields p) 2 0, 3)],
   w32 p]
/-- Pipes of a device that the pipe table gives to instance i. -/
def State.pipesOf (s : State) (i p a : Nat) : Nat := ((List.range 32).filter (fun k => s.pipeOwner p a (k / 16) (k % 16) == i)).length
/-- Section 4. -/
def State.sumDev (s : State) (i p a : Nat) : List Word :=
  [packW [(p, 0), (s.rd R.EWZ_ADDRTAB0_PPORT p a, 5), (s.parent p a, 9), (a, 16), (s.rd R.EWZ_ADDRTAB0_TIER p a, 23), (s.rd R.EWZ_ADDRTAB0_GEN p a, 26),
     (s.rd R.EWZ_ADDRTAB0_HUB p a, 30), (s.rd R.EWZ_ADDRTAB0_LOST p a, 31)],
   packW [(s.pipesOf i p a, 0), (s.rd R.EWZ_ADDRTAB1_ADELAY p a, 16)]]
/-- Section 5. -/
def sumToken (g : Nat) (t : Token) : List Word :=
  [packW [(t.inst, 0), (t.act, 16), (g, 24)], 0, w32 t.since.toNat, w32 (t.since.toNat / 2 ^ 32)]
/-- Section 6. -/
def State.sumEvents (s : State) (i : Nat) (m : Bool) : List Word :=
  let raw (g : Nat) : Word := w32 ((List.range 32).foldl (fun n b => n + b2n (s.level (32 * g + b)) * 2 ^ b) 0)
  let pba (h : Nat) : Word := w32 ((List.range 32).foldl (fun n b => n + b2n (setHas s.pba (64 * i + 32 * h + b)) * 2 ^ b) 0)
  (if m then (List.range 40).flatMap (fun g => [raw g, w32 g]) else []) ++ [pba 0, w32 (1 * 2 ^ 16), pba 1, w32 (2 * 2 ^ 16)]
/-- Section 7. -/
def State.sumHalted (s : State) (c : Nat) : List Word :=
  [packW [(c, 0), (bits (s.cw c 12) 31 24, 16)], w32 (bits (s.cw c 1) 9 0)]

/-- The sections for instance i: entry size in bytes, the entries that exist, and their words as listed. -/
def State.sumSections (s : State) (i : Nat) : List (Nat × Nat × List (List Word)) :=
  let m := i == s.mgr
  let ports := (List.range 16).filter (fun p => m ||
    s.pipeTab.any (fun e => e.2.toNat == 128 + i && e.1 / 0x1000 == p && e.1 / 0x20 % 128 != 0 && e.1 / 0x20 % 128 != 127))
  let insts := if m then List.range 128 else [i]
  let ctxs := if m then (List.range 2048).filter s.wqValid else s.wqOf i
  let devs := ports.flatMap (fun p => ((s.addrs p).filter (fun a => m || s.pipesOf i p a != 0)).map (fun a => (p, a)))
  let toks := if m then s.cmds.token else []
  let halted := s.usedCairns.filter (fun c => s.cst c == 8 && s.ownsCairn i c)
  let ev := s.sumEvents i m
  let whole (n : Nat) (l : List (List Word)) : Nat × Nat × List (List Word) := (n, l.length, l)
  [whole 32 [s.sumDevice m], whole 8 (insts.map s.sumInst), whole 16 (ctxs.map s.sumQueue), whole 16 (ports.map s.sumPort),
   whole 8 (devs.map (fun d => s.sumDev i d.1 d.2)), whole 16 (toks.map (fun t => sumToken t.1 t.2)), (8, ev.length / 2, [ev]),
   (8, halted.length, (halted.take 4096).map s.sumHalted)]

/-- The report as words (R464). -/
def State.sumReport (s : State) (i seq : Nat) : List Word :=
  let secs := s.sumSections i
  let bodies := secs.zipIdx.map (fun (e : (Nat × Nat × List (List Word)) × Nat) =>
    let ws := e.1.2.2.flatten
    packW [(ws.length * 4 / e.1.1, 0), (e.1.1, 16), (e.2, 24)] :: w32 e.1.2.1 :: ws)
  let offs := (bodies.foldl (fun (acc : List Nat × Nat) b => (acc.1 ++ [acc.2], acc.2 + b.length / 2)) ([], 8)).1
  let body := bodies.flatten
  let t := s.ns.toNat
  [w32 (0x0001 * 2 ^ 16 + 64), w32 (64 + 4 * body.length), s.rdw R.GLB_BOOTID_BOOTID, w32 seq,
   w32 t, w32 (t / 2 ^ 32), w32 t, w32 (t / 2 ^ 32),
   packW [(i, 0), (b2n (i == s.mgr), 8), (0xFF, 16)], 0] ++
  (List.range 4).map (fun k => packW [(offs.getD (2 * k) 0, 0), (offs.getD (2 * k + 1) 0, 16)]) ++ [0, 0] ++ body

/-- SUMMARY (R446, R461–R465). -/
def State.cmdSummary (s : State) (k : Nat) (c : Cmd) : State :=
  let i := s.cmdInst c
  let seq := smGet s.cmds.seq 0 i + 1
  let s := { s with cmds := { s.cmds with seq := smIns s.cmds.seq i seq } }
  let r := s.sumReport i seq
  if (c.w 5).toNat < 4 * r.length then s.reply k stTOO_SMALL 0 [0, w32 (4 * r.length)]
  else (s.cmdWrite c c.haddr (wordsBytes r) false).ok k [w32 (4 * r.length), w32 (4 * r.length), w32 seq]
def execSummary (k : CoreNo) (s : State) : Host.Outcome State Fault Refusal :=
  act s (fun s => s.runCmd k.val 0x0101 (fun c s => s.cmdSummary k.val c))

/-! ## Device and identity -/

/-- IDENTIFY (R446). -/
def execIdentify (k : CoreNo) (s : State) : Host.Outcome State Fault Refusal :=
  act s (fun s => s.runCmd k.val 0x0102 (fun c s =>
    s.ok k.val [packW [(0x4610, 16), (s.rd R.GLB_ID_STEP, 8)], s.boot.version,
      packW [(s.rd R.GLB_STRAP_MGR_PORT, 0), (b2n (s.cmdIsMgr c), 2)], s.rdw R.HLT_ID0_LOT_LO,
      packW [(s.rd R.HLT_ID1_LOT_HI, 0), (s.rd R.HLT_ID1_WAFER, 16)], packW [(s.rd R.HLT_ID2_DIEX, 0), (s.rd R.HLT_ID2_DIEY, 8)]]))
/-- NOP (R446). -/
def execNopCmd (k : CoreNo) (s : State) : Host.Outcome State Fault Refusal :=
  act s (fun s => s.runCmd k.val 0x0103 (fun _ s => s.ok k.val []))
/-- FWLOG_READ (R446): what the firmware log holds, how much of it fits and what it lost are not stated. -/
def execFwlogRead (k : CoreNo) (s : State) : Host.Outcome State Fault Refusal :=
  act s (fun s => s.runCmd k.val 0x0104 (fun c s =>
    let (n, s) := s.choose ((c.w 5).toNat + 1)
    let (lost, s) := s.draw
    let data := (List.range n).map (fun j => (Config.freeWord (s.free + j)).extractLsb' 0 8)
    let s := { s with free := s.free + n }
    (s.cmdWrite c c.haddr data false).ok k.val [w32 n, lost]))

/-! ## Instances (R447) -/

/-- INSTANCE_QUIESCE. -/
def execInstanceQuiesce (k : CoreNo) (s : State) : Host.Outcome State Fault Refusal :=
  act s (fun s => s.runCmd k.val 0x0201 (fun c s =>
    let i := c.f 3 6 0
    let st := s.inst i
    if st = 3 then s.ok k.val [3]
    else if st = 1 ∨ st = 2 then
      let s := s.enterQuiescing i none
      if (c.w 4).toNat = 0 then s.ok k.val [w32 (s.inst i)] else s.cmdWait k.val (.quiesce i)
    else s.fail k.val stBAD_STATE st))
/-- INSTANCE_RESUME. -/
def execInstanceResume (k : CoreNo) (s : State) : Host.Outcome State Fault Refusal :=
  act s (fun s => s.runCmd k.val 0x0202 (fun c s =>
    let i := c.f 3 6 0
    if s.inst i = 3 then (s.resumeInst i).ok k.val [1] else s.fail k.val stBAD_STATE (s.inst i)))
/-- INSTANCE_RESET. -/
def execInstanceReset (k : CoreNo) (s : State) : Host.Outcome State Fault Refusal :=
  act s (fun s => s.runCmd k.val 0x0203 (fun c s =>
    let i := c.f 3 6 0
    if s.inst i = 3 then (s.startReset i).cmdWait k.val (.reset i) else s.fail k.val stNOT_QUIESCED (s.inst i)))
/-- INSTANCE_REMOVE. -/
def execInstanceRemove (k : CoreNo) (s : State) : Host.Outcome State Fault Refusal :=
  act s (fun s => s.runCmd k.val 0x0204 (fun c s =>
    let i := c.f 3 6 0
    if s.inst i = 3 then
      ((s.setFunc i { s.getFunc i with removing := true }).startReset i).cmdWait k.val (.reset i)
    else s.fail k.val stNOT_QUIESCED (s.inst i)))
/-- INSTANCE_STATUS. -/
def execInstanceStatus (k : CoreNo) (s : State) : Host.Outcome State Fault Refusal :=
  act s (fun s => s.runCmd k.val 0x0205 (fun c s =>
    let i := c.f 3 6 0
    let jobs := (s.wqOf i).filter (fun q => decide (128 ≤ q))
    let n := (jobs.map (fun q => ((s.getWq q).jobs.filter (fun j => j.st != .delivered)).length)).sum
    s.ok k.val [w32 (s.regWord R.VIM_ISTATE.fields i), w32 (s.regWord R.VIM_IVIOL.fields i), w32 (s.liveCairns i).length, w32 n]))
/-- COMMAND_WAIT_EXPIRY (R447, R448). -/
def execCommandWaitExpiry (k : CoreNo) (s : State) : Host.Outcome State Fault Refusal :=
  act s (fun s =>
    match s.getCmd k.val with
    | none => s
    | some c =>
      match c.wait with
      | .quiesce i => s.reply k.val stTIMEOUT 0 [w32 (s.inst i)]
      | .enum p =>
        match (s.getPort p).enum with
        | some e =>
          if e.core = some k.val then
            if e.step = 1 then (s.setEnum p (some { e with core := none })).ok k.val [] else s
          else s.ok k.val []
        | none => s.ok k.val []
      | _ => s)

/-! ## Diagnostics (R456) -/

/-- ECHO_DMA. -/
def execEchoDma (k : CoreNo) (s : State) : Host.Outcome State Fault Refusal :=
  act s (fun s => s.runCmd k.val 0x0A01 (fun c s =>
    let n := (c.w 5).toNat
    (s.cmdWrite c c.haddr ((List.range (n / 4)).flatMap (fun _ => wordBytes (c.w 6))) false).ok k.val [w32 n]))
/-- POISON_INJECT (R456, R481, R495). -/
def execPoisonInject (k : CoreNo) (s : State) : Host.Outcome State Fault Refusal :=
  act s (fun s => s.runCmd k.val 0x0A02 (fun c s =>
    let a := c.haddr
    let fenced := decide (0x1010000000 ≤ a) && decide (a < 0x1014000000) && s.swapping ((a - 0x1010000000) / 0x10000)
    match s.globalSa a with
    | some sa => if fenced then s.fail k.val stNOT_READY 0 else ((s.setPoison sa true).notePois sa).ok k.val []
    | none => s.fail k.val stNOT_READY 0))

end Sys2Proof.Machine
end

