-- ==== Sys2Proof/Machine/CmdEwz.lean ====
section
/-! DEFINITION. The 0x03xx and 0x04xx commands: root ports, devices, descriptors and schedules (R448, R449). -/

namespace Sys2Proof.Machine

/-! ## Ports and devices (R448) -/

/-- Root port of a command. -/
def Cmd.port (c : Cmd) : Nat := c.f 3 3 0
/-- Hub port of a port location: the hub is there and has the port. -/
def State.hubPortOk (s : State) (c : Cmd) : Bool :=
  let (p, h, hp) := (c.port, c.f 3 10 4, c.f 3 14 11)
  s.present p h && s.on R.EWZ_ADDRTAB0_HUB p h && decide (hp ≤ bits ((smGet (s.getPort p).ident [] h).getD 1 0) 7 4)

/-- PORT_ENABLE. -/
def execPortEnable (k : CoreNo) (s : State) : Host.Outcome State Fault Refusal :=
  act s (fun s => s.runCmd k.val 0x0301 (fun c s =>
    let p := c.port
    if c.f 3 10 4 = 0 then ((s.portEn p true).cmdWait k.val (.enum p)).walkerGo p
    else if s.hubPortOk c then (s.cmdWait k.val (.enum p)).walkerGo p
    else s.fail k.val stNOT_FOUND 0))
/-- PORT_DISABLE (R91, R112). -/
def execPortDisable (k : CoreNo) (s : State) : Host.Outcome State Fault Refusal :=
  act s (fun s => s.runCmd k.val 0x0302 (fun c s =>
    let (p, h, hp) := (c.port, c.f 3 10 4, c.f 3 14 11)
    if h = 0 then (s.portEn p false).ok k.val []
    else if s.hubPortOk c then
      let s := s.fwPush p (ctlJob .parent h (s.rd R.EWZ_ADDRTAB0_GEN p h) 0x12 1 0 hp 0)
      ((s.forL (s.below p h hp) (fun b s => s.dropAddr p b)).ok k.val []).walkerGo p
    else s.fail k.val stNOT_FOUND 0))
/-- PORT_RESET (R125, R179, R180). -/
def execPortReset (k : CoreNo) (s : State) : Host.Outcome State Fault Refusal :=
  act s (fun s => s.runCmd k.val 0x0303 (fun c s =>
    let p := c.port
    if s.on R.EWZ_ADDRTAB0_VALID p (c.f 3 10 4) then (s.cmdWait k.val (.enum p)).walkerGo p
    else s.fail k.val stNOT_FOUND 0))
/-- DEVICE_LOST (R122, R123). -/
def execDeviceLost (k : CoreNo) (s : State) : Host.Outcome State Fault Refusal :=
  act s (fun s => s.runCmd k.val 0x0304 (fun c s =>
    let (p, a) := (c.port, c.f 3 10 4)
    if s.on R.EWZ_ADDRTAB0_VALID p a then
      let lost := s.on R.EWZ_ADDRTAB0_LOST p a
      let (i, s) := s.declareLost p a
      let s := if lost then s else s.parentStop p a
      (s.ok k.val [w32 i]).walkerGo p
    else s.fail k.val stNOT_FOUND 0))
/-- The class of PIPE_CLEAR's tokens: 2 where the endpoint allows it, else the lowest it allows (R111, R161). -/
def State.clearTc (s : State) (p a : Nat) (din : Bool) (ep : Nat) : Nat :=
  let m := bits ((smGet (s.getPort p).config [] a).getD (if din then ep else 16 + ep) 0) 30 27
  if nbit m 2 then 2 else ((List.range 4).find? (nbit m)).getD 2
/-- PIPE_CLEAR (R161). -/
def execPipeClear (k : CoreNo) (s : State) : Host.Outcome State Fault Refusal :=
  act s (fun s => s.runCmd k.val 0x0305 (fun c s =>
    let (p, a) := (c.port, c.f 3 10 4)
    let din := c.f 3 11 11 == 1
    let ep := c.f 3 15 12
    if s.present p a then
      let j : FwJob := { client := .clear k.val, isClear := true, addr := a, gen := s.rd R.EWZ_ADDRTAB0_GEN p a, dirIn := din,
                         ep := ep, tc := s.clearTc p a din ep, w0 := 0, w1 := 0, setupDone := false, sent := false, reply := [] }
      ((s.cmdWait k.val (.clear p)).fwPush p j).walkerGo p
    else s.fail k.val stNOT_FOUND 0))
/-- DEVICE_INFO. -/
def execDeviceInfo (k : CoreNo) (s : State) : Host.Outcome State Fault Refusal :=
  act s (fun s => s.runCmd k.val 0x0306 (fun c s =>
    let (p, a) := (c.port, c.f 3 10 4)
    if s.on R.EWZ_ADDRTAB0_VALID p a then
      let key := smGet (s.getPort p).ident [] a
      s.ok k.val ((List.range 8).map (fun n => key.getD n 0) ++
        [w32 (s.regWord R.EWZ_ADDRTAB0.fields p a), w32 (s.regWord R.EWZ_ADDRTAB1.fields p a)])
    else s.fail k.val stNOT_FOUND 0))

/-! ## Lists (R199, R201, R202, R449) -/

/-- A write of function fn to the list memory word at byte `off`; the firmware region discards and records it (R199, R372,
R606). -/
def State.listWriteBy (s : State) (fn off : Nat) (v : Word) (pois : Bool) : State :=
  if 0x700000 ≤ off then s.violate fn 0x05 (0x80 + fn / 32) off
  else
    let s := s.storeWord (saList off) v
    if pois then (s.setPoison (saList off) true).notePois (saList off) else s
/-- LIST_WRITE. -/
def execListWrite (k : CoreNo) (s : State) : Host.Outcome State Fault Refusal :=
  act s (fun s => s.runCmd k.val 0x0401 (fun c s =>
    (s.forN (c.f 3 27 24) (fun n s => s.listWriteBy (s.cmdInst c) ((c.f 3 22 2 + n) * 4) (c.w (4 + n)) false)).ok k.val []))

/-- A place that links to a descriptor (R449). -/
inductive Link where
  /-- Word 0 of the descriptor at a list memory address. -/
  | after (a : Nat)
  | bulk (p : Nat)
  /-- The frame-list entry at a list memory address. -/
  | frame (a : Nat)
  | anchor (p m : Nat)
  deriving DecidableEq, Repr
/-- The link location in W4 and W5. -/
def State.linkOf (s : State) (c : Cmd) : Link :=
  let p := c.f 5 3 0
  match c.f 4 31 30 with
  | 0 => .after (c.f 4 22 6 * 64)
  | 1 => .bulk p
  | 2 => .frame ((s.rd R.SCH_PFLBASE_BASE p * 4096 + c.f 5 13 4 * 4) % 2 ^ 23)
  | _ => .anchor p (c.f 5 8 4)
/-- What stands at a link: END or EMPTY, and the address. -/
def State.linkGet (s : State) : Link → Bool × Nat × State
  | .after a => let (w, _, s) := s.readWord (saList a); (w.getLsbD 31, bits w 22 6, s)
  | .bulk p => (s.on R.SCH_BULKHEAD_EMPTY p, s.rd R.SCH_BULKHEAD_HEAD p, s)
  | .frame a => let (w, _, s) := s.readWord (saList a); (w.getLsbD 31, bits w 22 6, s)
  | .anchor p m => (s.on R.SCH_ANCHOR_EMPTY p m, s.rd R.SCH_ANCHOR_HEAD p m, s)
/-- Writes END or EMPTY and the address at a link; the other bits of a word in list memory stay. -/
def State.linkSet (s : State) (e : Bool) (a : Nat) : Link → State
  | .after b => s.storeWord (saList b) (setBits (setBits (s.rawWord (saList b)) 31 31 (b2n e)) 22 6 a)
  | .bulk p => (s.wr R.SCH_BULKHEAD_EMPTY (b2n e) p).wr R.SCH_BULKHEAD_HEAD a p
  | .frame b => s.storeWord (saList b) (setBits (setBits (s.rawWord (saList b)) 31 31 (b2n e)) 22 6 a)
  | .anchor p m => (s.wr R.SCH_ANCHOR_EMPTY (b2n e) p m).wr R.SCH_ANCHOR_HEAD a p m
/-- DESC_LINK (R201 step 3). -/
def execDescLink (k : CoreNo) (s : State) : Host.Outcome State Fault Refusal :=
  act s (fun s => s.runCmd k.val 0x0402 (fun c s =>
    let d := c.f 3 22 6
    let (e, a, s) := s.linkGet (s.linkOf c)
    ((s.linkSet e a (.after (d * 64))).linkSet false d (s.linkOf c)).ok k.val []))
/-- LISTSYNC is set on a root port by a command (R202). -/
def State.syncSet (s : State) (p : Nat) : State := (s.wr R.SCH_CTL_LISTSYNC 1 p).setWalk p { s.getWalk p with sync := s.heldAll p }
/-- DESC_UNLINK (R202). -/
def execDescUnlink (k : CoreNo) (s : State) : Host.Outcome State Fault Refusal :=
  act s (fun s => s.runCmd k.val 0x0403 (fun c s =>
    let d := c.f 3 22 6
    let l := s.linkOf c
    let (e, a, s) := s.linkGet l
    if e = true ∨ a ≠ d then s.fail k.val stNOT_FOUND 0
    else
      let (e, a, s) := s.linkGet (.after (d * 64))
      let s := s.linkSet e a l
      if c.f 4 31 30 = 0 then (s.forN 16 (fun p s => s.syncSet p)).cmdWait k.val (.unlink 16)
      else (s.syncSet (c.f 5 3 0)).cmdWait k.val (.unlink (c.f 5 3 0))))
/-- DESC_CANCEL (R203). -/
def execDescCancel (k : CoreNo) (s : State) : Host.Outcome State Fault Refusal :=
  act s (fun s => s.runCmd k.val 0x0404 (fun c s =>
    let p := c.f 4 3 0
    (s.cmdWait k.val (.cancel p)).cancelDesc p (c.f 3 22 6 * 64)))
/-- SCHED_STATUS. -/
def execSchedStatus (k : CoreNo) (s : State) : Host.Outcome State Fault Refusal :=
  act s (fun s => s.runCmd k.val 0x0405 (fun c s =>
    let p := c.port
    s.ok k.val ([R.SCH_PSTAT, R.SCH_PSUM, R.SCH_LASTGRD, R.SCH_RFXSTAT, R.PTU_PFNUM, R.PTU_PSTAT].map
      (fun r => w32 (s.regWord r.fields p)))))

end Sys2Proof.Machine
end

