-- ==== Sys2Proof/Machine/CmdThr.lean ====
section
/-! DEFINITION. The 0x05xx and 0x06xx commands: cairns, engines, flows, time and tracks (R450, R451). -/

namespace Sys2Proof.Machine

/-- The words of a cairn that a failing MALFORMED check of R232 compares: one word, or two. -/
def State.cairnFaults (s : State) (c : Nat) : List (Nat × Nat) :=
  let bad (b : Bool) (x y : Nat) : List (Nat × Nat) := if b then [(x, y)] else []
  bad (bits (s.cw c 0) 15 9 != 0 || bits (s.cw c 0) 7 7 != 0 || s.cReq c == 0) 0 0 ++ bad (s.cRfx c && s.cPrio c != 0) 0 1 ++
  bad (bits (s.cw c 1) 10 10 != 0) 1 1 ++ bad (s.cw c 2 == 0) 2 2 ++ bad (bits (s.cw c 3) 5 0 != 0) 3 3 ++
  bad ((List.range 8).any (fun k => nbit (s.cReq c) k && s.cDepth c k == 0)) 0 4 ++
  bad (s.cTmode c && s.cDepth c (s.cTslot c) == 0) 4 7 ++ bad (decide (65536 < s.cOpBase c + s.depthSum c 8)) 4 7 ++
  bad (bits (s.cw c 7) 11 0 != 0) 7 7 ++ bad (bits (s.cw c 9) 31 16 != 0) 9 9 ++ bad (bits (s.cw c 11) 31 30 != 0) 11 11 ++
  bad (bits (s.cw c 14) 18 0 != 0) 14 14
/-- The first cairn word at fault; which word of a comparison of two is at fault is not stated. -/
def State.cairnFault (s : State) (c : Nat) : Nat × State :=
  let (b, s) := s.choose 2
  match (s.cairnFaults c).map (fun e => if b = 0 then e.1 else e.2) with
  | [] => s.choose 16
  | l => (l.foldl min 15, s)

/-- CAIRN_ACTIVATE (R231, R232, R443). -/
def execCairnActivate (k : CoreNo) (s : State) : Host.Outcome State Fault Refusal :=
  act s (fun s => s.runCmd k.val 0x0501 (fun c s =>
    let x := c.f 3 15 0
    let (w, s) := s.cairnFault x
    let kind := match s.cairnSpoof x with | some (n, _) => n | none => 0x02
    let (r, s) := s.activateCairn x
    match r with
    | 1 => s.ok k.val []
    | 2 => s.fail k.val stMALFORMED (0x10 + w)
    | 3 => s.fail k.val stSPOOF kind
    | 4 => s.fail k.val stBAD_STATE (s.cst x)
    | _ => s.fail k.val stTIMERFULL 0))
/-- CAIRN_DEACTIVATE (R231). -/
def execCairnDeactivate (k : CoreNo) (s : State) : Host.Outcome State Fault Refusal :=
  act s (fun s => s.runCmd k.val 0x0502 (fun c s =>
    let x := c.f 3 15 0
    let (r, s) := s.deactivateReq x
    if r = 1 then s.ok k.val [] else s.fail k.val stBAD_STATE (s.cst x)))
/-- CAIRN_WRITE (R230). -/
def execCairnWrite (k : CoreNo) (s : State) : Host.Outcome State Fault Refusal :=
  act s (fun s => s.runCmd k.val 0x0503 (fun c s =>
    let x := c.f 3 15 0
    let st := s.cst x
    if st = 0 ∨ st = 7 ∨ st = 8 then
      (s.forN (c.f 3 23 20 + 1) (fun n s => s.cairnWrite (x * 64 + (c.f 3 19 16 + n) * 4) 4 (c.w (4 + n)) false)).ok k.val []
    else s.fail k.val stBAD_STATE st))
/-- CAIRN_READ (R385, R443). -/
def execCairnRead (k : CoreNo) (s : State) : Host.Outcome State Fault Refusal :=
  act s (fun s => s.runCmd k.val 0x0504 (fun c s =>
    let (ws, s) := s.readWords (saCairn (c.f 3 15 0) (c.f 3 19 16)) (c.f 3 23 20 + 1)
    match (List.range ws.length).find? (fun n => (ws.getD n (0, false)).2) with
    | some n =>
      let h := s.cmdInst c / 32
      (s.poisonTx h).reply k.val stPOISONED (3 + n) (ws.map (·.1)) true
    | none => s.ok k.val (ws.map (·.1))))
/-- CODE_LOAD (R284, R450): CLOAD is set, and the code is read once the engine runs no thread. -/
def execCodeLoad (k : CoreNo) (s : State) : Host.Outcome State Fault Refusal :=
  act s (fun s => s.runCmd k.val 0x0505 (fun c s =>
    let e := c.f 3 9 0
    (((s.ewr R.ENG_CTL_CLOAD 1 e).returnPref e).syncEng e).cmdWait k.val (.code e)))
/-- Words that a CODE_LOAD read arrive: they are stored, and after the last CGRP is written and CLOAD cleared (R284, R450). -/
def State.codeArrive (s : State) (k : Nat) (c : Cmd) (data : List Word) (ep : Bool) : State :=
  let e := c.f 3 9 0
  let a := c.f 5 31 0 * 2 ^ 32 + c.f 4 31 0 + c.pos
  let n := min (min (c.f 6 31 0 - c.pos) (4096 - a % 4096)) (s.mrrs (s.wqInst c.ctx))
  let s := match s.physOf e with
    | some i =>
      if s.swapping e then s
      else
        let s := s.storeWords (saEngine i + (c.f 7 11 0) * 4 + c.pos) ((List.range (n / 4)).map (fun j => (data.getD j 0, ep)))
        if ep then s.notePois (saEngine i + (c.f 7 11 0) * 4 + c.pos) else s
    | none => s
  let c := { c with pos := c.pos + n }
  if c.pos < c.f 6 31 0 then s.codeRead k c
  else (((s.ewr R.ENG_CTL_CGRP (c.f 3 23 16) e).ewr R.ENG_CTL_CLOAD 0 e).syncEng e).ok k []
/-- ENGINE_STATUS. -/
def execEngineStatus (k : CoreNo) (s : State) : Host.Outcome State Fault Refusal :=
  act s (fun s => s.runCmd k.val 0x0506 (fun c s =>
    let e := c.f 3 9 0
    s.ok k.val ([R.ENG_STAT, R.ENG_XSTAT, R.ENG_XCAIRN, R.ENG_XADDR, R.ENG_ESTAT].map
      (fun r => w32 (s.regWord r.fields (ropeOf e) (slotOf e))))))
/-- FLOW_STATUS. -/
def execFlowStatus (k : CoreNo) (s : State) : Host.Outcome State Fault Refusal :=
  act s (fun s => s.runCmd k.val 0x0507 (fun c s => s.ok k.val [w32 (s.regWord R.TSC_FLOW.fields (c.f 3 11 0))]))

/-! ## Time base (R451) -/

/-- TIME_READ. -/
def execTimeRead (k : CoreNo) (s : State) : Host.Outcome State Fault Refusal :=
  act s (fun s => s.runCmd k.val 0x0601 (fun _ s =>
    s.ok k.val [s.rdw R.PTU_TIMELO_NS_LO, s.rdw R.PTU_TIMEHI_NS_HI, s.rdw R.PTU_TIMEFR_FRAC]))
/-- TRACK_READ. -/
def execTrackRead (k : CoreNo) (s : State) : Host.Outcome State Fault Refusal :=
  act s (fun s => s.runCmd k.val 0x0602 (fun c s =>
    let t := c.f 3 3 0
    s.ok k.val ([R.PTU_TRKPOSF, R.PTU_TRKPOSH, R.PTU_TRKVEL, R.PTU_TRKSTAT].map (fun r => w32 (s.regWord r.fields t)))))

end Sys2Proof.Machine
end

