-- ==== Sys2Proof/Machine/Maint.lean ====
section
/-! DEFINITION. Memory maintenance: tokens, scrub, repair, checker test, DDR training and tracking (R452, R453, R457–R460,
R473–R476, R485–R495). -/

namespace Sys2Proof.Machine

/-! ## Tokens (R457–R460) -/

/-- The activity that holds the token of group g, or the health manager's that will take it next (R459). -/
def State.tokenBusy (s : State) (g : Nat) : Option Nat :=
  match smFind s.cmds.token g with
  | some t => some t.act
  | none =>
    if (match smFind s.swap g with | some x => x.step == 3 | none => false) then some 5
    else if s.cmds.healthWait.any (fun e => e.1 == g) then some 6 else none
/-- CMD_TOKEN0 and CMD_TOKEN1 show the tokens held (R467). -/
def State.syncTokens (s : State) : State :=
  let held (n : Nat) (base : Nat) : Nat := (List.range n).foldl (fun w k => w + b2n (smFind s.cmds.token (base + k)).isSome * 2 ^ k) 0
  (s.wr R.CMD_TOKEN0_ROPES (held 32 0)).wr R.CMD_TOKEN1_OTHER (held 4 0x20)
/-- Grants the token of group g. -/
def State.tokenTake (s : State) (g act inst : Nat) (deferred : Bool) (args : List Word) : State :=
  ({ s with cmds := { s.cmds with token := smIns s.cmds.token g ⟨act, inst, s.ns, deferred, args⟩ } }).syncTokens
/-- Releases the token of group g. -/
def State.tokenFree (s : State) (g : Nat) : State :=
  ({ s with cmds := { s.cmds with token := smDel s.cmds.token g } }).syncTokens
/-- A 0x07xx command starts its activity, or is refused because the token is held (R453, R459). -/
def State.maintStart (s : State) (k : Nat) (c : Cmd) (act : Nat) (f : State → State) : State :=
  let g := c.f 3 7 0
  match s.tokenBusy g with
  | some a => s.fail k stBUSY (g * 256 + a)
  | none =>
    let d := c.f 3 8 8 == 1
    let s := f (s.tokenTake g act (s.cmdInst c) d [c.w 3, c.w 4, c.w 5, c.w 6])
    if d then s.ok k [] else s.cmdWait k (.maint g)
/-- An activity started by a command ends: the token, the result kept, and the reply or CMD_EVT.MAINT (R453, R460). -/
def State.maintEnd (s : State) (g : Nat) (t : Token) (status second : Nat) (ws : List Word) : State :=
  let s := s.tokenFree g
  let s := { s with cmds := { s.cmds with result := smIns s.cmds.result g ⟨status, second, ws⟩ } }
  if t.deferred then s.wr R.CMD_EVT_MAINT 1
  else match s.waiter (.maint g) with
    | some k => s.reply k status second ws
    | none => s

/-! ## Reading and rewriting code words (R478, R486, R491) -/

/-- The words of group g that are not clean and sound, by offset: the others read without effect. -/
def State.oddWords (s : State) (g : Nat) : List (Nat × Nat) :=
  let offs := ((s.upset.map (·.1)) ++ s.poison).filterMap (fun w =>
    match groupOf (4 * w) with
    | some (h, o) => if h = g then some (o, 4 * w) else none
    | none => none)
  (offs.foldl (fun (m : SMap Nat) e => smIns m e.1 e.2) [])
/-- A locked turn on one word: 1 corrected, 2 made poisoned, 3 poisoned already, 0 none of them. -/
def State.rewriteWord (s : State) (a : Nat) : Nat × State :=
  match smGet s.upset 0 (a / 4) with
  | 1 => (1, (s.noteCe a).setUpset a 0)
  | 2 => (2, (((s.noteUe a).setUpset a 0).setPoison a true).notePois a)
  | _ =>
    let (_, _, s) := s.readWord a
    (if s.poisoned a then 3 else 0, s)
/-- What a scrub has counted (R491). -/
structure ScrubCnt where
  corrected : Nat := 0
  found : Nat := 0
  first : Option Nat := none
/-- SCRUB_RANGE of n bytes from offset o of group g: words corrected, poisoned words found and the first of them (R491). -/
def State.scrub (s : State) (g o n : Nat) : ScrubCnt × State :=
  ((s.oddWords g).filter (fun e => decide (o ≤ e.1) && decide (e.1 < o + n))).foldl (fun (acc : ScrubCnt × State) e =>
    let was := acc.2.poisoned e.2
    let (r, s) := acc.2.rewriteWord e.2
    let bad := r == 2 || was
    ({ corrected := acc.1.corrected + b2n (r == 1), found := acc.1.found + b2n bad,
       first := if bad then acc.1.first.or (some e.1) else acc.1.first }, s)) ({}, s)
/-- The words of a scrub's reply. -/
def scrubWords (n : Nat) (c : ScrubCnt) : List Word :=
  let f := c.first.getD (2 ^ 64 - 1)
  [w32 (n / 4), w32 c.corrected, w32 c.found, w32 f, w32 (f / 2 ^ 32)]

/-! ## Repair (R485–R488) -/

/-- Field entries of a group's allotment, and those left (R485). -/
def fieldAllot (g : Nat) : Nat := if g < 0x20 then 12 else 64
def State.fieldLeft (s : State) (g : Nat) : Nat := fieldAllot g - smGet s.fuse.field 0 g
/-- The macro has a spare of the kind, and the group a field entry (R485, R487). -/
def State.canRepair (s : State) (g m : Nat) (col : Bool) : Bool :=
  let (r, c) := smGet s.fuse.spare (0, 0) (g * 256 + m)
  decide (0 < s.fieldLeft g) && (if col then decide (c < 2) else decide (r < 4))
/-- A field repair entry of the group is programmed; FUSELOW with the last but one (R486, R593). -/
def State.useField (s : State) (g : Nat) : State :=
  let s := { s with fuse := { s.fuse with field := smIns s.fuse.field g (smGet s.fuse.field 0 g + 1) } }
  let s := s.wr R.MEM_FUSE_LEFT (s.rd R.MEM_FUSE_LEFT - 1)
  if s.fieldLeft g = 1 then s.wr R.HLT_EVT_FUSELOW 1 else s
/-- A spare row or column of a macro is switched in with its contents (R486). -/
def State.repair (s : State) (g m x : Nat) (col : Bool) : State :=
  let l := (s.oddWords g).filter (fun e =>
    match rowOf g e.1 with
    | some (n, r) => n == m && (col || r == x)
    | none => false)
  let s := s.forL l (fun e s => (s.rewriteWord e.2).2)
  let (r, c) := smGet s.fuse.spare (0, 0) (g * 256 + m)
  let s := { s with fuse := { s.fuse with spare := smIns s.fuse.spare (g * 256 + m) (if col then (r, c + 1) else (r + 1, c)) } }
  s.useField g

/-! ## Checker test (R489, R490) -/

/-- MEM unit that shows a failing group (R490). -/
def checkUnit (g : Nat) : Nat := if g < 0x20 then g / 4 else if g = 0x20 then 8 else if g = 0x21 then 9 else 16 + (g - 0x22)
/-- The checker test of a group passes or fails. -/
def State.checked (s : State) (g : Nat) (fail : Bool) : State :=
  let s := if fail then s.wr R.MEM_USTAT_FAIL 1 (checkUnit g) else s
  if g < 0x20 then s.wr R.MEM_CHKSTAT0_FAIL (setBits (s.rdw R.MEM_CHKSTAT0_FAIL) g g (b2n fail)).toNat
  else s.wr R.MEM_CHKSTAT1_FAIL (setBits (s.rdw R.MEM_CHKSTAT1_FAIL) (g - 0x20) (g - 0x20) (b2n fail)).toNat

/-! ## DDR channels (R470, R473–R476, R498) -/

/-- Capacity of a channel in GiB (R470). -/
def State.ddrCap (s : State) (ch : Nat) : Nat :=
  (if s.on R.MEM_DDRCFG_WIDTH ch then 2 else 4) * (8 * (s.rd R.MEM_DDRCFG_DENS ch + 1)) / 8 * (s.rd R.MEM_DDRCFG_RANKS ch + 1)
/-- Channel ch is trained and in use, or is not. -/
def State.ddrUse (s : State) (ch : Nat) (v : Bool) : State :=
  let s := (s.wr R.MEM_DDRSTAT_TRAINED (b2n v) ch).wr R.MEM_DDRSIZE_SIZE (if v then s.ddrCap ch else 0) ch
  let s := if ch = 0 then s.wr R.MEM_STAT_DDR0RDY (b2n v) else s.wr R.MEM_STAT_DDR1RDY (b2n v)
  { s with ddr := { s.ddr with osc := s.ddr.osc.filter (fun e => decide (e.1 / 2 ≠ ch)) } }
/-- A training of channel ch fails. -/
def State.ddrFail (s : State) (ch : Nat) : State := (s.wr R.MEM_DDRSTAT_TRFAIL 1 ch).wr R.MEM_USTAT_FAIL 1 (16 + ch)
/-- N of the DPLL for a SPEED (R552). -/
def dpllN (speed : Nat) : Nat := if speed = 0 then 56 else if speed = 1 then 48 else 40
/-- A value of MEM_DDRCFG is written (R473, R498, R552). -/
def State.ddrCfg (s : State) (ch : Nat) (val : Word) : State :=
  let en := bits val 0 0
  if s.on R.MEM_DDRCFG_EN ch then
    if en = 0 then
      let s := (s.wr R.MEM_DDRCFG_EN 0 ch).ddrUse ch false
      let s := s.wr R.MEM_DDRSTAT_HOT 0 ch
      { s with ddr := { s.ddr with train := setDel s.ddr.train ch, hot := s.ddr.hot.filter (fun k => decide (k / 2 ≠ ch)) } }
    else s
  else if 3 < bits val 10 8 then s
  else
    let s := ((s.wr R.MEM_DDRCFG_SPEED (bits val 13 12) ch).wr R.MEM_DDRCFG_DENS (bits val 10 8) ch).wr
      R.MEM_DDRCFG_WIDTH (bits val 5 5) ch
    let s := (s.wr R.MEM_DDRCFG_RANKS (bits val 4 4) ch).wr R.MEM_DDRCFG_EN en ch
    if en = 0 then s
    else
      let s := if s.on R.MEM_DDRCFG_EN (1 - ch) then s else s.wr R.CLK_PLLCTL_N (dpllN (bits val 13 12)) 3
      { s with ddr := { s.ddr with train := setAdd s.ddr.train ch } }
/-- The DPLL runs at the speed of channel ch (R552). -/
def State.dpllFits (s : State) (ch : Nat) : Bool := s.rd R.CLK_PLLCTL_N 3 == dpllN (s.rd R.MEM_DDRCFG_SPEED ch)

/-- DDR_CHANNEL_ENABLE (R473). -/
def execDdrChannelEnable (fn : InstNo) (ch : Bool) (val : Word) (s : State) : Host.Outcome State Fault Refusal :=
  act s (fun s => s.gated fn.toNat (R.MEM_DDRCFG_EN.off (b2n ch)) (fun s => s.ddrCfg (b2n ch) val))
/-- DDR_TRAINING_COMPLETE (R473, R552). -/
def execDdrTrainingComplete (ch : Bool) (ok : Bool) (s : State) : Host.Outcome State Fault Refusal :=
  act s (fun s =>
    let c := b2n ch
    if s.ddr.train.contains c then
      let s := { s with ddr := { s.ddr with train := setDel s.ddr.train c } }
      if ok && s.dpllFits c then s.ddrUse c true else s.ddrFail c
    else s)
/-- Rank `rank` of channel ch is fitted and runs. -/
def State.rankRuns (s : State) (ch rank : Nat) : Bool := s.on R.MEM_DDRSTAT_TRAINED ch && decide (rank ≤ s.rd R.MEM_DDRCFG_RANKS ch)
/-- DDR_REFRESH (R474). -/
def execDdrRefresh (ch : Bool) (rank : Bool) (hot : Bool) (s : State) : Host.Outcome State Fault Refusal :=
  act s (fun s =>
    let c := b2n ch
    if s.rankRuns c (b2n rank) then
      let k := 2 * c + b2n rank
      let l := if hot then setAdd s.ddr.hot k else setDel s.ddr.hot k
      { s with ddr := { s.ddr with hot := l } }.wr R.MEM_DDRSTAT_HOT (b2n (l.any (fun k => k / 2 == c))) c
    else s)
/-- ZQ_CALIBRATION (R475). -/
def execZqCalibration (ch : Bool) (rank : Bool) (s : State) : Host.Outcome State Fault Refusal :=
  act s (fun s => if s.rankRuns (b2n ch) (b2n rank) then s.count R.MEM_DDRCNT_ZQ (b2n ch) else s)
/-- DQS_OSCILLATOR_READ (R475): the first reading after a training is what later ones are held against. -/
def execDqsOscillatorRead (ch : Bool) (rank : Bool) (count : BitVec 16) (s : State) : Host.Outcome State Fault Refusal :=
  act s (fun s =>
    let c := b2n ch
    let k := 2 * c + b2n rank
    let n := count.toNat
    if s.rankRuns c (b2n rank) then
      let s := s.count R.MEM_DDRCNT_TRACK c
      match smFind s.ddr.osc k with
      | none => { s with ddr := { s.ddr with osc := smIns s.ddr.osc k n } }
      | some r =>
        let t := s.rd R.MEM_DDRTRK_DTH c
        if r + t < n ∨ n + t < r then (s.wr R.MEM_DDRSTAT_DRIFT 1 c).wr R.MEM_USTAT_THR 1 (16 + c) else s
    else s)

/-! ## The 0x07xx commands (R452) -/

/-- SCRUB_RANGE. -/
def execScrubRange (k : CoreNo) (s : State) : Host.Outcome State Fault Refusal :=
  act s (fun s => s.runCmd k.val 0x0701 (fun c s => s.maintStart k.val c 1 (fun s => s)))
/-- MEM_REPAIR. -/
def execMemRepair (k : CoreNo) (s : State) : Host.Outcome State Fault Refusal :=
  act s (fun s => s.runCmd k.val 0x0702 (fun c s =>
    let g := c.f 3 7 0
    if (s.tokenBusy g).isNone && !s.canRepair g (c.w 4).toNat (c.f 3 9 9 == 1) then s.fail k.val stNO_RESERVE 0
    else s.maintStart k.val c 2 (fun s => s)))
/-- CHECKER_TEST. -/
def execCheckerTest (k : CoreNo) (s : State) : Host.Outcome State Fault Refusal :=
  act s (fun s => s.runCmd k.val 0x0703 (fun c s => s.maintStart k.val c 3 (fun s => s)))
/-- DDR_RETRAIN (R476). -/
def execDdrRetrain (k : CoreNo) (s : State) : Host.Outcome State Fault Refusal :=
  act s (fun s => s.runCmd k.val 0x0704 (fun c s =>
    let ch := c.f 3 7 0 - 0x22
    if (s.tokenBusy (c.f 3 7 0)).isNone && !s.on R.MEM_DDRCFG_EN ch then s.fail k.val stNOT_READY 0
    else s.maintStart k.val c 4 (fun s => s.wr R.MEM_DDRSTAT_RETRAIN 1 ch)))
/-- MAINT_RESULT. -/
def execMaintResult (k : CoreNo) (s : State) : Host.Outcome State Fault Refusal :=
  act s (fun s => s.runCmd k.val 0x0705 (fun c s =>
    let g := c.f 3 7 0
    match smFind s.cmds.token g with
    | some t => s.fail k.val stBUSY (g * 256 + t.act)
    | none =>
      match smFind s.cmds.result g with
      | some r => s.reply k.val r.status r.second r.words
      | none => s.fail k.val stNOT_FOUND 0))
/-- The end of a repair whose token is t (R486, R488). -/
def State.repairEnd (s : State) (g : Nat) (t : Token) : State :=
  let m := (t.args.getD 1 0).toNat
  let x := (t.args.getD 2 0).toNat
  let col := bits (t.args.getD 0 0) 9 9 == 1
  if s.canRepair g m col then
    let s := s.repair g m x col
    s.maintEnd g t stOK 0 [w32 (s.fieldLeft g)]
  else s.maintEnd g t stNO_RESERVE 0 []
/-- The end of a DDR_RETRAIN (R476). -/
def State.retrainEnd (s : State) (g : Nat) (t : Token) (ok : Bool) : State :=
  let ch := g - 0x22
  let s := s.wr R.MEM_DDRSTAT_RETRAIN 0 ch
  let pass := ok && s.dpllFits ch && s.on R.MEM_DDRCFG_EN ch
  let s := if pass then (s.wr R.MEM_DDRSTAT_DRIFT 0 ch).ddrUse ch true else s.ddrFail ch
  s.maintEnd g t stOK 0 [w32 (b2n pass)]
/-- The end of a field repair by the health manager: of a row, or of a repair that BIST made for this power cycle (R488, R603). -/
def State.fieldEnd (s : State) (g : Nat) (t : Token) : State :=
  let s := match t.args with
    | [_, m, x] => if s.canRepair g m.toNat false then s.repair g m.toNat x.toNat false else s
    | _ => if 0 < s.fieldLeft g then s.useField g else s
  s.tokenFree g
/-- MAINT_ACTIVITY_END (R460): `info` is the mask of failing patterns of a checker test. -/
def execMaintActivityEnd (g : BitVec 6) (ok : Bool) (info : Word) (s : State) : Host.Outcome State Fault Refusal :=
  act s (fun s =>
    let g := g.toNat
    match smFind s.cmds.token g with
    | none => s
    | some t =>
      match t.act with
      | 1 =>
        let o := (t.args.getD 2 0).toNat * 2 ^ 32 + (t.args.getD 1 0).toNat
        let n := (t.args.getD 3 0).toNat
        let (c, s) := s.scrub g o n
        s.maintEnd g t stOK 0 (scrubWords n c)
      | 2 => s.repairEnd g t
      | 3 =>
        let m := bits info 5 0
        (s.checked g (m != 0)).maintEnd g t stOK 0 [w32 (b2n (m == 0)), w32 m]
      | 4 => s.retrainEnd g t ok
      | 6 => s.fieldEnd g t
      | _ => s)
/-- FIELD_REPAIR (R459, R488, R603): the health manager takes the token for the next row, or for a repair of BIST. -/
def execFieldRepair (g : BitVec 6) (s : State) : Host.Outcome State Fault Refusal :=
  act s (fun s =>
    let g := g.toNat
    if (smFind s.cmds.token g).isSome || (match smFind s.swap g with | some x => x.step == 3 | none => false) then s
    else match s.cmds.healthWait.find? (fun e => e.1 == g) with
      | some (_, m, r) =>
        let s := { s with cmds := { s.cmds with healthWait := s.cmds.healthWait.erase (g, m, r) } }
        s.tokenTake g 6 0x7F false [0, w32 m, w32 r]
      | none =>
        if s.on R.CMD_STAT_FWRDY && decide (0 < s.boot.soft) && decide (g < 0x22) then
          ({ s with boot := { s.boot with soft := s.boot.soft - 1 } }).tokenTake g 6 0x7F false []
        else s)

end Sys2Proof.Machine
end

