-- ==== Sys2Proof/Machine/Pwr.lean ====
section
/-! DEFINITION. The descent planner, entry into and exit from the power states of ropes, root ports and the device, and the
wake record (R557–R568, R454). -/

namespace Sys2Proof.Machine

/-! ## Limits, latencies and horizons (R557, R561, R562) -/

/-- A LIMIT of a rope or root port; 4–7 act as 3 (R575). -/
def limitOf (n : Nat) : Nat := min 3 n
/-- Exit latency of a rope's engines from state `st`, ns. -/
def ropeExit (st : Nat) : Nat := if st = 3 then 60000 else if st = 2 then 2000 else 20
/-- T: the deepest TIER of the port's address table, or 1 (R557). -/
def State.treeDepth (s : State) (p : Nat) : Nat := (s.addrs p).foldl (fun n a => max n (s.rd R.EWZ_ADDRTAB0_TIER p a)) 1
/-- Exit latency of root port p from state `st`, ns. -/
def State.portExit (s : State) (p st : Nat) : Nat :=
  if st = 3 then 200000 + (s.treeDepth p - 1) * 100 else if st = 2 then 2000 + (s.treeDepth p - 1) * 100 else 20
/-- The lesser of two horizons; `none` is infinite. -/
def hMin : Option Nat → Option Nat → Option Nat
  | some a, some b => some (min a b)
  | some a, none => some a
  | none, b => b
/-- H is at least n. -/
def hGe (h : Option Nat) (n : Nat) : Bool := match h with | some k => decide (n ≤ k) | none => true
/-- H is at most n. -/
def hLe (h : Option Nat) (n : Nat) : Bool := match h with | some k => decide (k ≤ n) | none => false
/-- PTU_PNEXT of port p; all ones is no prediction (R52, R66). -/
def State.pnext (s : State) (p : Nat) : Option Nat :=
  let n := s.rd R.PTU_PNEXT_NEXT p
  if n = 2 ^ 32 - 1 then none else some n
/-- Time until a timer deadline [47:0]; 0 where it has passed (R239). -/
def State.until48 (s : State) (d : Nat) : Nat :=
  let n := (d % 2 ^ 48 + 2 ^ 48 - s.ns48) % 2 ^ 48
  if 2 ^ 47 ≤ n then 0 else n
/-- The next known event of rope r (R562). -/
def State.ropeH (s : State) (r : Nat) : Option Nat :=
  let ports := (List.range 16).foldl (fun h p => if nbit (s.rd R.PWR_RPORTS_PORTS r) p then hMin h (s.pnext p) else h) none
  let mine (c : Nat) : Bool := nbit (s.cw c 2).toNat r
  let tp := s.tsc.tmrP.foldl (fun h c => if mine c then hMin h (some (s.until48 (s.cTdl c))) else h) ports
  let ty := s.tsc.tmrY.foldl (fun h e => if mine e.1 then hMin h (some (s.until48 e.2)) else h) tp
  s.eng.foldl (fun h e => if ropeOf e.1 = r then
      match e.2.wait with
      | some ⟨_, some d⟩ => hMin h (some (d.toNat - s.ns.toNat))
      | _ => h
    else h) ty
/-- The next known event of root port p (R562). -/
def State.portH (s : State) (p : Nat) : Option Nat :=
  let h := if s.on R.PTU_PFRM_FEN p then s.pnext p else none
  (s.getPort p).pipes.foldl (fun h e =>
    if e.2.waiting then hMin h (some (if e.2.due then 0 else e.2.dueAt - s.ns.toNat)) else h) h
/-- The planner's target for a unit with its limit, exit latencies and horizon (R561). -/
def State.target (s : State) (limit e2 e3 : Nat) (h : Option Nat) : Nat :=
  let g := s.rd R.PWR_GUARD_GUARD
  if 3 ≤ limit ∧ hGe h (e3 + g + s.rd R.PWR_TH_TDEEP * 1000) then 3
  else if 2 ≤ limit ∧ hGe h (e2 + g + s.rd R.PWR_TH_TSLEEP * 1000) then 2
  else min 1 limit

/-! ## Ropes -/

/-- PWR_DCTL.STATE is the shallowest state of any rope (R575). -/
def State.syncDctl (s : State) : State :=
  s.wr R.PWR_DCTL_STATE ((List.range 32).foldl (fun n r => min n (s.rd R.PWR_RCTL_STATE r)) 3)
/-- Rope r is in state `st`. -/
def State.setRope (s : State) (r st : Nat) : State := (s.wr R.PWR_RCTL_STATE st r).syncDctl
/-- Rope r starts its exit. -/
def State.ropeWake (s : State) (r cause : Nat) : State :=
  if (smFind s.pwr.rope r).isSome then s
  else { s with pwr := { s.pwr with rope := smIns s.pwr.rope r ⟨s.rd R.PWR_RCTL_STATE r, cause, s.nsLo⟩ } }
/-- Engine e may follow its rope: no thread, an empty prefetch slot, no reflex engine (R559, R562). -/
def State.mayFollow (s : State) (e : Nat) : Bool :=
  let x := s.getEng e
  x.thr.isNone && x.pref.isNone && x.exit.isNone && decide (slotOf e + min 4 (s.rd R.TSC_ROPECFG_RFXN (ropeOf e)) < 32)
/-- POWER_STATE_ENTRY: the engines of rope r that may enter state `st`, from a shallower one (R557, R559, R566). -/
def State.enginesEnter (s : State) (r st : Nat) : State :=
  s.forN 32 (fun k s =>
    let e := 32 * r + k
    let old := s.erd R.ENG_STAT_PSTATE e
    if s.mayFollow e ∧ old < st then
      let s := s.ewr R.ENG_STAT_PSTATE st e
      if old = 0 then s.setEng e { s.getEng e with entry := some s.tsc.cyc } else s
    else s)
/-- Some READY cairn is eligible for an engine of rope r (R562). -/
def State.readyFor (s : State) (r : Nat) : Bool :=
  s.tsc.ready.any (fun t =>
    nbit (s.cw t.c 2).toNat r && !s.instStopped (s.cInst t.c) &&
    (List.range 32).any (fun k => s.eligible (32 * r + k) (bits (s.cw t.c 1) 19 12) (s.cRfx t.c)))
/-- With LIMIT = 0 the engines of a rope are not gated (R559); one that is deeper than LIMIT starts its exit (R567). -/
def State.enginesLimit (s : State) (r limit : Nat) : State :=
  s.forN 32 (fun k s =>
    let e := 32 * r + k
    let st := s.erd R.ENG_STAT_PSTATE e
    let x := s.getEng e
    if st ≤ limit then s
    else if st = 1 then (s.ewr R.ENG_STAT_PSTATE 0 e).setEng e { x with entry := none }
    else if x.exit.isNone && x.thr.isSome && decide (limit = 0) then s.setEng e { x with exit := some ⟨st, 7, s.nsLo⟩ }
    else s)
/-- One evaluation of rope r (R561, R562, R567, R579). -/
def State.planRope (s : State) (r : Nat) : State :=
  let st := s.rd R.PWR_RCTL_STATE r
  if (smFind s.pwr.rope r).isSome then s
  else if !s.on R.PWR_CTL_PEN then
    if 2 ≤ st then let (k, s) := s.choose 16; s.ropeWake r k else s
  else
    let limit := limitOf (s.rd R.PWR_RCTL_LIMIT r)
    let s := s.enginesLimit r limit
    let h := s.ropeH r
    if limit < st then if 2 ≤ st then s.ropeWake r 7 else s.setRope r limit
    else if 2 ≤ st ∧ (smFind s.swap r).isSome then let (k, s) := s.choose 16; s.ropeWake r k
    else if 2 ≤ st ∧ hLe h (ropeExit st + s.rd R.PWR_GUARD_GUARD) then s.ropeWake r 1
    else
      let t := s.target limit (ropeExit 2) (ropeExit 3) h
      if s.readyFor r then (if st = 0 ∧ 1 ≤ limit then s.setRope r 1 else s)
      else
        let t := if (smFind s.swap r).isSome then min 1 t else t
        let s := if st < t then s.setRope r t else s
        s.enginesEnter r (max st t)

/-! ## Root ports -/

/-- Root port p may descend now (R562). -/
def State.portMay (s : State) (p : Nat) : Bool :=
  let x := s.getPort p
  let w := s.rd R.SCH_PSTAT_WSTATE p
  (w == 3 || w == 4) && x.cur.isNone && x.cur0.isNone && x.pairs.isEmpty &&
  (!s.on R.SCH_CTL_BULKEN p || !x.walk.bserved) && s.lstate p == lL0 && x.susRef != some x.walk.fnum
/-- One evaluation of root port p (R561–R563, R567). -/
def State.planPort (s : State) (p : Nat) : State :=
  if !s.on R.PWR_CTL_PEN then s
  else
    let st := s.rd R.PWR_PCTL_STATE p
    let limit := limitOf (s.rd R.PWR_PCTL_LIMIT p)
    let h := s.portH p
    let wake (s : State) (cause : Nat) : State :=
      if s.asleep p && !(s.getPort p).resuming then (s.wr R.EWZ_CTL_RESUME 1 p).startResume p cause else s
    if limit < st then if 2 ≤ st then wake s 7 else s.wr R.PWR_PCTL_STATE limit p
    else if 2 ≤ st ∧ hLe h (s.portExit p st + s.rd R.PWR_GUARD_GUARD) then wake s 1
    else
      let top := if s.on R.PWR_PCTL_L2OK p then limit else min 2 limit
      let t := s.target top (s.portExit p 2) (s.portExit p 3) h
      let s := if st = 0 ∧ 1 ≤ t then s.wr R.PWR_PCTL_STATE 1 p else s
      if 2 ≤ t ∧ st < t ∧ s.portMay p then s.askSuspend p (t - 1) else s

/-! ## Off (R564) -/

/-- A vector is COLLECTING or FIRED. -/
def State.vecBusy (s : State) : Bool := s.evc.vec.any (fun e => e.2.st != .armed)
/-- The conditions of R564 that hold at this moment. -/
def State.offReady (s : State) : Bool :=
  decide (4 ≤ s.rd R.PWR_DCTL_LIMIT) && (List.range 32).all (fun r => s.rd R.PWR_RCTL_STATE r == 3) &&
  s.tsc.nAct == 0 && s.tmrCount == 0 &&
  (List.range 16).all (fun p => !s.on R.PTU_PFRM_FEN p && s.lstate p != lL0) &&
  (List.range 16).all (fun c => s.chanState c == 0) &&
  (List.range 2048).all (fun c => s.wqState c == 0 || s.rd R.WQ_QIDX_HEAD c == s.rd R.WQ_QIDX_TAIL c) && !s.vecBusy
/-- The time for which the conditions of R564 have held is kept. -/
def State.offTrack (s : State) : State :=
  { s with pwr := { s.pwr with offFrom := if s.offReady then s.pwr.offFrom.or (some s.ns.toNat) else none } }

/-- PLANNER_EVALUATION (R561). -/
def execPlannerEvaluation (s : State) : Host.Outcome State Fault Refusal :=
  act s (fun s =>
    let s := s.forN 32 (fun r s => s.planRope r)
    let s := s.forN 16 (fun p s => s.planPort p)
    if s.on R.PWR_CTL_PEN then s.offTrack else { s with pwr := { s.pwr with offFrom := none } })
/-- OFF_ENTRY (R564, R565, R569). -/
def execOffEntry (s : State) : Host.Outcome State Fault Refusal :=
  act s (fun s =>
    match s.pwr.offFrom with
    | some t =>
      if s.on R.PWR_CTL_PEN && s.offReady &&
          decide (t + max 1 (s.rd R.PWR_DCTL_OFFDLY) * 1000000 ≤ s.ns.toNat) then
        { s with phase := .off, faultN := false,
                 pwr := { s.pwr with offEn := s.on R.PTU_CTL_EN, offTime := s.time, offFrom := none } }
      else s
    | none => s)

/-! ## Exits and the wake record (R557, R568) -/

/-- WAKE_RECORD_WRITE (R568). -/
def State.wakeRec (s : State) (kind frm cause index time : Nat) : State :=
  let s := ((s.wr R.PWR_WAKE0_VALID 1).wr R.PWR_WAKE0_KIND kind).wr R.PWR_WAKE0_FROM frm
  ((s.wr R.PWR_WAKE0_CAUSE cause).wr R.PWR_WAKE0_INDEX index).wr R.PWR_WAKE1_TIME time
/-- Engines of rope r that share its state come back to Idle with it (R557). -/
def State.enginesBack (s : State) (r : Nat) : State :=
  s.forN 32 (fun k s =>
    let e := 32 * r + k
    let x := s.getEng e
    if x.thr.isNone && x.exit.isNone && decide (2 ≤ s.erd R.ENG_STAT_PSTATE e) then
      (s.ewr R.ENG_STAT_PSTATE 1 e).setEng e { x with entry := none }
    else s)
/-- The exit of engine e ends; a WAIT that nothing has ended goes on at the limit of the rope (R303, R567). -/
def State.engineExit (s : State) (e : Nat) (r : ExitRec) : State :=
  let x := s.getEng e
  let s := s.wakeRec 3 r.frm r.cause e r.at_.toNat
  if r.cause = 7 ∧ x.wait.isSome ∧ ¬ x.nudge then
    (s.ewr R.ENG_STAT_PSTATE (min 1 (s.rd R.PWR_RCTL_LIMIT (ropeOf e))) e).setEng e { x with entry := none, exit := none }
  else s.engRun e
/-- POWER_STATE_EXIT_COMPLETE (R557, R568). -/
def execPowerStateExitComplete (u : PwrUnit) (s : State) : Host.Outcome State Fault Refusal :=
  act s (fun s => match u with
    | .rope r =>
      let r := r.toNat
      match smFind s.pwr.rope r with
      | none => s
      | some x =>
        let s := { s with pwr := { s.pwr with rope := smDel s.pwr.rope r } }
        ((s.setRope r 1).enginesBack r).wakeRec 1 x.frm x.cause r x.at_.toNat
    | .engine e =>
      match (s.getEng e.toNat).exit with
      | none => s
      | some x => (s.engineExit e.toNat x).syncEng e.toNat
    | .port p =>
      let p := p.toNat
      let x := s.getPort p
      if x.exitFrom ≠ 0 ∧ s.lstate p = lL0 then
        ((s.wr R.PWR_PCTL_STATE 1 p).setPort p { x with exitFrom := 0 }).wakeRec 2 x.exitFrom x.wakeCause p (x.wakeAt % 2 ^ 32)
      else s)

/-! ## Commands (R454, R575) -/

/-- POWER_SET (R454, R575). -/
def execPowerSet (k : CoreNo) (s : State) : Host.Outcome State Fault Refusal :=
  act s (fun s => s.runCmd k.val 0x0802 (fun c s =>
    let n := c.f 3 12 8
    let v := (c.w 4).toNat
    let (f, i) : Field × Nat := match c.f 3 1 0 with
      | 0 => (R.PWR_RCTL_LIMIT, n)
      | 1 => (R.PWR_PCTL_LIMIT, n)
      | _ => (R.PWR_DCTL_LIMIT, 0)
    (s.wr f v i).ok k.val [w32 (s.rd f i)]))
/-- WAKE_RECORD (R454, R568). -/
def execWakeRecord (k : CoreNo) (s : State) : Host.Outcome State Fault Refusal :=
  act s (fun s => s.runCmd k.val 0x0803 (fun _ s =>
    s.ok k.val [w32 (s.regWord R.PWR_WAKE0.fields), w32 (s.regWord R.PWR_WAKE1.fields)]))

end Sys2Proof.Machine
end

