-- ==== Sys2Proof/Machine/Hlt.lean ====
section
/-! DEFINITION. The health manager: heartbeats and their judgement, the reserve swap, fences, ageing, and the reserves of PLL
and management core (R305–R307, R576–R594, R455). -/

namespace Sys2Proof.Machine

def State.getJudge (s : State) (e : Nat) : Judge := smGet s.hlt.judge {} e
def State.setJudge (s : State) (e : Nat) (j : Judge) : State := { s with hlt := { s.hlt with judge := smPut s.hlt.judge {} e j } }
/-- Index 33 r + p of a physical slot. -/
def physIdx (r p : Nat) : Nat := 33 * r + p
/-- The rope has a reserve that no swap has taken (R579, R585). -/
def State.hasReserve (s : State) (r : Nat) : Bool := s.rd R.ENG_RSTAT_RESV r != 0x3F && (smFind s.swap r).isNone
/-- The logical engine is carried and in service: its fence is open. -/
def State.inService (s : State) (e : Nat) : Bool := (s.physOf e).isSome && !s.swapping e
/-- A health fuse entry waits to be programmed (R593). -/
def State.fusePush (s : State) (f : HealthEnt) : State := { s with hlt := { s.hlt with fuseQ := s.hlt.fuseQ ++ [f] } }

/-! ## Heartbeats (R305–R307) -/

/-- HEARTBEAT_SEND (R305, R307): the heartbeat reaches the health manager in the same cycle. -/
def execHeartbeatSend (e : EngNo) (s : State) : Host.Outcome State Fault Refusal :=
  act s (fun s =>
    let e := e.toNat
    if !s.inService e then s
    else
      let x := s.getEng e
      let asleep := decide (2 ≤ s.erd R.ENG_STAT_PSTATE e)
      let b : Beat := { seq := x.hbSeq + 1, phys := s.erd R.ENG_STAT_PHYS e, asleep := asleep, chk := x.hbChk && !asleep, ok := x.hbOk,
                        par := x.hbPar, prog := x.hbRet || !(x.hbThr || x.thr.isSome) }
      let s := s.setEng e { x with hbSeq := b.seq, hbChk := false, hbOk := false, hbPar := false, hbRet := false,
                                   hbThr := x.thr.isSome }
      let j := s.getJudge e
      s.setJudge e { j with got := j.got ++ [b], prog := some b.prog })
/-- SELF_CHECK (R306): in cycles that issue nothing. -/
def execSelfCheck (e : EngNo) (pass : Bool) (s : State) : Host.Outcome State Fault Refusal :=
  act s (fun s =>
    let e := e.toNat
    let x := s.getEng e
    if s.inService e && decide (s.erd R.ENG_STAT_PSTATE e ≤ 1) && !s.issues e then
      s.setEng e { x with hbChk := true, hbOk := pass && (!x.hbChk || x.hbOk) }
    else s)

/-! ## The reserve swap (R579–R581, R585) -/

/-- HLT_SWAP.BUSY follows the swaps in progress. -/
def State.syncSwap (s : State) : State := s.wr R.HLT_SWAP_BUSY (b2n (!s.swap.isEmpty))
/-- HLT_SWAP shows a swap or its end. -/
def State.showSwap (s : State) (e old new result : Nat) : State :=
  let s := ((s.wr R.HLT_SWAP_ENGINE e).wr R.HLT_SWAP_OLDPHYS old).wr R.HLT_SWAP_NEWPHYS new
  (s.wr R.HLT_SWAP_RESULT result).syncSwap
/-- A physical slot is declared dead: its fence closes (R579, R599). -/
def State.slotDead (s : State) (i : Nat) : State :=
  if s.rd R.HLT_PSLOT_PSTATE i = 2 ∨ s.rd R.HLT_PSLOT_PSTATE i = 3 then s
  else (s.wr R.HLT_PSLOT_PSTATE 3 i).wr R.HLT_STAT_DEAD (s.rd R.HLT_STAT_DEAD + 1)
/-- Step 2: what logical engine e held is lost (R580); a cairn that enters HALTED contains a TK3200-compatible instance (R382). -/
def State.engineLost (s : State) (e : Nat) : State :=
  let x := s.getEng e
  let lost (s : State) (r : EndRec) : State :=
    let c := r.c
    let s := (((s.setLstat c 0x81).releaseBelay c).releaseOps r.ops).retireHeld c 7
    ((s.setCst c 8).contain (s.cInst c)).logMerged e { r with lstat := some 0x81, yield := none }
  let s := match x.thr, x.stalled with
    | some _, _ => lost s (s.mkRecord e (some 0x81) none true)
    | none, some r => lost s r
    | none, none => s
  let s := s.returnPref e
  let x := s.getEng e
  let s := s.setEng e { x with thr := none, stalled := none, wait := none, send := none, wbuf := [], entry := none, exit := none, step := false,
                               xact := false, nudge := false }
  let s := ((s.ewr R.ENG_DBG_HALTED 0 e).ewr R.ENG_DBG_HALTREQ 0 e).ewr R.ENG_DBG_STEP 0 e
  (s.ewr R.ENG_STAT_PSTATE 1 e).syncEng e
/-- The reflex bound is suspended for a rope (R225, R579). -/
def State.ropeSuspend (s : State) : State :=
  s.forN 16 (fun p s => s.suspendPairs p R.SCH_RFXSTAT_SUSP_SWAP s.swapSusp)
/-- Logical engine e stays uncarried: steps 2 and 6 without a remap (R581). -/
def State.uncarried (s : State) (e old result : Nat) : State :=
  let s := (s.wr R.HLT_EVT_NORESV 1).wr R.HLT_EVT_SWAP 1
  ((s.count R.HLT_CNT1_SWAPS).showSwap e old 0x3F result).fusePush (.retire (physIdx (ropeOf e) old) e none)
/-- RESERVE_SWAP, ENGINE_DECLARED_DEAD: logical engine e is declared dead (R577, R579, R581, R585). -/
def State.declareDead (s : State) (e : Nat) : State :=
  let r := ropeOf e
  let old := s.erd R.ENG_STAT_PHYS e
  let s := (s.slotDead (physIdx r old)).setJudge e {}
  if s.hasReserve r then
    let s := { s with swap := smIns s.swap r ⟨slotOf e, 3, s.rd R.ENG_RSTAT_RESV r⟩ }
    let s := ((s.wr R.ENG_RSTAT_SWAP 1 r).wr R.HLT_SWAP_FUSED 0).wr R.HLT_SWAP_COPYERR 0
    ((s.showSwap e old 0x3F 0).ropeSuspend).engineLost e
  else (s.engineLost e).uncarried e old 2
/-- SWAP_TOKEN_ACQUIRED (R579 step 3, R459). -/
def execSwapTokenAcquired (r : RopeNo) (s : State) : Host.Outcome State Fault Refusal :=
  act s (fun s =>
    let r := r.toNat
    match smFind s.swap r with
    | some x =>
      if x.step = 3 ∧ (smFind s.cmds.token r).isNone then
        { s.tokenTake r 5 0x7F false [] with swap := smIns s.swap r { x with step := 4 } }
      else s
    | none => s)

/-- Word offsets of the memories of physical engine i that hold anything, or whose next access is not plain. -/
def State.engWords (s : State) (i : Nat) : List Nat :=
  let mine (b : Nat) : Option Nat :=
    if saEngine i ≤ b ∧ b < saEngine i + 0x10000 ∧ (b - saEngine i < 0x4000 ∨ 0x8000 ≤ b - saEngine i) then
      some ((b - saEngine i) / 4)
    else none
  (s.mem.filterMap (fun e => mine e.1)) ++ (s.poison.filterMap (fun w => mine (4 * w))) ++
    (s.upset.filterMap (fun e => mine (4 * e.1)))
/-- Step 5: the memories of the old engine are copied into the reserve, or the reserve's are cleared (R579). -/
def State.copyEngine (s : State) (old new : Nat) : State :=
  if s.on R.HLT_CTL_COPY then
    s.forL ((s.engWords old ++ s.engWords new).foldl setAdd []) (fun w s =>
      let (v, p, s) := s.readWord (saEngine old + 4 * w)
      let s := s.storeWordP (saEngine new + 4 * w) v p
      if p then s.wr R.HLT_SWAP_COPYERR 1 else s)
  else s.forL ((s.engWords new).foldl setAdd []) (fun w s => s.storeWordP (saEngine new + 4 * w) 0 false)
/-- The rope's swap is over: SWAP = 0, the token is free and the reserve is used (R579 step 6). -/
def State.swapOver (s : State) (r : Nat) : State :=
  let s := { s with swap := smDel s.swap r }
  ((((s.wr R.ENG_RSTAT_RESV 0x3F r).wr R.HLT_STAT_RESLEFT (s.rd R.HLT_STAT_RESLEFT - 1)).wr R.ENG_RSTAT_SWAP 0 r).tokenFree r).syncSwap
/-- An ENGINE_RETIRE that waits for the swap of rope r replies (R455). -/
def State.retireReply (s : State) (r phys : Nat) : State :=
  match s.waiter (.retire r) with
  | some k => s.ok k [w32 phys]
  | none => s
/-- SWAP_SELF_CHECK_DONE (R579 steps 4 and 5, R581). -/
def execSwapSelfCheckDone (r : RopeNo) (pass : Bool) (s : State) : Host.Outcome State Fault Refusal :=
  act s (fun s =>
    let r := r.toNat
    match smFind s.swap r with
    | some x =>
      if x.step ≠ 4 then s
      else
        let e := 32 * r + x.slot
        let old := s.erd R.ENG_STAT_PHYS e
        if pass then
          { s.copyEngine (physIdx r old) (physIdx r x.newPhys) with swap := smIns s.swap r { x with step := 6 } }
        else
          let s := ((s.slotDead (physIdx r x.newPhys)).swapOver r).fusePush (.retire (physIdx r x.newPhys) e none)
          (s.uncarried e old 3).retireReply r 0x3F
    | none => s)
/-- SWAP_REMAP (R579 step 6): the reserve carries the logical slot from here on. -/
def execSwapRemap (r : RopeNo) (s : State) : Host.Outcome State Fault Refusal :=
  act s (fun s =>
    let r := r.toNat
    match smFind s.swap r with
    | some x =>
      if x.step ≠ 6 then s
      else
        let e := 32 * r + x.slot
        let old := s.erd R.ENG_STAT_PHYS e
        let i := physIdx r x.newPhys
        let s := ((s.ewr R.ENG_STAT_PHYS x.newPhys e).wr R.HLT_PSLOT_PSTATE 0 i).wr R.HLT_PSLOT_LOGICAL e i
        let s := (((s.swapOver r).wr R.HLT_EVT_SWAP 1).count R.HLT_CNT1_SWAPS).showSwap e old x.newPhys 1
        let s := (s.setJudge e {}).fusePush (.retire (physIdx r old) e (some x.newPhys))
        s.retireReply r x.newPhys
    | none => s)

/-! ## Judging (R576–R578) -/

/-- The misses that a period's heartbeats show by gaps in their sequence, and the last number (R576). -/
def gaps (last : Option Byte) (l : List Beat) : Nat × Option Byte :=
  l.foldl (fun (acc : Nat × Option Byte) b =>
    match acc.2 with
    | none => (acc.1, some b.seq)
    | some n => (acc.1 + (b.seq - n - 1).toNat, some b.seq)) (0, last)
/-- The class of a heartbeat, the first row that matches: 0 clean, 1 failed check, 2 parity (R576). -/
def Beat.cls (b : Beat) : Nat := if b.asleep then 0 else if b.chk && !b.ok then 1 else if b.par then 2 else 0
/-- A limit of HLT_JUDGE; 0 acts as 1. -/
def State.judgeLim (s : State) (f : Field) : Nat := max 1 (s.rd f)
/-- The counts of engine e have changed by a period that was not clean (R577, R578). -/
def State.judged (s : State) (e : Nat) (j : Judge) : State :=
  let s := if j.suspect then s else (s.wr R.HLT_EVT_SUSPECT 1).count R.HLT_CNT1_SUSPECT
  let s := s.setJudge e { j with suspect := true }
  if s.judgeLim R.HLT_JUDGE_MISSLIM ≤ j.miss ∨ s.judgeLim R.HLT_JUDGE_FAILLIM ≤ j.fail ∨ s.judgeLim R.HLT_JUDGE_PARLIM ≤ j.par then
    if s.on R.HLT_CTL_AUTOSWAP then s.declareDead e else s.wr R.HLT_EVT_SUSPECT 1
  else s
/-- HEARTBEAT_PERIOD_END (R576, R577). -/
def execHeartbeatPeriodEnd (e : EngNo) (s : State) : Host.Outcome State Fault Refusal :=
  act s (fun s =>
    let e := e.toNat
    let j := s.getJudge e
    let x := s.getEng e
    let halted := s.erd R.ENG_DBG_HALTED e == 1
    let (n, last) := gaps j.last j.got
    let s := s.setEng e { x with hbHalt := halted }
    let j' : Judge := { j with last := last, got := [] }
    if !s.on R.HLT_CTL_EN || !s.inService e || halted || x.hbHalt then s.setJudge e j'
    else
      let n := if j.got.isEmpty then 1 else n
      if n ≠ 0 then s.judged e { j' with miss := j.miss + n, fail := 0, par := 0 }
      else if j.got.any (fun b => b.cls == 1) then s.judged e { j' with fail := j.fail + 1, miss := 0, par := 0 }
      else if j.got.any (fun b => b.cls == 2) then s.judged e { j' with par := j.par + 1, miss := 0, fail := 0 }
      else s.setJudge e { j' with miss := 0, fail := 0, par := 0, suspect := false })

/-! ## Fences and fuses (R582, R593) -/

/-- Traffic dropped at a fence is counted, flagged and reported with an index: the rope, or 32 for a management core (R582, R592). -/
def State.fenced (s : State) (index : Nat) : State :=
  ((s.count R.HLT_CNT0_ZOMBIE).wr R.HLT_EVT_ZOMBIE 1).report (0x6000 + index) (0x6000 + index) 0x50
/-- FENCE_DROP (R582, R592): a request of a physical engine or a management core whose fence is closed. -/
def execFenceDrop (u : FenceUnit) (s : State) : Host.Outcome State Fault Refusal :=
  act s (fun s => match u with
    | .engine r p =>
      let i := physIdx r.toNat p.val
      if 2 ≤ s.rd R.HLT_PSLOT_PSTATE i then
        let s := s.wr R.HLT_PSLOT_ZDROPS (min 65535 (s.rd R.HLT_PSLOT_ZDROPS i + 1)) i
        (s.wr R.HLT_PSLOT_ALIVE 1 i).fenced r.toNat
      else s
    | .core k => if s.rd R.HLT_CSLOT_STATE k.val = 2 then s.fenced 32 else s)
/-- What a health fuse entry records, once it is programmed (R583, R584, R588, R591–R593). -/
def State.fuseApply (s : State) : HealthEnt → State
  | .retire i e p =>
    let f := { s.fuse with pstate := smIns s.fuse.pstate i 2 }
    let s := s.wr R.HLT_PSLOT_FUSED 1 i
    match p with
    | none => { s with fuse := f }
    | some p =>
      let k := physIdx (ropeOf e) p
      let s := { s with fuse := { f with pstate := smIns f.pstate k 0, carried := smIns f.carried e p } }.wr R.HLT_PSLOT_FUSED 1 k
      if s.rd R.HLT_SWAP_ENGINE = e ∧ s.rd R.HLT_SWAP_RESULT = 1 ∧ s.rd R.HLT_SWAP_NEWPHYS = p then s.wr R.HLT_SWAP_FUSED 1 else s
  | .reinstate i => { s with fuse := { s.fuse with pstate := smIns s.fuse.pstate i 1 } }.wr R.HLT_PSLOT_FUSED 1 i
  | .guardBand n => { s with fuse := { s.fuse with gbStep := n } }
  | .pll => ({ s with fuse := { s.fuse with c0ret := true } }.wr R.HLT_PLL_C0RET 1).wr R.HLT_PLL_RETIRE0 0
  | .core k => { s with fuse := { s.fuse with core := smIns (smIns s.fuse.core k 2) 4 0 } }
/-- HEALTH_FUSE_PROGRAMMED (R593): an entry for which nothing is left is not recorded. -/
def execHealthFuseProgrammed (s : State) : Host.Outcome State Fault Refusal :=
  act s (fun s =>
    match s.hlt.fuseQ with
    | [] => s
    | f :: l =>
      let s := { s with hlt := { s.hlt with fuseQ := l } }
      if s.fuse.left = 0 then (match f with | .pll => s.wr R.HLT_PLL_RETIRE0 0 | _ => s)
      else
        let n := s.fuse.left - 1
        let s := { s with fuse := { s.fuse with left := n } }.wr R.HLT_FUSE_LEFT n
        (if n = 8 then s.wr R.HLT_EVT_FUSELOW 1 else s).fuseApply f)

/-! ## Commands (R455, R584, R594) -/

/-- ENGINE_RETIRE (R455, R578, R581, R585). -/
def execEngineRetire (k : CoreNo) (s : State) : Host.Outcome State Fault Refusal :=
  act s (fun s => s.runCmd k.val 0x0901 (fun c s =>
    let e := c.f 3 9 0
    let r := ropeOf e
    if s.swapping e then s.fail k.val stBUSY (r * 256 + 5)
    else if !s.hasReserve r then s.fail k.val stNO_RESERVE 0
    else (s.declareDead e).cmdWait k.val (.retire r)))
/-- REINSTATE (R584). -/
def execReinstate (k : CoreNo) (s : State) : Host.Outcome State Fault Refusal :=
  act s (fun s => s.runCmd k.val 0x0902 (fun c s =>
    let r := c.f 3 4 0
    let p := c.f 3 10 5
    let i := physIdx r p
    let st := s.rd R.HLT_PSLOT_PSTATE i
    if st ≠ 2 then s.fail k.val stBAD_STATE st
    else if s.rd R.ENG_RSTAT_RESV r ≠ 0x3F then s.fail k.val stBAD_STATE 1
    else if s.fuse.left = 0 then s.fail k.val stNO_RESERVE 0
    else
      let s := (s.wr R.HLT_PSLOT_PSTATE 1 i).wr R.ENG_RSTAT_RESV p r
      let s := (s.wr R.HLT_STAT_RESLEFT (s.rd R.HLT_STAT_RESLEFT + 1)).wr R.HLT_STAT_DEAD (s.rd R.HLT_STAT_DEAD - 1)
      (s.fusePush (.reinstate i)).ok k.val [w32 p]))
/-- HEALTH_STATUS (R455, R594). -/
def execHealthStatus (k : CoreNo) (s : State) : Host.Outcome State Fault Refusal :=
  act s (fun s => s.runCmd k.val 0x0903 (fun _ s =>
    s.ok k.val [s.rdw R.HLT_STAT_RESLEFT, s.rdw R.MEM_FUSE_LEFT, s.rdw R.HLT_GBAND_STEP, s.rdw R.HLT_STAT_DEAD,
      s.rdw R.HLT_CNT0_ZOMBIE]))

/-! ## Ageing (R586–R589) -/

/-- Forward bias of a guard-band step, mV × 5, and its VDD_CORE request in mV (R587). -/
def gbBias (n : Nat) : Nat := 5 * min 4 n
def State.gbVreq (s : State) (n : Nat) : Nat := s.fuse.vbase + 10 * (n - 3)
/-- GUARD_BAND_STEP: the next step is requested (R587, R588). -/
def State.gbTake (s : State) : State :=
  let n := s.rd R.HLT_GBAND_STEP + 1
  let s := { s with hlt := { s.hlt with low := 0, settling := true } }
  ((s.wr R.HLT_GBAND_VREQ (s.gbVreq n)).wr R.HLT_EVT_AGE 1).fusePush (.guardBand n)
/-- AGE_MEASUREMENT (R586, R587, R589): the worst margin in ps, and its monitor. -/
def execAgeMeasurement (margin : Byte) (monitor : Byte) (s : State) : Host.Outcome State Fault Refusal :=
  act s (fun s =>
    let s := (s.wr R.HLT_AGESTAT_WORST margin.toNat).wr R.HLT_AGESTAT_WORSTMON monitor.toNat
    if s.rd R.HLT_AGECFG_MTH ≤ margin.toNat then { s with hlt := { s.hlt with low := 0 } }
    else
      let n := s.hlt.low + 1
      let s := { s with hlt := { s.hlt with low := n } }
      if s.rd R.HLT_GBAND_STEP = 7 then s.wr R.HLT_EVT_GBMAX 1
      else if max 1 (s.rd R.HLT_AGECFG_HOLD) ≤ n ∧ s.on R.HLT_CTL_AUTOGB ∧ ¬ s.hlt.settling then s.gbTake
      else s)
/-- GUARD_BAND_STEP_APPLIED (R588). -/
def execGuardBandStepApplied (s : State) : Host.Outcome State Fault Refusal :=
  act s (fun s =>
    if s.hlt.settling then
      let n := s.rd R.HLT_GBAND_STEP + 1
      ({ s with hlt := { s.hlt with settling := false } }.wr R.HLT_GBAND_STEP n).wr R.PWR_BIAS_RUNFBB (gbBias n)
    else s)

/-! ## Reserve PLL and reserve core (R591, R592) -/

/-- PLL_RETIRE (R591): HLT_PLL.RETIRE0. -/
def execPllRetire (fn : InstNo) (s : State) : Host.Outcome State Fault Refusal :=
  act s (fun s => s.gated fn.toNat R.HLT_PLL_RETIRE0.off (fun s =>
    if s.rd R.CLK_DSEL_CUR 0 = 2 ∧ ¬ s.on R.HLT_PLL_RETIRE0 then (s.wr R.HLT_PLL_RETIRE0 1).fusePush .pll else s))
/-- CORE_HEARTBEAT (R592, R599): core k itself writes its BEAT. -/
def execCoreHeartbeat (k : CoreNo) (s : State) : Host.Outcome State Fault Refusal :=
  act s (fun s =>
    if s.on R.CMD_STAT_FWRDY ∧ s.rd R.HLT_CSLOT_STATE k.val = 0 then
      { s with hlt := { s.hlt with beat := smIns s.hlt.beat k.val s.ns.toNat } }
    else s)
/-- CORE_HEARTBEAT_EXPIRY (R592, R442): three periods of 1,000 µs without a BEAT. -/
def execCoreHeartbeatExpiry (k : CoreNo) (s : State) : Host.Outcome State Fault Refusal :=
  act s (fun s =>
    let k := k.val
    if s.on R.CMD_STAT_FWRDY ∧ s.rd R.HLT_CSLOT_STATE k = 0 ∧ smGet s.hlt.beat 0 k + 3000000 ≤ s.ns.toNat then
      let s := ((s.wr R.HLT_CSLOT_STATE 2 k).wr R.CMD_EVT_CORELOST 1).fail k stINTERNAL 1
      if s.on R.HLT_CTL_CORESW && s.rd R.HLT_CSLOT_STATE 4 == 1 && !s.hlt.coreStart then
        { s with hlt := { s.hlt with coreStart := true } }.fusePush (.core k)
      else s
    else s)
/-- RESERVE_CORE_READY (R592). -/
def execReserveCoreReady (k : CoreNo) (s : State) : Host.Outcome State Fault Refusal :=
  act s (fun s =>
    if k.val = 4 ∧ s.hlt.coreStart then
      { s with hlt := { s.hlt with coreStart := false, beat := smIns s.hlt.beat 4 s.ns.toNat } }.wr R.HLT_CSLOT_STATE 0 4
        |>.wr R.CMD_STAT_RESCORE 1
    else s)

end Sys2Proof.Machine
end

