-- ==== Sys2Proof/Machine/HostPort.lean ====
section
/-! DEFINITION. Completions and completion timeouts of the reads of host memory (R360, R379, R385, R429, R445, R518). -/

namespace Sys2Proof.Machine

/-! ## What the configuration space presents (R361, R362, R595) -/

/-- Identification and memory of a function: its BAR0, in bytes, is its own or that of the SR-IOV capability; no other BAR and no
expansion ROM is implemented (R361). -/
structure PcieId where
  vendor : Nat
  device : Nat
  revision : Nat
  classCode : Nat
  bar0 : Nat
  deriving DecidableEq, Repr
/-- Identification of instance i's function (R361). -/
def State.pcieId (s : State) (i : Nat) : PcieId :=
  if i % 32 = 0 then ⟨s.fuse.vendor.toNat, 0x4610, s.fuse.step.toNat, 0x0C8000, 0x4000000⟩
  else ⟨0xFFFF, 0xFFFF, s.fuse.step.toNat, 0x0C8000, 0x10000⟩
/-- Capabilities with their fixed values (R362). -/
inductive Capability where
  | pciExpress (flr extTag tag10 : Bool) (maxPayload : Nat)
  | powerManagement (noSoftReset : Bool)
  | msix (tableSize tableOff pbaOff : Nat)
  | aer
  | sriov (initialVfs totalVfs numVfs firstOff stride device pageSizes : Nat) (vfEnable : Bool)
  | ari (next : Nat)
  | ats (depth : Nat)
  | pasid (width : Nat)
  | serial (lo hi : Word)
  | physical
  deriving DecidableEq, Repr
/-- The capabilities of instance i's function; NumVFs and VF Enable are those of its port (R362, R388). -/
def State.capabilities (s : State) (i : Nat) : List Capability :=
  let f := i % 32
  let h := i / 32
  let n := s.rd R.HPC_PSTAT_NUMVF h
  let o := if f = 0 then 0x3F00000 else 0
  let lo := w32 (s.fuse.lotLo.toNat % 256 * 2 ^ 24 + s.fuse.wafer.toNat * 2 ^ 16 + s.fuse.dieY.toNat * 2 ^ 8 + s.fuse.dieX.toNat)
  let hi := w32 (s.fuse.lotLo.toNat / 256 + s.fuse.lotHi.toNat % 256 * 2 ^ 24)
  [.pciExpress true true true 512, .powerManagement true, .msix 63 (o + 0x2000) (o + 0x3000), .aer,
   .ari (if f < n then f + 1 else 0), .ats 32, .pasid 20] ++
  (if f = 0 then [.sriov 31 31 n 1 1 0x4618 0x11 (s.on R.HPC_PSTAT_VFEN h), .serial lo hi, .physical] else [])

/-! ## Completions -/

/-- The read with a tag of host port h fails with a cause, 1 UR, 2 CA, 3 timeout (R360): a queue error, a bus error or
HOST_FAULT. -/
def State.readFail (s : State) (h t cause : Nat) (q : HostRead) : State :=
  let s := { s with hostReads := smDel s.hostReads (h * 1024 + t) }
  match q.who with
  | .wq c =>
    let x := s.getWq c
    (s.setWq c { x with reads := x.reads.filter (fun r => decide (r.tag ≠ t)) }).wqError c
  | .dma c =>
    let x := s.getChan c
    match x.reads.find? (fun r => r.tag == t && r.got.isNone) with
    | none => s
    | some r =>
      (s.setChan c { x with reads := x.reads.filter (fun r => decide (r.tag ≠ t) || r.got.isSome) }).busError c cause false r.addr
  | .cmd k =>
    match s.getCmd k with
    | some c => if c.wait = .hostRead ∧ c.tag = t then s.fail k stHOST_FAULT cause else s
    | none => s
/-- The data of a read with a tag of host port h arrives. -/
def State.readDone (s : State) (h t : Nat) (data : List Word) (ep : Bool) (q : HostRead) : State :=
  match q.who with
  | .wq c => s.ringArrive c t data ep
  | .dma c => s.dmaArrive h c t data ep
  | .cmd k =>
    let s := { s with hostReads := smDel s.hostReads (h * 1024 + t) }
    match s.getCmd k with
    | some c => if c.wait = .hostRead ∧ c.tag = t then s.codeArrive k c data ep else s
    | none => s
/-- HOST_READ_COMPLETION (R359, R360, R379, R385): a translation without access counts as UR; of a completion that answers no read,
EP is counted all the same. -/
def execHostReadCompletion (h : HostNo) (tag : Nat) (status : CplStatus) (data : List Word) (ep : Bool) (s : State) :
    Host.Outcome State Fault Refusal :=
  act s (fun s =>
    let h := h.toNat
    let s := s.poisonRx h ep
    match smFind s.hostReads (h * 1024 + tag) with
    | none => s
    | some q =>
      if 1024 ≤ tag then s
      else if q.flr then s.dropCpl h tag
      else match status with
          | .sc => (s.translated h q).readDone h tag data ep q
          | .ur => (s.wr R.HPC_ERR_UR 1 h).readFail h tag 1 q
          | .ca => (s.wr R.HPC_ERR_CA 1 h).readFail h tag 2 q
          | .noAccess => ((s.wr R.HPC_ERR_ATSFAIL 1 h).wr R.HPC_ERR_UR 1 h).readFail h tag 1 q)
/-- COMPLETION_TIMEOUT (R360, R379). -/
def execCompletionTimeout (h : HostNo) (tag : Nat) (s : State) : Host.Outcome State Fault Refusal :=
  act s (fun s =>
    let h := h.toNat
    match smFind s.hostReads (h * 1024 + tag) with
    | none => s
    | some q =>
      if 1024 ≤ tag then s
      else if q.flr then { s with hostReads := smDel s.hostReads (h * 1024 + tag) }
      else ((s.wr R.HPC_ERR_CTO 1 h).count R.HPC_CNT1_CTO h).readFail h tag 3 q)

end Sys2Proof.Machine
end

