-- ==== Sys2Proof/Machine/Rst.lean ====
section
/-! DEFINITION. Start-up and the resets: the power-on sequence, fuse load, BIST findings, authentication of the boot image,
firmware start, warm reset, exit from Off, firmware restart, engine and root port reset, and the I²C target (R548, R549,
R565, R600–R619, R629). -/

namespace Sys2Proof.Machine

/-- The outcome of a command of start-up: once the device operates, its cycle ends as any other's. -/
def startOut (s : State) : Host.Outcome State Fault Refusal := .next (if s.phase = .running then s.settle else s)

/-! ## Fuse load (R602) -/

/-- Slot of rope r that the fuse map leaves as its reserve; 0x3F where there is none (R266, R584). -/
def State.ropeReserve (s : State) (r : Nat) : Nat :=
  ((List.range 33).find? (fun p => s.rd R.HLT_PSLOT_PSTATE (physIdx r p) == 1)).getD 0x3F
/-- The engine mapping of the fuse map (R266, R583, R602). -/
def State.fuseMapping (s : State) : State :=
  let s := s.forL s.fuse.pstate (fun e s => (s.wr R.HLT_PSLOT_PSTATE e.2 e.1).wr R.HLT_PSLOT_FUSED 1 e.1)
  let s := s.forL s.fuse.carried (fun e s => (s.ewr R.ENG_STAT_PHYS e.2 e.1).wr R.HLT_PSLOT_LOGICAL e.1 (physIdx (ropeOf e.1) e.2))
  let s := s.forL ((s.fuse.pstate.map (fun e => e.1 / 33)).foldl setAdd []) (fun r s => s.wr R.ENG_RSTAT_RESV (s.ropeReserve r) r)
  let s := s.wr R.HLT_STAT_RESLEFT ((List.range 32).filter (fun r => s.rd R.ENG_RSTAT_RESV r != 0x3F)).length
  s.wr R.HLT_STAT_DEAD (s.fuse.pstate.filter (fun e => decide (2 ≤ e.2))).length
/-- What start-up loads from the fuse map beside the mapping (R593, R595, R602, R616). -/
def State.fuseLoad (s : State) : State :=
  let f := s.fuse
  let s := (s.wr R.GLB_ID_STEP f.step.toNat).wr R.HLT_ID0_LOT_LO f.lotLo.toNat
  let s := (s.wr R.HLT_ID1_LOT_HI f.lotHi.toNat).wr R.HLT_ID1_WAFER f.wafer.toNat
  let s := (s.wr R.HLT_ID2_DIEX f.dieX.toNat).wr R.HLT_ID2_DIEY f.dieY.toNat
  let s := s.wr R.MEM_FUSE_LEFT (512 - (f.field.map (·.2)).sum)
  let s := (s.wr R.HLT_GBAND_STEP f.gbStep).wr R.HLT_GBAND_VREQ (s.gbVreq f.gbStep)
  let s := (s.wr R.PWR_BIAS_RUNFBB (gbBias f.gbStep)).wr R.PWR_BIAS_SLPRBB f.slprbb.toNat
  let s := (s.wr R.PWR_BIAS_DEEPSB f.deepsb.toNat).wr R.PWR_BIAS_RETSB f.retsb.toNat
  let s := (s.wr R.HLT_PLL_C0RET (b2n f.c0ret)).wr R.HLT_FUSE_LEFT f.left
  let s := s.forL f.core (fun e s => s.wr R.HLT_CSLOT_STATE e.2 e.1)
  s.wr R.CMD_STAT_RESCORE (b2n (s.rd R.HLT_CSLOT_STATE 4 == 0))
/-- Step 2 of R601: the PLLs that run at reset are locked and ready. -/
def State.pllsUp (s : State) : State :=
  s.forN 8 (fun l s => if s.on R.CLK_PLLCTL_EN l then (s.wr R.CLK_PLLSTAT_LOCK 1 l).wr R.CLK_PLLSTAT_READY 1 l else s)
/-- Each PCIe port trains its link from the end of step 3 (R604). -/
def State.pcieUp (s : State) : State := s.emits ((List.range 4).map .pcieTrain)

/-! ## BIST and checker test (R490, R603) -/

/-- BIST could not repair a memory of physical slot p of rope r: the slot is fenced, and the reserve carries its logical
engine as after a swap with COPY = 0 (R603). -/
def State.bistEngine (s : State) (r p : Nat) : State :=
  let i := physIdx r p
  let e := s.rd R.HLT_PSLOT_LOGICAL i
  match s.rd R.HLT_PSLOT_PSTATE i with
  | 1 =>
    let s := ((s.slotDead i).wr R.ENG_RSTAT_RESV 0x3F r).wr R.HLT_STAT_RESLEFT (s.rd R.HLT_STAT_RESLEFT - 1)
    s.fusePush (.retire i e none)
  | 0 =>
    let s := s.slotDead i
    let q := s.rd R.ENG_RSTAT_RESV r
    if q = 0x3F then s.uncarried e p 2
    else
      let k := physIdx r q
      let s := ((s.ewr R.ENG_STAT_PHYS q e).wr R.HLT_PSLOT_PSTATE 0 k).wr R.HLT_PSLOT_LOGICAL e k
      let s := (s.wr R.ENG_RSTAT_RESV 0x3F r).wr R.HLT_STAT_RESLEFT (s.rd R.HLT_STAT_RESLEFT - 1)
      let s := ((s.wr R.HLT_EVT_SWAP 1).count R.HLT_CNT1_SWAPS).showSwap e p q 1
      s.fusePush (.retire i e (some q))
  | _ => s
/-- MEMORY_BIST: failing reserves first, then the lowest logical engine (R585, R603). -/
def State.bist (s : State) (b : BootInput) : State :=
  let s := (s.wr R.GLB_BIST_SOFT b.soft.toNat).wr R.GLB_BIST_GFAIL b.gfail.toNat
  let s := { s.wr R.GLB_BISTROPE_FAIL b.ropeFail.toNat with boot := { s.boot with soft := b.soft.toNat } }
  let l := b.engFail.map (fun e => (e.1.toNat, e.2.val))
  let s := s.forL (l.filter (fun e => s.rd R.HLT_PSLOT_PSTATE (physIdx e.1 e.2) == 1)) (fun e s => s.bistEngine e.1 e.2)
  s.forN 1024 (fun e s =>
    if l.contains (ropeOf e, s.erd R.ENG_STAT_PHYS e) && (s.physOf e).isSome then s.bistEngine (ropeOf e) (s.erd R.ENG_STAT_PHYS e)
    else s)
/-- POR_CHECKER_TEST (R490). -/
def State.checkAll (s : State) (b : BootInput) : State :=
  s.forN 36 (fun g s => s.checked g (if g < 32 then b.chk0.getLsbD g else b.chk1.getLsbD (g - 32)))

/-! ## Boot image (R605–R608) -/

/-- The checks of order 2 on a header. -/
def headerOk (h : List Word) : Bool :=
  let w (n : Nat) : Word := h.getD n 0
  let n := (w 2).toNat
  let zero (a b : Nat) : Bool := (List.range (b + 1 - a)).all (fun k => w (a + k) == 0)
  w 0 == 0x544B4657 && w 1 == 0x00010200 && decide (64 ≤ n) && decide (n ≤ 983040) && n % 64 == 0 &&
  bits (w 4) 31 8 == 0 && zero 5 7 && zero 11 15 && zero 64 127
/-- The failure code of an image, none where it passes (R608). -/
def State.imageCode (s : State) (img : Option BootImage) : Option Nat :=
  match img with
  | none => some 1
  | some i =>
    if !headerOk i.header then some 2
    else
      let w (n : Nat) : Word := i.header.getD n 0
      let key := (i.header.drop 16).take 24
      let sig := (i.header.drop 40).take 24
      let body := i.body.take ((w 2).toNat / 4)
      if Config.sha384 (wordsBytes key) ≠ s.fuse.keyHash then some 3
      else if bits (w 4) 7 0 < s.fuse.svnFloor.toNat then some 4
      else if !Config.ecdsaOk key sig (Config.sha384 (wordsBytes (i.header.take 40 ++ body))) then some 5
      else none
/-- The ROM loads the body of an image into the firmware region, where its header gives the length (R606). -/
def State.loadBody (s : State) (img : Option BootImage) : State :=
  match img with
  | some i =>
    if headerOk i.header then
      s.storeWords (saList 0x700000) ((i.body.take ((i.header.getD 2 0).toNat / 4)).map (fun w => (w, false)))
    else s
  | none => s
/-- List memory or the cairn group has failed BIST or its checker test: boot stops (R608). -/
def State.bootBarred (s : State) : Bool :=
  s.rd R.GLB_BIST_GFAIL % 4 != 0 || s.rd R.MEM_CHKSTAT1_FAIL % 4 != 0
/-- Boot stops with a code. -/
def State.bootFail (s : State) (code : Nat) : State := (s.wr R.GLB_BOOTSTAT_FAIL 1).wr R.GLB_BOOTSTAT_CODE code

/-! ## Firmware start (R609) -/

/-- Action 1: ENG runs from CPLL1 where CPLL0 is retired (R591). -/
def State.fwClock (s : State) : State :=
  if s.on R.HLT_PLL_C0RET ∧ s.rd R.CLK_DSEL_CUR 0 ≠ 2 then
    let s := (s.wr R.CLK_PLLCTL_EN 1 1).wr R.CLK_PLLSTAT_LOCK 1 1
    let s := (s.wr R.CLK_PLLSTAT_READY 1 1).wr R.CLK_DSEL_SRC 2 0
    (s.wr R.CLK_DSEL_CUR 2 0).count R.CLK_CNT_SWITCH
  else s
/-- Action 2: ropes with a failure leave dispatch. -/
def State.fwRopes (s : State) : State :=
  let bad (r : Nat) : Bool := nbit (s.rd R.MEM_CHKSTAT0_FAIL) r || nbit (s.rd R.GLB_BISTROPE_FAIL) r
  let s := s.forN 32 (fun r s =>
    if bad r then
      (s.forN 32 (fun k s => (((s.wr R.ENG_CTL_CLOAD 1 r k).returnPref (32 * r + k)).syncEng (32 * r + k)))).wr
        R.GLB_BOOTSTAT_DEGRADED 1
    else s)
  if 4 ≤ s.rd R.GLB_BIST_GFAIL then s.wr R.GLB_BOOTSTAT_DEGRADED 1 else s
/-- A value of MEM_CTL is written; ILV takes effect only while both channels have EN = 0 (R471). -/
def State.memCtl (s : State) (val : Word) : State :=
  let s := s.wr R.MEM_CTL_AUTOREP (bits val 4 4)
  if s.on R.MEM_DDRCFG_EN 0 || s.on R.MEM_DDRCFG_EN 1 then s else s.wr R.MEM_CTL_ILV (bits val 8 8)
/-- Action 3: MEMCTL, and DDRCFG of the channels whose checker test passed. -/
def State.fwMem (s : State) (h : List Word) : State :=
  let s := s.memCtl (h.getD 10 0)
  s.forN 2 (fun ch s => if nbit (s.rd R.MEM_CHKSTAT1_FAIL) (2 + ch) then s else s.ddrCfg ch (h.getD (8 + ch) 0))
/-- Action 4: BOOTID takes another value, which one is not stated (R464, R609). -/
def State.fwBootId (s : State) : State :=
  let (w, s) := s.draw
  let old := s.rd R.GLB_BOOTID_BOOTID
  let s := s.wr R.GLB_BOOTID_BOOTID (if w.toNat = old then old + 1 else w.toNat)
  { s with cmds := { s.cmds with seq := [] } }
/-- FIRMWARE_START (R609). -/
def State.fwStart (s : State) (img : BootImage) : State :=
  let s := ((s.fwClock.fwRopes).fwMem img.header).fwBootId
  let s := { s with boot := { s.boot with version := img.header.getD 3 0 },
                    hlt := { s.hlt with beat := (List.range 5).map (fun k => (k, s.ns.toNat)) } }
  s.wr R.CMD_STAT_FWRDY 1
/-- BOOT_AUTHENTICATION and what follows it: the primary image, then the secondary (R608, R609). -/
def State.bootImages (s : State) (b : BootInput) : State :=
  if s.bootBarred then s.bootFail 6
  else
    let s := s.loadBody b.primary
    match s.imageCode b.primary, b.primary with
    | none, some i => (s.wr R.GLB_BOOTSTAT_DONE 1).fwStart i
    | _, _ =>
      let s := (s.wr R.GLB_BOOTSTAT_SLOT 1).loadBody b.secondary
      match s.imageCode b.secondary, b.secondary with
      | none, some i => (s.wr R.GLB_BOOTSTAT_DONE 1).fwStart i
      | some k, _ => s.bootFail k
      | none, none => s
/-- Steps 4 to 8 of R601. -/
def State.startUp (s : State) (b : BootInput) : State :=
  (({ s with phase := .running }.bist b).checkAll b).bootImages b

/-! ## Power-on (R549, R600, R601) -/

/-- POWER_ON_RESET (R601, R610, R613): everything but the fuses is cleared. -/
def execPowerOnReset (s : State) : Host.Outcome State Fault Refusal :=
  .next { State.reset with pending := s.pending, fuse := s.fuse, boot := { warmPin := s.boot.warmPin }, out := s.out, free := s.free }
/-- PORST_RELEASE (R600, R601): STRAP_SAMPLE. -/
def execPorstRelease (oscDly : BitVec 3) (mgr : HostNo) (s : State) : Host.Outcome State Fault Refusal :=
  startOut (if s.phase = .held then
      let s := ({ s with phase := .oscDelay }.wr R.GLB_STRAP_OSC_DLY oscDly.toNat).wr R.GLB_STRAP_MGR_PORT mgr.toNat
      s.forN 4 (fun h s => s.wr R.VIM_FID_MGR (b2n (h == mgr.toNat)) (32 * h))
    else s)
/-- OSC_DELAY_EXPIRY (R549, R601): WARMRST_N low holds the sequence at the end of step 3 (R613). -/
def execOscDelayExpiry (b : BootInput) (s : State) : Host.Outcome State Fault Refusal :=
  startOut (if s.phase = .oscDelay then
      let s := ((s.pllsUp.fuseMapping).fuseLoad).pcieUp
      if s.boot.warmPin then { s with phase := .heldStep3 } else s.startUp b
    else s)

/-! ## Warm reset and exit from Off (R565, R610, R613, R618, R619) -/

/-- Registers that a warm reset keeps: straps, the AON registers of PWR, the engine mapping with its dead slots, and the
trained settings of the DDR channels. -/
def warmKept (k : Nat) : Bool :=
  let off := k / 32
  let lo := k % 32
  let one (f : Field) (i : Nat) : Bool := k == f.key i 0
  let rope (f : Field) : Bool :=
    lo == f.lo && decide (f.base ≤ off) && decide (off < f.base + 32 * f.s1) &&
    (if f.s2 = 0 then (off - f.base) % f.s1 == 0
     else (off - f.base) % f.s1 % f.s2 == 0 && decide ((off - f.base) % f.s1 < 32 * f.s2))
  (List.range 4).any (fun h => one R.VIM_FID_MGR (32 * h)) || one R.GLB_STRAP_OSC_DLY 0 || one R.GLB_STRAP_MGR_PORT 0 || one R.PWR_DCTL_OFFDLY 0 || one R.PWR_DCTL_LIMIT 0 || one R.HLT_GBAND_VREQ 0 ||
  (decide (R.PWR_WAKE0_VALID.base ≤ off) && decide (off ≤ R.PWR_WAKEEN_GPIO.base)) || off == R.HLT_STAT_DEAD.base ||
  (decide (R.HLT_PSLOT_PSTATE.base ≤ off) && decide (off < R.HLT_PSLOT_PSTATE.base + 4 * 1056) &&
    (lo == R.HLT_PSLOT_PSTATE.lo || lo == R.HLT_PSLOT_FUSED.lo || lo == R.HLT_PSLOT_LOGICAL.lo)) ||
  rope R.ENG_STAT_PHYS || rope R.ENG_RSTAT_RESV ||
  one R.MEM_CTL_ILV 0 || off == R.MEM_STAT_DDR0RDY.base || one R.CLK_PLLCTL_N 3 ||
  [0, 1].any (fun ch => [R.MEM_DDRCFG_SPEED, R.MEM_DDRCFG_DENS, R.MEM_DDRCFG_WIDTH, R.MEM_DDRCFG_RANKS, R.MEM_DDRCFG_EN,
    R.MEM_DDRSIZE_SIZE, R.MEM_DDRSTAT_TRAINED, R.MEM_DDRSTAT_HOT].any (fun f => one f ch))
/-- A swap that a warm reset cuts off leaves its engine uncarried; its entry is still fused. -/
def State.swapCut (s : State) : List HealthEnt :=
  s.swap.map (fun e =>
    let n := 32 * e.1 + e.2.slot
    .retire (physIdx e.1 (s.erd R.ENG_STAT_PHYS n)) n none)
/-- What a warm reset leaves (R610, R618, R619), with its cause (R616); device time and PTU_CTL.EN are kept (R565, R610). -/
def State.warmClear (s : State) (cause : Nat) (t : Time80) (en : Bool) : State :=
  let inDdr (a : Nat) : Bool := decide (0x8000000000 ≤ a)
  let n : State :=
    { State.reset with pending := s.pending, phase := .warmHeld, regs := s.regs.filter (fun (e : Nat × Nat) => warmKept e.1),
                       mem := s.mem.filter (fun (e : Nat × Byte) => inDdr e.1),
                       poison := s.poison.filter (fun (w : Nat) => inDdr (4 * w)),
                       upset := s.upset.filter (fun (e : Nat × Nat) => inDdr (4 * e.1)), fuse := s.fuse,
                       hlt := { fuseQ := s.hlt.fuseQ ++ s.swapCut }, boot := { warmPin := s.boot.warmPin },
                       ddr := { s.ddr with train := [] }, out := s.out, free := s.free }
  ((n.setTime t).wr R.PTU_CTL_EN (b2n en)).wr R.GLB_RSTCAUSE_CAUSE cause
/-- Steps 2 to 8 of R601 after a warm reset; WARMRST_N low lasts it out (R610, R619). -/
def State.warmUp (s : State) (b : BootInput) : State :=
  if s.boot.warmPin then s else ((s.pllsUp.fuseLoad).pcieUp).startUp b
/-- Device time at the end of a warm reset that does not come from Off: how long it lasted is not stated (R610, R619). -/
def State.warmTime (s : State) : Time80 × State :=
  let (w, s) := s.draw
  (s.time + BitVec.ofNat 80 (20 * 65536 * w.toNat), s)
/-- WARM_RESET_PIN (R613, R619). -/
def execWarmResetPin (s : State) : Host.Outcome State Fault Refusal :=
  let s := { s with boot := { s.boot with warmPin := true } }
  startOut (if s.phase = .running then let (t, s) := s.warmTime; s.warmClear 1 t (s.on R.PTU_CTL_EN) else s)
/-- WARM_RESET_RELEASE (R613, R619). -/
def execWarmResetRelease (b : BootInput) (s : State) : Host.Outcome State Fault Refusal :=
  let s := { s with boot := { s.boot with warmPin := false } }
  startOut (match s.phase with
    | .warmHeld => s.warmUp b
    | .heldStep3 => s.startUp b
    | _ => s)
/-- WARM_RESET_REQUEST (R610): GLB_CTL.WARMRST. -/
def execWarmResetRequest (fn : InstNo) (b : BootInput) (s : State) : Host.Outcome State Fault Refusal :=
  startOut (if s.phase = .running then
      s.gated fn.toNat R.GLB_CTL_WARMRST.off (fun s =>
        let (t, s) := s.warmTime
        (s.warmClear 2 t (s.on R.PTU_CTL_EN)).warmUp b)
    else s)
/-- A wake source is enabled (R568). -/
def State.wakeOn (s : State) : WakeSrc → Bool
  | .wakeN => true
  | .i2c => s.on R.PWR_WAKEEN_I2C
  | .gpio n => nbit (s.rd R.PWR_WAKEEN_GPIO) n.toNat
/-- Cause code of a wake source (R568). -/
def wakeCode : WakeSrc → Nat
  | .wakeN => 9
  | .i2c => 10
  | .gpio _ => 11
/-- OFF_WAKE (R565, R568): `elapsed` is the count of reference cycles in Off. A wake that meets the entry into Off abandons it: the
quiet time starts again (R567). -/
def execOffWake (src : WakeSrc) (elapsed : BitVec 64) (b : BootInput) (s : State) : Host.Outcome State Fault Refusal :=
  startOut (if s.phase = .off ∧ s.wakeOn src then
      let t := s.pwr.offTime + BitVec.ofNat 80 (20 * 65536 * elapsed.toNat)
      let s := (s.warmClear 3 t s.pwr.offEn).wakeRec 0 4 (wakeCode src) 0 (t.toNat / 65536 % 2 ^ 32)
      let s := ((s.wr R.PWR_OFFWAKE0_VALID 1).wr R.PWR_OFFWAKE0_KIND 0).wr R.PWR_OFFWAKE0_FROM 4
      let s := ((s.wr R.PWR_OFFWAKE0_CAUSE (wakeCode src)).wr R.PWR_OFFWAKE0_INDEX 0).wr R.PWR_OFFWAKE1_TIME
        (t.toNat / 65536 % 2 ^ 32)
      (s.wr R.PWR_EVT_OFFWAKE 1).warmUp b
    else if s.phase = .running ∧ s.wakeOn src then { s with pwr := { s.pwr with offFrom := none } }
    else s)

/-! ## Firmware restart (R610) -/

/-- What the restarted cores drop: commands reply ABORTED, and enumerations and firmware transactions end (R610). -/
def State.fwDrop (s : State) : State :=
  let s := s.forN 5 (fun k s => s.fail k stABORTED 0)
  s.forN 16 (fun p s =>
    let x := s.getPort p
    let s := if x.enum.isSome then s.wr R.EWZ_ENUM_DEFOPEN 0 p else s
    s.setPort p { x with enum := none, fw := [] })
/-- FIRMWARE_RESTART (R610): GLB_CTL.FWRST. -/
def execFirmwareRestart (fn : InstNo) (b : BootInput) (s : State) : Host.Outcome State Fault Refusal :=
  startOut (if s.phase = .running then
      s.gated fn.toNat R.GLB_CTL_FWRST.off (fun s =>
        let s := (s.wr R.CMD_STAT_FWRDY 0).fwDrop
        let s := (s.wr R.GLB_RSTCAUSE_CAUSE 4).forL R.GLB_BOOTSTAT.fields (fun f s => s.wr f 0)
        s.bootImages b)
    else s)

/-! ## Engine and root port reset (R611, R612) -/

/-- ENGINE_RESET (R611): GLB_ENGRST.GO with ENGINE. -/
def execEngineReset (fn : InstNo) (e : EngNo) (s : State) : Host.Outcome State Fault Refusal :=
  act s (fun s => s.gated fn.toNat R.GLB_ENGRST_GO.off (fun s =>
    let e := e.toNat
    let s := s.wr R.GLB_ENGRST_ENGINE e
    if (smFind s.swap (ropeOf e)).isSome || (s.physOf e).isNone then s.wr R.GLB_ENGRST_RESULT 2
    else
      let s := s.engineLost e
      let x := s.getEng e
      let s := s.setEng e { cbuf := x.cbuf, hbSeq := x.hbSeq, hbHalt := x.hbHalt, hbThr := x.hbThr, hbRet := x.hbRet }
      (s.syncEng e).wr R.GLB_ENGRST_RESULT 1))

/-- A PACKET operand in the buffer of root port p (R235). -/
def packetOf (p : Nat) (w0 w1 : Word) : Bool := bits w1 31 28 == 1 && bits w0 31 28 == p
/-- The PACKET operands of port p leave slot k of cairn c; the others close up (R612). -/
def State.portDropSlot (s : State) (p c k : Nat) : State :=
  let l := (List.range (s.cCnt c k)).map (fun n => s.opAt c k n)
  let keep := l.filter (fun o => !packetOf p o.1 o.2)
  if keep.length = l.length then s
  else
    let s := s.forL (l.filter (fun o => packetOf p o.1 o.2)) (fun o s => s.orphan o.1 o.2)
    let s := (keep.foldl (fun (acc : Nat × State) o =>
      let a := acc.2.opSa c k ((acc.2.cHead c k + acc.1) % max 1 (acc.2.cDepth c k))
      (acc.1 + 1, (acc.2.storeWord a o.1).storeWord (a + 4) o.2)) (0, s)).2
    s.cwSet c 5 (4 * k + 3) (4 * k) keep.length
/-- A thread, running or to come, or a record holds a PACKET operand of port p (R236, R612). -/
def State.portHeld (s : State) (p : Nat) : Bool :=
  let has (l : List Opd) : Bool := l.any (fun o => packetOf p o.w0 o.w1)
  s.eng.any (fun e =>
    (match e.2.thr with | some t => has t.ops | none => false) || (match e.2.pref with | some t => has t.ops | none => false) ||
    (match e.2.cbuf with | some t => has t.ops | none => false) || (match e.2.stalled with | some t => has t.ops | none => false))
/-- Register fields of port p's EWZ and SCH windows, except GEN of the address table and the lost list (R612). -/
def portKey (p k : Nat) : Bool :=
  let off := k / 32
  let ewz := 0x400000 + p * 0x10000
  let sch := 0x500000 + p * 0x1000
  let gen := decide (0x100 ≤ off - ewz) && decide (off - ewz < 0x100 + 128 * 8) && (off - ewz) % 8 == 0 && k % 32 == R.EWZ_ADDRTAB0_GEN.lo
  let lost := decide (0x800 ≤ off - ewz) && decide (off - ewz < 0x800 + 64 * 0x20)
  (decide (ewz ≤ off) && decide (off < ewz + 0x10000) && !gen && !lost) || (decide (sch ≤ off) && decide (off < sch + 0x1000))
/-- ROOT_PORT_RESET (R612, R613): GLB_PORTRST.GO. -/
def execRootPortReset (fn : InstNo) (p : PortNo) (s : State) : Host.Outcome State Fault Refusal :=
  act s (fun s => s.gated fn.toNat R.GLB_PORTRST_GO.off (fun s =>
    let p := p.toNat
    if s.on R.EWZ_CTL_EN p || s.on R.SCH_CTL_EN p then
      s.wr R.GLB_PORTRST_REFUSED (setBits (s.rdw R.GLB_PORTRST_REFUSED) p p 1).toNat
    else
      let s := s.forL s.usedCairns (fun c s => s.forN 8 (fun k s => s.portDropSlot p c k))
      let x := s.getPort p
      let s := { s with regs := s.regs.filter (fun (e : Nat × Nat) => !portKey p e.1) }
      let s := s.setPort p { retired := x.retired, lostAge := x.lostAge, latSeen := x.latSeen }
      s.wr R.GLB_PORTRST_GO (setBits (s.rdw R.GLB_PORTRST_GO) p p 1).toNat))
/-- ROOT_PORT_RESET_DONE (R612). -/
def execRootPortResetDone (p : PortNo) (s : State) : Host.Outcome State Fault Refusal :=
  act s (fun s =>
    let p := p.toNat
    if nbit (s.rd R.GLB_PORTRST_GO) p && !s.portHeld p then
      s.wr R.GLB_PORTRST_GO (setBits (s.rdw R.GLB_PORTRST_GO) p p 0).toNat
    else s)

/-! ## The I²C target (R629) -/

/-- The target answers: from the end of step 3, and in Off; not while WARMRST_N is low, which releases SDA (R565, R614, R617). -/
def State.i2cOn (s : State) : Bool := s.phase == .running || s.phase == .off
/-- I2C_WRITE (R629). -/
def execI2cWrite (index : Byte) (s : State) : Host.Outcome State Fault Refusal :=
  .next (if s.i2cOn then { s with boot := { s.boot with i2cIdx := index } } else s)
/-- First index, bytes and value of the field that holds an index; `none` where nothing is listed (R629). -/
def State.i2cField (s : State) (i temp sensor : Nat) : Option (Nat × Nat × Nat) :=
  let reg (a : Nat) (r : RegD) : Option (Nat × Nat × Nat) := some (a, 4, s.regWord r.fields)
  if i < 0x04 then reg 0x00 R.GLB_ID
  else if i < 0x08 then reg 0x04 R.GLB_BOOTSTAT
  else if i < 0x0C then reg 0x08 R.CMD_STAT
  else if i = 0x0C then some (0x0C, 1, if s.phase = .off then 4 else s.rd R.PWR_DCTL_STATE)
  else if i = 0x0D then some (0x0D, 1, s.rd R.HLT_GBAND_STEP)
  else if i = 0x10 ∨ i = 0x11 then some (0x10, 2, temp)
  else if i = 0x12 then some (0x12, 1, sensor)
  else if 0x14 ≤ i ∧ i < 0x18 then reg 0x14 R.HLT_ID0
  else if 0x18 ≤ i ∧ i < 0x1C then reg 0x18 R.HLT_ID1
  else if 0x1C ≤ i ∧ i < 0x20 then reg 0x1C R.HLT_ID2
  else if 0x20 ≤ i ∧ i < 0x24 then reg 0x20 R.PWR_OFFWAKE0
  else if 0x24 ≤ i ∧ i < 0x28 then reg 0x24 R.PWR_OFFWAKE1
  else none
/-- In Off the fields other than the device state and the wake record read 0xFF. -/
def offReads (i : Nat) : Bool := decide (i ≠ 0x0C) && decide (i < 0x20)
/-- The byte at index i, and the latch of its field when it is the lowest (R629). -/
def State.i2cByte (s : State) (i temp sensor : Nat) : Byte × State :=
  match s.i2cField i temp sensor with
  | none => (0, s)
  | some (a, n, v) =>
    if s.phase = .off ∧ offReads i then (0xFF, s)
    else if i = a then
      let l := (List.range (n - 1)).foldl (fun (m : SMap Byte) k => smIns m (a + 1 + k) (BitVec.ofNat 8 (v / 2 ^ (8 * (k + 1))))) s.boot.i2cLatch
      (BitVec.ofNat 8 v, { s with boot := { s.boot with i2cLatch := l } })
    else ((smFind s.boot.i2cLatch i).getD (BitVec.ofNat 8 (v / 2 ^ (8 * (i - a)))), s)
/-- I2C_READ (R629): one byte, and the index advances. -/
def execI2cRead (hottest : BitVec 16) (sensor : BitVec 3) (s : State) : Host.Outcome State Fault Refusal :=
  .next (if s.i2cOn then
      let (b, s) := s.i2cByte s.boot.i2cIdx.toNat hottest.toNat sensor.toNat
      { s with boot := { s.boot with i2cIdx := s.boot.i2cIdx + 1 } }.emit (.i2c b)
    else s)

end Sys2Proof.Machine
end

