-- ==== Sys2Proof/Machine/RegAccess.lean ====
section
/-! DEFINITION. Register writes that have no row of their own, and the reads and aperture writes with side effects
(R3–R16, R199, R228, R230, R385). -/

namespace Sys2Proof.Machine

/-! ## One register (R3–R8) -/

/-- Indices of register `r` at BAR0 offset `off`, where it stands there. -/
def RegD.locate (r : RegD) (off : Nat) : Option (Nat × Nat) :=
  if off < r.base then none
  else
    let d := off - r.base
    let i := if r.s1 = 0 then 0 else d / r.s1
    let j := if r.s2 = 0 then 0 else (d - i * r.s1) / r.s2
    if i < r.n1 ∧ j < r.n2 ∧ i * r.s1 + j * r.s2 = d then some (i, j) else none
/-- The register at a BAR0 offset, with its indices (R13). -/
def regAt (off : Nat) : Option (RegD × Nat × Nat) :=
  regTable.findSome? (fun r => (r.locate off).map (fun x => (r, x.1, x.2)))

/-- The fields whose writes are commands of their own: REGISTER_WRITE leaves them (log entry 14). -/
def ownRow : List Field :=
  [R.PTU_CTL_TSTEP, R.PTU_CTL_TLOAD, R.PTU_TINC_INC, R.PTU_TRKCTL_PRESET, R.PTU_MKTGT1_TGT_HI, R.PTU_MKSTEP1_STEP,
   R.PTU_PFRM_FEN, R.PTU_PFRM_FMAX, R.PTU_PFRM_FMIN, R.PTU_PFNUM_FNUM] ++
  [R.EWZ_CTL_SUSPREQ, R.EWZ_CTL_RESUME, R.EWZ_CTL_FORCERT, R.EWZ_CTL_RESET, R.EWZ_CTL_EN, R.SCH_CTL_LISTSYNC,
   R.SCH_CANCEL_GO, R.SCH_CANCEL_ADDR, R.TSC_CMD_GO, R.TSC_CMD_OP, R.TSC_CMD_CAIRN, R.TSC_ROPECFG_RFXN] ++
  [R.ENG_CTL_CLOAD, R.ENG_CTL_CGRP, R.ENG_ACCDATA_DATA, R.ENG_DBG_RESUME, R.ENG_DBG_STEP, R.ENG_DBG_HALTREQ,
   R.HPC_PCTL_RETRAIN, R.VIM_ISTATE_LEGACY, R.VIM_ICAIRN_LIMIT, R.VIM_ICAIRN_BASE, R.VIM_IFLOW_LIMIT, R.VIM_IFLOW_BASE,
   R.VIM_IPOOL_LIMIT, R.VIM_IPOOL_BASE, R.VIM_FCTL_SELFRST] ++
  [R.WQ_QCFG_VALID, R.WQ_QCFG_INST, R.WQ_QCFG_QNUM, R.WQ_DB_INV, R.WQ_DB_TAIL, R.WQ_FCTL_EN] ++
  [R.MEM_DDRCFG_SPEED, R.MEM_DDRCFG_DENS, R.MEM_DDRCFG_WIDTH, R.MEM_DDRCFG_RANKS, R.MEM_DDRCFG_EN, R.DMA_CCTL_KICK,
   R.DMA_CCTL_ABORT, R.DMA_CCTL_STOP, R.DMA_CCTL_START, R.DMA_CTL_RESTART, R.DMA_CTL_EN] ++
  [R.EVC_ROUTE_TYPE, R.EVC_ROUTE_FPIN, R.EVC_ROUTE_INST, R.EVC_ROUTE_VEC, R.CLK_PLLCTL_EN, R.CLK_PLLCTL_N,
   R.CLK_PLLCTL_P, R.CLK_DSEL_SRC, R.HLT_PLL_RETIRE0, R.GLB_CTL_FWRST, R.GLB_CTL_WARMRST, R.GLB_ENGRST_GO,
   R.GLB_ENGRST_ENGINE, R.GLB_PORTRST_GO]

/-- The companion sticky bit of a CNT field (R6). -/
def Field.collField (f : Field) : Option Field := f.coll.map (fun c => ⟨c.1, f.s1, f.s2, c.2, c.2, .w1c, 0, false, none, 0⟩)
/-- A software write of `val` reaches field f, in the same cycle as a hardware update of the bits of `meet` (R3, R8). -/
def State.writeField (s : State) (f : Field) (i j : Nat) (val : Word) (meet : Nat) : State :=
  let v := bits val f.hi f.lo
  let hw := nbits meet f.hi f.lo
  match f.ty with
  | .rw => s.wr f v i j
  | .rwh => s.wr f v i j
  | .w1c => s.wr f ((s.rdw f i j &&& ~~~(w32 v)) ||| w32 hw).toNat i j
  | .w1s => s.wr f (s.rdw f i j ||| w32 v).toNat i j
  | .cnt => s.wr f v i j
  | .ro => s
  | .rc => s
  | .wo => s
/-- An increment that a software write of the counter `f` has met sets FIELD_COLL (R6, R8). -/
def State.collide (s : State) (f : Field) (i j meet : Nat) : State :=
  match f.ty, f.collField with
  | .cnt, some c => if nbits meet f.hi f.lo = 0 then s else s.wr c 1 i j
  | _, _ => s
/-- A write of every field of a register that has no row of its own; the hardware's set of a FIELD_COLL bit wins over a clear of
it in the same write (R8). -/
def State.writeFields (s : State) (r : RegD) (i j : Nat) (val : Word) (meet : Nat) : State :=
  let fs := r.fields.filter (fun f => !ownRow.contains f)
  (s.forL fs (fun f s => s.writeField f i j val meet)).forL fs (fun f s => s.collide f i j meet)
/-- A reset that reaches the bits of `rst` wins over the write and the updates of its cycle (R9). -/
def State.resetFields (s : State) (r : RegD) (i j rst : Nat) : State :=
  s.forL r.fields (fun f s => if nbits rst f.hi f.lo = 0 then s else s.wr f (f.resetAt i j) i j)

/-! ## Registers with rules of their own -/

/-- Registers of the PTU: a track follows EN (R641), PTU_MKTGT0 is held and the targets go on reading U or L, as DIR says (R35, R65), a
written PTU_MKCTL.EN meets a fire (R43), and a port enters or leaves a gang (R60). -/
def State.writePtu (s : State) (r : RegD) (i j : Nat) (val : Word) (meet : Nat) : State :=
  let gang (s : State) : Nat × Nat := (s.rd R.PTU_PCFG_GANG_EN i, s.rd R.PTU_PCFG_GANG i)
  let was := gang s
  let led := s.followers i
  let s := s.writeFields r i j val meet
  if r.base = R.PTU_CTL.base then s.forN 16 (fun t s => s.trkFollow t)
  else if r.base = R.PTU_TRKCTL.base then s.trkFollow i
  else if r.base = R.PTU_MKCTL.base then (s.setMarker i { s.getMarker i with enWr := val.getLsbD 0 }).syncMk i
  else if r.base = R.PTU_MKTGT0.base then (s.setMarker i { s.getMarker i with held := val }).syncMk i
  else if r.base = R.PTU_PCFG.base then (if gang s = was then s else s.gangMove i led)
  else s
/-- Registers of EWZ: entries 0 and 127 of the address table read 0 and ignore writes. -/
def State.writeEwz (s : State) (r : RegD) (i j : Nat) (val : Word) (meet : Nat) : State :=
  if (r.base = R.EWZ_ADDRTAB0.base ∨ r.base = R.EWZ_ADDRTAB1.base) ∧ (j = 0 ∨ j = 127) then s
  else s.writeFields r i j val meet
/-- Registers of HPC: the grant registers of the manager's port ignore writes (R388). -/
def State.writeHpc (s : State) (r : RegD) (i j : Nat) (val : Word) (meet : Nat) : State :=
  let grant := r.base = R.HPC_GRANT0.base ∨ r.base = R.HPC_GRANT1.base ∨ r.base = R.HPC_GRANT2.base ∨
    r.base = R.HPC_GRANTRO.base
  if grant ∧ 32 * i = s.mgr then s else s.writeFields r i j val meet
/-- Registers of VIM: VIM_ATTN and the mirrors follow (R390, R391). -/
def State.writeVim (s : State) (r : RegD) (i j : Nat) (val : Word) (meet : Nat) : State :=
  let s := s.writeFields r i j val meet
  if r.base = R.VIM_ISTATE.base then s.syncAttn i
  else if r.base = R.VIM_IVIOL.base then s.wr R.VIM_FVIOL_COUNT (s.rd R.VIM_IVIOL_COUNT i) i
  else s
/-- Registers of a queue context (R394). -/
def State.writeWq (s : State) (r : RegD) (i j : Nat) (val : Word) (meet : Nat) : State :=
  if (r.base = R.WQ_QTGT.base ∨ r.base = R.WQ_QEV.base) ∧ s.wqState i ≠ 0 then s.wr R.WQ_STAT_CFGERR 1
  else s.writeFields r i j val meet
/-- Registers of queue j in the window of instance i (R393, R434). -/
def State.writeQueue (s : State) (r : RegD) (i j : Nat) (val : Word) (meet : Nat) : State :=
  match s.wqCtx i j with
  | none => s
  | some c =>
    if r.base = R.WQ_FCTL.base then
      match s.fctlOk c val with
      | (false, s) => s
      | (true, s) => s.fctlSet c val (s.wqf R.WQ_FCTL_EN c)
    else if r.base ≠ R.WQ_DB.base ∧ r.base ≠ R.WQ_FSTAT.base ∧ r.base ≠ R.WQ_FHEAD.base ∧ s.wqState c ≠ 0 then s.wqfSet R.WQ_FSTAT_CFGERR 1 c
    else s.writeFields r i j val meet
/-- Registers of a DMA channel (R520, R523): the index and the configuration change only while STOPPED or ERROR, and a ring
size outside 4–16 discards the write; the bits of one write of DMA_CCTL act together. -/
def State.writeChan (s : State) (r : RegD) (i j : Nat) (val : Word) (meet : Nat) : State :=
  let open_ := s.chanState i = 0 ∨ s.chanState i = 5
  if r.base = R.DMA_CCTL_START.base then (s.writeFields r i j val meet).chanCtl i val
  else if (r.base = R.DMA_CCFG.base ∨ r.base = R.DMA_CIDX.base) ∧ ¬ open_ then s
  else if r.base = R.DMA_CCFG.base ∧ (bits val 12 8 < 4 ∨ 16 < bits val 12 8) then s
  else s.writeFields r i j val meet

/-- The settings of a vector: what it has counted is held against the new CCNT (R537). -/
def State.writeVec (s : State) (r : RegD) (i j : Nat) (val : Word) (meet : Nat) : State :=
  let v := if r.base = R.EVC_VCFG.base then 64 * i + j else 8192 + i
  let s := s.evcLook.writeFields r i j val meet
  let x := s.getVec v
  if x.st = .collecting ∧ s.ccnt v ≤ x.cnt then s.fireVec v else s

/-- TSC_CMD, SCH_CANCEL and GLB_ENGRST, where the write is not that of ACTIVATE, DEACTIVATE, DESCRIPTOR_CANCEL or ENGINE_RESET: the
operands are held, and GO with another OP of TSC_CMD gives MALFORMED (R228, R264). -/
def State.writeGo (s : State) (r : RegD) (i : Nat) (val : Word) : State :=
  let go := val.getLsbD 31
  if r.base = R.TSC_CMD.base then
    let op := bits val R.TSC_CMD_OP.hi R.TSC_CMD_OP.lo
    let c := bits val R.TSC_CMD_CAIRN.hi R.TSC_CMD_CAIRN.lo
    if !go then (s.wr R.TSC_CMD_OP op).wr R.TSC_CMD_CAIRN c
    else if op = 1 ∨ op = 2 then s
    else s.tscCmd op c
  else if go then s
  else if r.base = R.GLB_ENGRST.base then s.wr R.GLB_ENGRST_ENGINE (bits val R.GLB_ENGRST_ENGINE.hi R.GLB_ENGRST_ENGINE.lo)
  else s.wr R.SCH_CANCEL_ADDR (bits val R.SCH_CANCEL_ADDR.hi R.SCH_CANCEL_ADDR.lo) i

/-- A 32-bit write that has reached register `r` of indices i, j. -/
def State.writeReg (s : State) (r : RegD) (i j : Nat) (val : Word) (meet : Nat) : State :=
  if r.base = R.MEM_CTL.base then s.memCtl val
  else if r.base = R.TSC_CMD.base ∨ r.base = R.SCH_CANCEL.base ∨ r.base = R.GLB_ENGRST.base then s.writeGo r i val
  else if r.base = R.EVC_VCFG.base ∨ r.base = R.EVC_CVCFG.base then s.writeVec r i j val meet
  else if 0x40000 ≤ r.base ∧ r.base < 0x80000 then s.writePtu r i j val meet
  else if 0x80000 ≤ r.base ∧ r.base < 0xC0000 then s.writeHpc r i j val meet
  else if 0xC0000 ≤ r.base ∧ r.base < 0x100000 then s.writeVim r i j val meet
  else if 0x100000 ≤ r.base ∧ r.base < 0x200000 then s.writeWq r i j val meet
  else if 0x400000 ≤ r.base ∧ r.base < 0x500000 then s.writeEwz r i j val meet
  else if 0x700100 ≤ r.base ∧ r.base < 0x800000 then s.writeChan r i j val meet
  else if 0x4000000 ≤ r.base ∧ r.base < 0x4001000 then s.writeQueue r i j val meet
  else s.writeFields r i j val meet

/-! ## Tables that are no registers -/

/-- A word of the pipe table at byte index `o`: addresses 0 and 127 ignore writes (R389). -/
def State.writePipeTab (s : State) (o : Nat) (val : Word) : State :=
  let a := o / 0x20 % 128
  if a = 0 ∨ a = 127 then s
  else s.forN 4 (fun k s => { s with pipeTab := smPut s.pipeTab 0 (o + k) (val.extractLsb' (8 * k) 8) })
/-- A word of the MSI-X table of instance i at byte `o` (R17, R532): the end of a mask sends what is pending. -/
def State.writeMsix (s : State) (i o : Nat) (val : Word) : State :=
  let v := 64 * i + o / 16
  let k := o / 4 % 4
  let s := s.evcLook
  { s with msix := smPut s.msix (if k = 3 then 1 else 0) (4 * v + k) val }.flushPba i

/-! ## Accesses (R10–R17) -/

/-- The place of offset `off` of the BAR of function fn among the registers: a VF reaches its window alone, a PF its own
window at 0x3F0_0000 (R14, R15, R17). -/
def busOff (fn off : Nat) : Option Nat :=
  if fn % 32 ≠ 0 then if off < 0x10000 then some (0x4000000 + fn * 0x10000 + off) else none
  else if 0x3F00000 ≤ off ∧ off < 0x3F10000 then some (0x4000000 + fn * 0x10000 + (off - 0x3F00000))
  else some off
/-- A 32-bit write of function fn at place `off`, aligned, which the updates `meet` and the resets `rst` of its cycle meet (R3,
R8, R9, R13–R16). -/
def State.write32 (s : State) (fn off : Nat) (val : Word) (meet rst : Nat) : State :=
  if 0xD0000 ≤ off ∧ off < 0xE0000 then s.gated fn off (fun s => s.writePipeTab (off - 0xD0000) val)
  else if 0x4000000 ≤ off ∧ 0x2000 ≤ off % 0x10000 ∧ off % 0x10000 < 0x2400 then
    s.gated fn off (fun s => s.writeMsix ((off - 0x4000000) / 0x10000) (off % 0x10000 - 0x2000) val)
  else match regAt off with
    | none => s.gated fn off (fun s => s)
    | some (r, i, j) =>
      let f (s : State) : State := (s.writeReg r i j val meet).resetFields r i j rst
      if r.base = R.EVC_VCFG.base ∨ r.base = R.EVC_CVCFG.base ∨ r.base = R.EVC_ROUTE.base then s.mgrOnly fn f
      else if 0x700100 ≤ r.base ∧ r.base < 0x800000 then s.chanWrite fn i off f
      else s.gated fn off f
/-- A write access of function fn: only whole aligned words are written, the lower one first (R11, R12, R385). -/
def State.writeBy (s : State) (fn off : Nat) (size : AccSize) (val : BitVec 64) (ep : Bool) (upd rst : BitVec 64) : State :=
  let lo : BitVec 64 → Nat := fun v => v.toNat % 2 ^ 32
  let hi : BitVec 64 → Nat := fun v => v.toNat / 2 ^ 32
  let s := s.poisonRx (fn / 32) ep
  if ep then s
  else match busOff fn off, size with
    | none, _ => s
    | some _, .b1 => s
    | some _, .b2 => s
    | some o, .b4 => if o % 4 = 0 then s.write32 fn o (w32 (lo val)) (lo upd) (lo rst) else s
    | some o, .b8 =>
      if o % 8 = 0 then
        (s.write32 fn o (w32 (lo val)) (lo upd) (lo rst)).write32 fn (o + 4) (w32 (hi val)) (hi upd) (hi rst)
      else s

/-! ## Reads (R3, R7, R8, R11–R13, R22) -/

/-- Raw levels of the event sources of group g (R526). -/
def State.groupRaw (s : State) (g : Nat) : Nat := ((List.range 32).map (fun b => b2n (s.level (32 * g + b)) * 2 ^ b)).sum
/-- The word of a register as software reads it: a WO field reads 0, the grant registers of the manager's port read all ones,
PTU_PFNUM of every member of a gang reads the gang's frame number, EVC_GSTAT and EVC_GACT read the levels of their sources, HLT_LOC reads
what the die gives, and the registers of a queue without a valid context read 0 (R3, R66, R388, R393, R526, R596). -/
def State.softWord (s : State) (r : RegD) (i j : Nat) : Word :=
  let grant := r.base = R.HPC_GRANT0.base ∨ r.base = R.HPC_GRANT1.base ∨ r.base = R.HPC_GRANT2.base ∨
    r.base = R.HPC_GRANTRO.base
  if grant ∧ 32 * i = s.mgr then 0xFFFFFFFF
  else if r.base = R.PTU_PFNUM.base then s.rdw R.PTU_PFNUM_FNUM (s.leader i)
  else if r.base = R.EVC_GSTAT.base then w32 (s.groupRaw i)
  else if r.base = R.EVC_GACT.base then w32 (s.groupRaw i) &&& s.rdw R.EVC_GEN_EN i
  else if r.base = R.HLT_LOC.base then Config.dieLoc i
  else if 0x4000000 ≤ r.base ∧ r.base < 0x4001000 ∧ (s.wqCtx i j).isNone then 0
  else w32 (s.regWord (r.fields.filter (fun f => f.ty != .wo)) i j)
/-- A read of a register clears its RC fields, but keeps what hardware loads in the same cycle: `load`, 0 where it loads nothing
(R3, R8). -/
def State.readClear (s : State) (r : RegD) (i j load : Nat) : State :=
  s.forL (r.fields.filter (fun f => f.ty == .rc)) (fun f s => s.wr f (nbits load f.hi f.lo) i j)
/-- Words of the violation log (R372). -/
def VRec.words (r : VRec) : List Word := [r.w0, r.w1, w32 (r.time.toNat % 2 ^ 32), w32 (r.time.toNat / 2 ^ 32)]
/-- A word of the function window of instance i at byte `o` that is no register: MSI-X table, pending bits, reserved space (R17,
R532); what reserved space reads is not stated (log entry 30). -/
def State.windowWord (s : State) (i o : Nat) : Word × State :=
  if o < 0x2000 then (0, s)
  else if o < 0x2400 then
    let k := (o - 0x2000) / 4
    (smGet s.msix (if k % 4 = 3 then 1 else 0) (256 * i + k), s)
  else if o = 0x3000 ∨ o = 0x3004 then
    let b := 64 * i + 8 * (o - 0x3000)
    (w32 ((List.range 32).foldl (fun n k => if s.pba.contains (b + k) then n + 2 ^ k else n) 0), s)
  else s.draw
/-- The word that a read of function fn finds at the aligned place `off`, its poison mark, and what the read does: it uses up a
value latched for the function, latches, clears, or reads memory (R3, R7, R13, R22, R63, R199, R310, R372, R385, R389, R544, R606).
What reserved space returns to the manager is not stated (log entry 30). -/
def State.readAt (s : State) (fn off : Nat) (wide : Bool) (load : Nat) : Word × Bool × State :=
  match smFind s.latch (fn * 2 ^ 26 + off) with
  | some w => (w, false, { s with latch := smDel s.latch (fn * 2 ^ 26 + off) })
  | none =>
    if 0x4000000 ≤ off ∧ (regAt off).isNone then
      let (w, s) := s.windowWord ((off - 0x4000000) / 0x10000) (off % 0x10000); (w, false, s)
    else if 0x3000000 ≤ off ∧ off < 0x3400000 then s.readWord (0x1020800000 + (off - 0x3000000))
    else if 0x2700000 ≤ off ∧ off < 0x2800000 then (0xFFFFFFFF, false, s.violate fn 0x05 (0x80 + fn / 32) (off - 0x2000000))
    else if 0x2000000 ≤ off ∧ off < 0x2700000 then s.readWord (saList (off - 0x2000000))
    else if 0xD0000 ≤ off ∧ off < 0xE0000 then
      (bytesWord ((List.range 4).map (fun k => smGet s.pipeTab 0 (off - 0xD0000 + k))), false, s)
    else if 0xC0100 ≤ off ∧ off < 0xC0200 then
      ((smGet s.vlog {} ((off - 0xC0100) / 16)).words.getD (off % 16 / 4) 0, false, s)
    else if 0x32000 ≤ off ∧ off < 0x34000 then s.readFrec fn ((off - 0x32000) / 32) (off % 32 / 4)
    else match regAt off with
      | none => if reservedOff off then let (w, s) := s.draw; (w, false, s) else (0, false, s)
      | some (r, i, j) =>
        if r.base = R.PTU_TIMELO.base then s.readTimelo fn
        else if r.base = R.PTU_TRKPOSF.base then s.readTrkposf fn i
        else if r.base = R.ENG_ACCDATA.base then s.accRead i
        else
          let w := s.softWord r i j
          let s := s.readClear r i j load
          match wide && r.fields.any (fun f => f.ty == .cnt), regAt (off + 4) with
          | true, some (r', i', j') => (w, false, s.latchFor fn (off + 4) (s.softWord r' i' j'))
          | _, _ => (w, false, s)
/-- A read of `size` bytes by function fn: the requested bytes of the register, with every side effect of the whole register; one
that is not aligned to its size returns all ones and has none (R11, R12). -/
def State.readBy (s : State) (fn off : Nat) (size : AccSize) (wide : Bool) (load : BitVec 64) : State :=
  let part (o n : Nat) (s : State) : State :=
    s.gatedRead fn (o / 4 * 4) (fun s =>
      let (w, ep, s) := s.readAt fn (o / 4 * 4) wide (load.toNat % 2 ^ 32)
      (w32 (w.toNat / 2 ^ (8 * (o % 4)) % 2 ^ (8 * n)), ep, s))
  match busOff fn off, size with
  | none, _ => s.answerRead fn 0xFFFFFFFF false
  | some o, .b1 => part o 1 s
  | some o, .b2 => if o % 2 = 0 then part o 2 s else s.answerRead fn 0xFFFFFFFF false
  | some o, .b4 => if o % 4 = 0 then part o 4 s else s.answerRead fn 0xFFFFFFFF false
  | some o, .b8 =>
    if o % 8 = 0 then
      (part o 4 s).gatedRead fn (o + 4) (fun s => s.readAt fn (o + 4) false (load.toNat / 2 ^ 32))
    else (s.answerRead fn 0xFFFFFFFF false).answerRead fn 0xFFFFFFFF false

/-! ## Accesses of one cycle (R10) -/

/-- Place of an access in the order of its cycle: host ports 0–3, then the command processor. -/
def accRank (a : RegAcc) : Nat := if a.cp then 4 else a.fn.toNat / 32
/-- `a` put behind the accesses of its rank and below. -/
def rankIns (a : RegAcc) : List RegAcc → List RegAcc
  | [] => [a]
  | b :: l => if accRank a < accRank b then a :: b :: l else b :: rankIns a l
/-- One access, in the cycle in which it is applied; the command processor reaches what the manager reaches. -/
def State.access (s : State) (a : RegAcc) : State :=
  let fn := if a.cp then s.mgr else a.fn.toNat
  match a.val with
  | some v => s.writeBy fn a.off.toNat a.size v a.ep a.upd a.rst
  | none => s.readBy fn a.off.toNat a.size false a.upd
/-- The accesses l in the order of their cycle (R10). -/
def State.accesses (s : State) (l : List RegAcc) : State := s.forL (l.foldl (fun l b => rankIns b l) []) (fun b s => s.access b)
/-- REGISTER_WRITE (R3, R8–R12, R385): the write and the accesses of its cycle, in the order of R10. -/
def execRegisterWrite (fn : InstNo) (off : BitVec 26) (size : AccSize) (val : BitVec 64) (ep : Bool) (meet : SameCycle) (s : State) :
    Host.Outcome State Fault Refusal :=
  act s (fun s => s.accesses (⟨meet.cp, fn, off, size, some val, ep, meet.upd, meet.rst⟩ :: meet.same))
/-- CNT_LOW_WORD_READ (R7, R11, R12): with `wide` the word above the one read is latched for the function (log entry 15). -/
def execCntLowWordRead (fn : InstNo) (r : RegRead) (s : State) : Host.Outcome State Fault Refusal :=
  act s (fun s => s.readBy fn.toNat r.off.toNat r.size r.wide 0)

/-! ## Apertures and SCH_RFXMAX -/

/-- LIST_APERTURE_WRITE (R199, R385, R606). -/
def execListApertureWrite (fn : InstNo) (word : BitVec 21) (val : Word) (ep : Bool) (s : State) :
    Host.Outcome State Fault Refusal :=
  act s (fun s =>
    (s.poisonRx (fn.toNat / 32) ep).gated fn.toNat (0x2000000 + word.toNat * 4) (fun s =>
      s.listWriteBy fn.toNat (word.toNat * 4) val ep))
/-- CAIRN_APERTURE_WRITE (R230, R385). -/
def execCairnApertureWrite (fn : InstNo) (c : CairnNo) (w : BitVec 4) (val : Word) (ep : Bool) (s : State) :
    Host.Outcome State Fault Refusal :=
  act s (fun s =>
    let o := c.toNat * 64 + w.toNat * 4
    (s.poisonRx (fn.toNat / 32) ep).gated fn.toNat (0x3000000 + o) (fun s => s.cairnWrite o 4 val ep))
/-- REFLEX_MAX_READ (R8, R228): the read returns MAXLAT and clears it, but keeps a maximum that hardware loads in the same cycle:
`load`, 0 where it loads none. -/
def execReflexMaxRead (fn : InstNo) (r : RfxRead) (s : State) : Host.Outcome State Fault Refusal :=
  act s (fun s => s.gatedRead fn.toNat (R.SCH_RFXMAX_MAXLAT.off r.p.toNat) (fun s =>
    (s.softWord R.SCH_RFXMAX r.p.toNat 0, false, s.readClear R.SCH_RFXMAX r.p.toNat 0 r.load.toNat)))

end Sys2Proof.Machine
end

