-- ==== Sys2Proof/Machine/Dispatch.lean ====
section
/-! DEFINITION. One arm per command: the meaning it calls. -/

namespace Sys2Proof.Machine

/-- The effect of a command on everything but the queue of waiting commands. -/
def exec (i : Instr) (s : State) : Host.Outcome State Fault Refusal :=
  match i with
  | .registerWrite fn off size val ep meet => Sys2Proof.Machine.execRegisterWrite fn off size val ep meet s
  | .cntLowWordRead fn r => Sys2Proof.Machine.execCntLowWordRead fn r s
  | .listApertureWrite fn word val ep => Sys2Proof.Machine.execListApertureWrite fn word val ep s
  | .cairnApertureWrite fn c w val ep => Sys2Proof.Machine.execCairnApertureWrite fn c w val ep s
  | .ptuClockTick => Sys2Proof.Machine.execPtuClockTick s
  | .tincWrite fn val => Sys2Proof.Machine.execTincWrite fn val s
  | .timeLoad fn => Sys2Proof.Machine.execTimeLoad fn s
  | .timeStep fn => Sys2Proof.Machine.execTimeStep fn s
  | .timeloReadLatch fn => Sys2Proof.Machine.execTimeloReadLatch fn s
  | .encoderEdge t k a b => Sys2Proof.Machine.execEncoderEdge t k a b s
  | .encoderZEdge z => Sys2Proof.Machine.execEncoderZEdge z s
  | .trackStopped t => Sys2Proof.Machine.execTrackStopped t s
  | .trackPreset fn t => Sys2Proof.Machine.execTrackPreset fn t s
  | .trkposfReadLatch fn t => Sys2Proof.Machine.execTrkposfReadLatch fn t s
  | .positionReport p pkt => Sys2Proof.Machine.execPositionReport p pkt s
  | .trackStale t => Sys2Proof.Machine.execTrackStale t s
  | .markerTargetWrite fn m val => Sys2Proof.Machine.execMarkerTargetWrite fn m val s
  | .markerStepWrite fn m val => Sys2Proof.Machine.execMarkerStepWrite fn m val s
  | .markerFire m => Sys2Proof.Machine.execMarkerFire m s
  | .deferredStartDue p => Sys2Proof.Machine.execDeferredStartDue p s
  | .fmaxExpiry p => Sys2Proof.Machine.execFmaxExpiry p s
  | .pfrmWrite fn p val => Sys2Proof.Machine.execPfrmWrite fn p val s
  | .pfnumWrite fn p val => Sys2Proof.Machine.execPfnumWrite fn p val s
  | .sofTransmit p => Sys2Proof.Machine.execSofTransmit p s
  | .presencePeriod p => Sys2Proof.Machine.execPresencePeriod p s
  | .presenceBurst k => Sys2Proof.Machine.execPresenceBurst k s
  | .delayEcho p seq turnaround roundTrip => Sys2Proof.Machine.execDelayEcho p seq turnaround roundTrip s
  | .trainingComplete p idle lat => Sys2Proof.Machine.execTrainingComplete p idle lat s
  | .trainingTimeout p => Sys2Proof.Machine.execTrainingTimeout p s
  | .trainfailQuietEnd p => Sys2Proof.Machine.execTrainfailQuietEnd p s
  | .keepPeriod p => Sys2Proof.Machine.execKeepPeriod p s
  | .keepBurst k => Sys2Proof.Machine.execKeepBurst k s
  | .keepTimeout p => Sys2Proof.Machine.execKeepTimeout p s
  | .wakeBurst k => Sys2Proof.Machine.execWakeBurst k s
  | .resumeComplete p => Sys2Proof.Machine.execResumeComplete p s
  | .hostResume fn p => Sys2Proof.Machine.execHostResume fn p s
  | .suspendRequest fn p level => Sys2Proof.Machine.execSuspendRequest fn p level s
  | .suspendAck p => Sys2Proof.Machine.execSuspendAck p s
  | .suspendNak p => Sys2Proof.Machine.execSuspendNak p s
  | .suspendEntryTimeout p => Sys2Proof.Machine.execSuspendEntryTimeout p s
  | .retrainReq p => Sys2Proof.Machine.execRetrainReq p s
  | .marginMeasure p width height => Sys2Proof.Machine.execMarginMeasure p width height s
  | .forceRetrain fn p => Sys2Proof.Machine.execForceRetrain fn p s
  | .fastRetrainComplete p lat => Sys2Proof.Machine.execFastRetrainComplete p lat s
  | .retrainTimeout p => Sys2Proof.Machine.execRetrainTimeout p s
  | .blockLockLost k => Sys2Proof.Machine.execBlockLockLost k s
  | .recoveryComplete p lat => Sys2Proof.Machine.execRecoveryComplete p lat s
  | .recoveryTimeout p => Sys2Proof.Machine.execRecoveryTimeout p s
  | .portResetRequest fn p => Sys2Proof.Machine.execPortResetRequest fn p s
  | .ewzEnableWrite fn p en => Sys2Proof.Machine.execEwzEnableWrite fn p en s
  | .skipInsert p => Sys2Proof.Machine.execSkipInsert p s
  | .babbleTimeout p => Sys2Proof.Machine.execBabbleTimeout p s
  | .dataPkt p pkt => Sys2Proof.Machine.execDataPkt p pkt s
  | .ack p pkt => Sys2Proof.Machine.execAck p pkt s
  | .nak p pkt => Sys2Proof.Machine.execNak p pkt s
  | .notyet p pkt => Sys2Proof.Machine.execNotyet p pkt s
  | .stallPkt p pkt => Sys2Proof.Machine.execStallPkt p pkt s
  | .probe p pkt => Sys2Proof.Machine.execProbe p pkt s
  | .ready p pkt => Sys2Proof.Machine.execReady p pkt s
  | .portEvent p pkt => Sys2Proof.Machine.execPortEvent p pkt s
  | .responseTimeout p class0 => Sys2Proof.Machine.execResponseTimeout p class0 s
  | .burstGapTimeout p => Sys2Proof.Machine.execBurstGapTimeout p s
  | .probeIntervalExpiry p addr dirIn ep => Sys2Proof.Machine.execProbeIntervalExpiry p addr dirIn ep s
  | .walkerServeBurst p => Sys2Proof.Machine.execWalkerServeBurst p s
  | .guardSend p => Sys2Proof.Machine.execGuardSend p s
  | .listSync fn p => Sys2Proof.Machine.execListSync fn p s
  | .listSyncClear p => Sys2Proof.Machine.execListSyncClear p s
  | .descriptorCancel fn p desc => Sys2Proof.Machine.execDescriptorCancel fn p desc s
  | .class0TokenIssue p => Sys2Proof.Machine.execClass0TokenIssue p s
  | .emitPacketSend p pair latency => Sys2Proof.Machine.execEmitPacketSend p pair latency s
  | .reflexMaxRead fn r => Sys2Proof.Machine.execReflexMaxRead fn r s
  | .activate fn c => Sys2Proof.Machine.execActivate fn c s
  | .deactivate fn c => Sys2Proof.Machine.execDeactivate fn c s
  | .markerOperandOffer m => Sys2Proof.Machine.execMarkerOperandOffer m s
  | .timerExpiry c => Sys2Proof.Machine.execTimerExpiry c s
  | .yieldTimeout c => Sys2Proof.Machine.execYieldTimeout c s
  | .dispatchAssign => Sys2Proof.Machine.execDispatchAssign s
  | .threadStart e => Sys2Proof.Machine.execThreadStart e s
  | .rfxnWrite fn r n => Sys2Proof.Machine.execRfxnWrite fn r n s
  | .reflexSetActive r => Sys2Proof.Machine.execReflexSetActive r s
  | .detectorPass => Sys2Proof.Machine.execDetectorPass s
  | .completionQueueOffer p k => Sys2Proof.Machine.execCompletionQueueOffer p k s
  | .sendRetryExpiry e => Sys2Proof.Machine.execSendRetryExpiry e s
  | .completionRecordMerge e => Sys2Proof.Machine.execCompletionRecordMerge e s
  | .cloadWrite fn e v => Sys2Proof.Machine.execCloadWrite fn e v s
  | .cgrpWrite fn e v => Sys2Proof.Machine.execCgrpWrite fn e v s
  | .accdataRead fn r => Sys2Proof.Machine.execAccdataRead fn r s
  | .accdataWrite fn r val => Sys2Proof.Machine.execAccdataWrite fn r val s
  | .softwareAttention e => Sys2Proof.Machine.execSoftwareAttention e s
  | .localTimeRead e rd => Sys2Proof.Machine.execLocalTimeRead e rd s
  | .watchdogExpiry e => Sys2Proof.Machine.execWatchdogExpiry e s
  | .waitTimeout e => Sys2Proof.Machine.execWaitTimeout e s
  | .heartbeatSend e => Sys2Proof.Machine.execHeartbeatSend e s
  | .selfCheck e pass => Sys2Proof.Machine.execSelfCheck e pass s
  | .debugHaltRequest fn e => Sys2Proof.Machine.execDebugHaltRequest fn e s
  | .debugStep fn e => Sys2Proof.Machine.execDebugStep fn e s
  | .debugResume fn e => Sys2Proof.Machine.execDebugResume fn e s
  | .add e f => Sys2Proof.Machine.execAdd e f s
  | .sub e f => Sys2Proof.Machine.execSub e f s
  | .adc e f => Sys2Proof.Machine.execAdc e f s
  | .sbc e f => Sys2Proof.Machine.execSbc e f s
  | .andr e f => Sys2Proof.Machine.execAndr e f s
  | .orr e f => Sys2Proof.Machine.execOrr e f s
  | .xorr e f => Sys2Proof.Machine.execXorr e f s
  | .andn e f => Sys2Proof.Machine.execAndn e f s
  | .sll e f => Sys2Proof.Machine.execSll e f s
  | .srl e f => Sys2Proof.Machine.execSrl e f s
  | .sra e f => Sys2Proof.Machine.execSra e f s
  | .ror e f => Sys2Proof.Machine.execRor e f s
  | .mins e f => Sys2Proof.Machine.execMins e f s
  | .maxs e f => Sys2Proof.Machine.execMaxs e f s
  | .minu e f => Sys2Proof.Machine.execMinu e f s
  | .maxu e f => Sys2Proof.Machine.execMaxu e f s
  | .neg e f => Sys2Proof.Machine.execNeg e f s
  | .abs e f => Sys2Proof.Machine.execAbs e f s
  | .clz e f => Sys2Proof.Machine.execClz e f s
  | .popc e f => Sys2Proof.Machine.execPopc e f s
  | .bswap e f => Sys2Proof.Machine.execBswap e f s
  | .sextb e f => Sys2Proof.Machine.execSextb e f s
  | .sexth e f => Sys2Proof.Machine.execSexth e f s
  | .cmp e f => Sys2Proof.Machine.execCmp e f s
  | .tst e f => Sys2Proof.Machine.execTst e f s
  | .sel e f => Sys2Proof.Machine.execSel e f s
  | .mul e f => Sys2Proof.Machine.execMul e f s
  | .mulh e f => Sys2Proof.Machine.execMulh e f s
  | .mulhu e f => Sys2Proof.Machine.execMulhu e f s
  | .div e f => Sys2Proof.Machine.execDiv e f s
  | .divu e f => Sys2Proof.Machine.execDivu e f s
  | .rem e f => Sys2Proof.Machine.execRem e f s
  | .remu e f => Sys2Proof.Machine.execRemu e f s
  | .addi e f => Sys2Proof.Machine.execAddi e f s
  | .cmpi e f => Sys2Proof.Machine.execCmpi e f s
  | .andi e f => Sys2Proof.Machine.execAndi e f s
  | .ori e f => Sys2Proof.Machine.execOri e f s
  | .xori e f => Sys2Proof.Machine.execXori e f s
  | .lui e f => Sys2Proof.Machine.execLui e f s
  | .slli e f => Sys2Proof.Machine.execSlli e f s
  | .srli e f => Sys2Proof.Machine.execSrli e f s
  | .srai e f => Sys2Proof.Machine.execSrai e f s
  | .rori e f => Sys2Proof.Machine.execRori e f s
  | .tsti e f => Sys2Proof.Machine.execTsti e f s
  | .lb e f => Sys2Proof.Machine.execLb e f s
  | .lbu e f => Sys2Proof.Machine.execLbu e f s
  | .lh e f => Sys2Proof.Machine.execLh e f s
  | .lhu e f => Sys2Proof.Machine.execLhu e f s
  | .lw e f => Sys2Proof.Machine.execLw e f s
  | .ld e f => Sys2Proof.Machine.execLd e f s
  | .sb e f => Sys2Proof.Machine.execSb e f s
  | .sh e f => Sys2Proof.Machine.execSh e f s
  | .sw e f => Sys2Proof.Machine.execSw e f s
  | .sd e f => Sys2Proof.Machine.execSd e f s
  | .aaddW e f => Sys2Proof.Machine.execAaddW e f s
  | .aandW e f => Sys2Proof.Machine.execAandW e f s
  | .aorW e f => Sys2Proof.Machine.execAorW e f s
  | .axorW e f => Sys2Proof.Machine.execAxorW e f s
  | .aswpW e f => Sys2Proof.Machine.execAswpW e f s
  | .acasW e f => Sys2Proof.Machine.execAcasW e f s
  | .aaddD e f => Sys2Proof.Machine.execAaddD e f s
  | .aandD e f => Sys2Proof.Machine.execAandD e f s
  | .aorD e f => Sys2Proof.Machine.execAorD e f s
  | .axorD e f => Sys2Proof.Machine.execAxorD e f s
  | .aswpD e f => Sys2Proof.Machine.execAswpD e f s
  | .acasD e f => Sys2Proof.Machine.execAcasD e f s
  | .br e f => Sys2Proof.Machine.execBr e f s
  | .j e f => Sys2Proof.Machine.execJ e f s
  | .jal e f => Sys2Proof.Machine.execJal e f s
  | .jr e f => Sys2Proof.Machine.execJr e f s
  | .jalr e f => Sys2Proof.Machine.execJalr e f s
  | .mfence e f => Sys2Proof.Machine.execMfence e f s
  | .ifence e f => Sys2Proof.Machine.execIfence e f s
  | .breakpt e f => Sys2Proof.Machine.execBreakpt e f s
  | .xret e f => Sys2Proof.Machine.execXret e f s
  | .rdf e f => Sys2Proof.Machine.execRdf e f s
  | .wrf e f => Sys2Proof.Machine.execWrf e f s
  | .send e f => Sys2Proof.Machine.execSend e f s
  | .emit e f => Sys2Proof.Machine.execEmit e f s
  | .waitNudge e f => Sys2Proof.Machine.execWaitNudge e f s
  | .nudge e f => Sys2Proof.Machine.execNudge e f s
  | .yieldThread e f => Sys2Proof.Machine.execYieldThread e f s
  | .endThread e f => Sys2Proof.Machine.execEndThread e f s
  | .vadd e f => Sys2Proof.Machine.execVadd e f s
  | .vsub e f => Sys2Proof.Machine.execVsub e f s
  | .vadds e f => Sys2Proof.Machine.execVadds e f s
  | .vsubs e f => Sys2Proof.Machine.execVsubs e f s
  | .vand e f => Sys2Proof.Machine.execVand e f s
  | .vor e f => Sys2Proof.Machine.execVor e f s
  | .vxor e f => Sys2Proof.Machine.execVxor e f s
  | .vmin e f => Sys2Proof.Machine.execVmin e f s
  | .vmax e f => Sys2Proof.Machine.execVmax e f s
  | .vsll e f => Sys2Proof.Machine.execVsll e f s
  | .vsrl e f => Sys2Proof.Machine.execVsrl e f s
  | .vsra e f => Sys2Proof.Machine.execVsra e f s
  | .vcmpeq e f => Sys2Proof.Machine.execVcmpeq e f s
  | .vcmpgt e f => Sys2Proof.Machine.execVcmpgt e f s
  | .vmul e f => Sys2Proof.Machine.execVmul e f s
  | .vmov e f => Sys2Proof.Machine.execVmov e f s
  | .vsel e f => Sys2Proof.Machine.execVsel e f s
  | .vdiv e f => Sys2Proof.Machine.execVdiv e f s
  | .vdivu e f => Sys2Proof.Machine.execVdivu e f s
  | .fadd e f => Sys2Proof.Machine.execFadd e f s
  | .fsub e f => Sys2Proof.Machine.execFsub e f s
  | .fmul e f => Sys2Proof.Machine.execFmul e f s
  | .fma e f => Sys2Proof.Machine.execFma e f s
  | .fdiv e f => Sys2Proof.Machine.execFdiv e f s
  | .frsq e f => Sys2Proof.Machine.execFrsq e f s
  | .fspl e f => Sys2Proof.Machine.execFspl e f s
  | .fmin e f => Sys2Proof.Machine.execFmin e f s
  | .fmax e f => Sys2Proof.Machine.execFmax e f s
  | .fcmplt e f => Sys2Proof.Machine.execFcmplt e f s
  | .fcmpeq e f => Sys2Proof.Machine.execFcmpeq e f s
  | .fabs e f => Sys2Proof.Machine.execFabs e f s
  | .fneg e f => Sys2Proof.Machine.execFneg e f s
  | .amac e f => Sys2Proof.Machine.execAmac e f s
  | .amsu e f => Sys2Proof.Machine.execAmsu e f s
  | .aclr e f => Sys2Proof.Machine.execAclr e f s
  | .ald e f => Sys2Proof.Machine.execAld e f s
  | .ard e f => Sys2Proof.Machine.execArd e f s
  | .vcvtif e f => Sys2Proof.Machine.execVcvtif e f s
  | .vcvtfi e f => Sys2Proof.Machine.execVcvtfi e f s
  | .vcvtfiz e f => Sys2Proof.Machine.execVcvtfiz e f s
  | .vsath e f => Sys2Proof.Machine.execVsath e f s
  | .vsatub e f => Sys2Proof.Machine.execVsatub e f s
  | .vnarh e f => Sys2Proof.Machine.execVnarh e f s
  | .vld e f => Sys2Proof.Machine.execVld e f s
  | .vst e f => Sys2Proof.Machine.execVst e f s
  | .vins e f => Sys2Proof.Machine.execVins e f s
  | .vext e f => Sys2Proof.Machine.execVext e f s
  | .vsplat e f => Sys2Proof.Machine.execVsplat e f s
  | .rdacp e f => Sys2Proof.Machine.execRdacp e f s
  | .wracp e f => Sys2Proof.Machine.execWracp e f s
  | .functionLevelReset inst => Sys2Proof.Machine.execFunctionLevelReset inst s
  | .vfEnable inst => Sys2Proof.Machine.execVfEnable inst s
  | .vfDisable inst => Sys2Proof.Machine.execVfDisable inst s
  | .d3hotTransition inst enter => Sys2Proof.Machine.execD3hotTransition inst enter s
  | .atsInvalidation inst page => Sys2Proof.Machine.execAtsInvalidation inst page s
  | .hostReadCompletion h tag status data ep => Sys2Proof.Machine.execHostReadCompletion h tag status data ep s
  | .completionTimeout h tag => Sys2Proof.Machine.execCompletionTimeout h tag s
  | .hostLinkReset h => Sys2Proof.Machine.execHostLinkReset h s
  | .pcieRetrain fn h => Sys2Proof.Machine.execPcieRetrain fn h s
  | .instanceQuiet inst => Sys2Proof.Machine.execInstanceQuiet inst s
  | .instanceResetComplete inst => Sys2Proof.Machine.execInstanceResetComplete inst s
  | .selfReset inst => Sys2Proof.Machine.execSelfReset inst s
  | .ownershipRangeWrite fn inst kind val => Sys2Proof.Machine.execOwnershipRangeWrite fn inst kind val s
  | .legacyWrite fn inst v => Sys2Proof.Machine.execLegacyWrite fn inst v s
  | .queueConfigWrite fn c val => Sys2Proof.Machine.execQueueConfigWrite fn c val s
  | .doorbell fn q val => Sys2Proof.Machine.execDoorbell fn q val s
  | .queueEnable fn q val => Sys2Proof.Machine.execQueueEnable fn q val s
  | .queueStop fn q val => Sys2Proof.Machine.execQueueStop fn q val s
  | .queueStopComplete c => Sys2Proof.Machine.execQueueStopComplete c s
  | .fetchGrant h => Sys2Proof.Machine.execFetchGrant h s
  | .ringReadComplete c data ep => Sys2Proof.Machine.execRingReadComplete c data ep s
  | .repollExpiry c => Sys2Proof.Machine.execRepollExpiry c s
  | .jobOffer c => Sys2Proof.Machine.execJobOffer c s
  | .headRecordWrite c => Sys2Proof.Machine.execHeadRecordWrite c s
  | .commandTake k => Sys2Proof.Machine.execCommandTake k s
  | .summary k => Sys2Proof.Machine.execSummary k s
  | .identify k => Sys2Proof.Machine.execIdentify k s
  | .nopCmd k => Sys2Proof.Machine.execNopCmd k s
  | .fwlogRead k => Sys2Proof.Machine.execFwlogRead k s
  | .instanceQuiesce k => Sys2Proof.Machine.execInstanceQuiesce k s
  | .instanceResume k => Sys2Proof.Machine.execInstanceResume k s
  | .instanceReset k => Sys2Proof.Machine.execInstanceReset k s
  | .instanceRemove k => Sys2Proof.Machine.execInstanceRemove k s
  | .instanceStatus k => Sys2Proof.Machine.execInstanceStatus k s
  | .portEnable k => Sys2Proof.Machine.execPortEnable k s
  | .portDisable k => Sys2Proof.Machine.execPortDisable k s
  | .portReset k => Sys2Proof.Machine.execPortReset k s
  | .deviceLost k => Sys2Proof.Machine.execDeviceLost k s
  | .pipeClear k => Sys2Proof.Machine.execPipeClear k s
  | .deviceInfo k => Sys2Proof.Machine.execDeviceInfo k s
  | .listWrite k => Sys2Proof.Machine.execListWrite k s
  | .descLink k => Sys2Proof.Machine.execDescLink k s
  | .descUnlink k => Sys2Proof.Machine.execDescUnlink k s
  | .descCancel k => Sys2Proof.Machine.execDescCancel k s
  | .schedStatus k => Sys2Proof.Machine.execSchedStatus k s
  | .cairnActivate k => Sys2Proof.Machine.execCairnActivate k s
  | .cairnDeactivate k => Sys2Proof.Machine.execCairnDeactivate k s
  | .cairnWrite k => Sys2Proof.Machine.execCairnWrite k s
  | .cairnRead k => Sys2Proof.Machine.execCairnRead k s
  | .codeLoad k => Sys2Proof.Machine.execCodeLoad k s
  | .engineStatus k => Sys2Proof.Machine.execEngineStatus k s
  | .flowStatus k => Sys2Proof.Machine.execFlowStatus k s
  | .timeRead k => Sys2Proof.Machine.execTimeRead k s
  | .trackRead k => Sys2Proof.Machine.execTrackRead k s
  | .scrubRange k => Sys2Proof.Machine.execScrubRange k s
  | .memRepair k => Sys2Proof.Machine.execMemRepair k s
  | .checkerTest k => Sys2Proof.Machine.execCheckerTest k s
  | .ddrRetrain k => Sys2Proof.Machine.execDdrRetrain k s
  | .maintResult k => Sys2Proof.Machine.execMaintResult k s
  | .clockSwitch k => Sys2Proof.Machine.execClockSwitch k s
  | .powerSet k => Sys2Proof.Machine.execPowerSet k s
  | .wakeRecord k => Sys2Proof.Machine.execWakeRecord k s
  | .engineRetire k => Sys2Proof.Machine.execEngineRetire k s
  | .reinstate k => Sys2Proof.Machine.execReinstate k s
  | .healthStatus k => Sys2Proof.Machine.execHealthStatus k s
  | .echoDma k => Sys2Proof.Machine.execEchoDma k s
  | .poisonInject k => Sys2Proof.Machine.execPoisonInject k s
  | .maintActivityEnd g ok info => Sys2Proof.Machine.execMaintActivityEnd g ok info s
  | .ddrChannelEnable fn ch val => Sys2Proof.Machine.execDdrChannelEnable fn ch val s
  | .ddrTrainingComplete ch ok => Sys2Proof.Machine.execDdrTrainingComplete ch ok s
  | .ddrRefresh ch rank hot => Sys2Proof.Machine.execDdrRefresh ch rank hot s
  | .zqCalibration ch rank => Sys2Proof.Machine.execZqCalibration ch rank s
  | .dqsOscillatorRead ch rank count => Sys2Proof.Machine.execDqsOscillatorRead ch rank count s
  | .fieldRepair g => Sys2Proof.Machine.execFieldRepair g s
  | .dmaStart fn c => Sys2Proof.Machine.execDmaStart fn c s
  | .dmaKick fn c => Sys2Proof.Machine.execDmaKick fn c s
  | .dmaStop fn c => Sys2Proof.Machine.execDmaStop fn c s
  | .dmaAbort fn c => Sys2Proof.Machine.execDmaAbort fn c s
  | .dmaRestart fn => Sys2Proof.Machine.execDmaRestart fn s
  | .dmaEnableWrite fn en => Sys2Proof.Machine.execDmaEnableWrite fn en s
  | .dmaDescriptorRead c => Sys2Proof.Machine.execDmaDescriptorRead c s
  | .dmaPollExpiry c => Sys2Proof.Machine.execDmaPollExpiry c s
  | .dmaBeatArbitration => Sys2Proof.Machine.execDmaBeatArbitration s
  | .dmaDescriptorComplete c => Sys2Proof.Machine.execDmaDescriptorComplete c s
  | .dmaPulseOffer c => Sys2Proof.Machine.execDmaPulseOffer c s
  | .evcEnable fn => Sys2Proof.Machine.execEvcEnable fn s
  | .eventRouteWrite fn src val => Sys2Proof.Machine.execEventRouteWrite fn src val s
  | .coalesceTimerExpiry v => Sys2Proof.Machine.execCoalesceTimerExpiry v s
  | .repeatTimerExpiry v => Sys2Proof.Machine.execRepeatTimerExpiry v s
  | .msixUnmask inst v => Sys2Proof.Machine.execMsixUnmask inst v s
  | .faultReportTake => Sys2Proof.Machine.execFaultReportTake s
  | .faultRecordClose n => Sys2Proof.Machine.execFaultRecordClose n s
  | .faultRecordRead fn n => Sys2Proof.Machine.execFaultRecordRead fn n s
  | .pllControlWrite fn l val => Sys2Proof.Machine.execPllControlWrite fn l val s
  | .pllLock l => Sys2Proof.Machine.execPllLock l s
  | .pllReady l => Sys2Proof.Machine.execPllReady l s
  | .pllLossOfLock l => Sys2Proof.Machine.execPllLossOfLock l s
  | .clockSourceSwitch fn d src => Sys2Proof.Machine.execClockSourceSwitch fn d src s
  | .clockSwitchComplete d lost missed => Sys2Proof.Machine.execClockSwitchComplete d lost missed s
  | .plannerEvaluation => Sys2Proof.Machine.execPlannerEvaluation s
  | .powerStateExitComplete u => Sys2Proof.Machine.execPowerStateExitComplete u s
  | .offEntry => Sys2Proof.Machine.execOffEntry s
  | .offWake src elapsed b => Sys2Proof.Machine.execOffWake src elapsed b s
  | .heartbeatPeriodEnd e => Sys2Proof.Machine.execHeartbeatPeriodEnd e s
  | .swapTokenAcquired r => Sys2Proof.Machine.execSwapTokenAcquired r s
  | .swapSelfCheckDone r pass => Sys2Proof.Machine.execSwapSelfCheckDone r pass s
  | .swapRemap r => Sys2Proof.Machine.execSwapRemap r s
  | .healthFuseProgrammed => Sys2Proof.Machine.execHealthFuseProgrammed s
  | .fenceDrop u => Sys2Proof.Machine.execFenceDrop u s
  | .ageMeasurement margin monitor => Sys2Proof.Machine.execAgeMeasurement margin monitor s
  | .guardBandStepApplied => Sys2Proof.Machine.execGuardBandStepApplied s
  | .cpll0Suspect => Sys2Proof.Machine.execCpll0Suspect s
  | .pllRetire fn => Sys2Proof.Machine.execPllRetire fn s
  | .coreHeartbeat k => Sys2Proof.Machine.execCoreHeartbeat k s
  | .coreHeartbeatExpiry k => Sys2Proof.Machine.execCoreHeartbeatExpiry k s
  | .reserveCoreReady k => Sys2Proof.Machine.execReserveCoreReady k s
  | .powerOnReset => Sys2Proof.Machine.execPowerOnReset s
  | .porstRelease oscDly mgr => Sys2Proof.Machine.execPorstRelease oscDly mgr s
  | .oscDelayExpiry b => Sys2Proof.Machine.execOscDelayExpiry b s
  | .warmResetPin => Sys2Proof.Machine.execWarmResetPin s
  | .warmResetRequest fn b => Sys2Proof.Machine.execWarmResetRequest fn b s
  | .firmwareRestart fn b => Sys2Proof.Machine.execFirmwareRestart fn b s
  | .engineReset fn e => Sys2Proof.Machine.execEngineReset fn e s
  | .rootPortReset fn p => Sys2Proof.Machine.execRootPortReset fn p s
  | .rootPortResetDone p => Sys2Proof.Machine.execRootPortResetDone p s
  | .i2cWrite index => Sys2Proof.Machine.execI2cWrite index s
  | .i2cRead hottest sensor => Sys2Proof.Machine.execI2cRead hottest sensor s
  | .warmResetRelease b => Sys2Proof.Machine.execWarmResetRelease b s
  | .commandWaitExpiry k => Sys2Proof.Machine.execCommandWaitExpiry k s
  | .hostPortLinkUp h width speed => Sys2Proof.Machine.execHostPortLinkUp h width speed s
  | .referenceOscillatorStop => Sys2Proof.Machine.execReferenceOscillatorStop s
  | .referenceOscillatorRestart => Sys2Proof.Machine.execReferenceOscillatorRestart s

end Sys2Proof.Machine
end

