-- ==== Sys2Proof/Safety.lean ====
section
/-! DEFINITION. The terms the claims use: the canonical form of memory, what a command may leave changed, the conditions under
which a write reaches its block and an engine executes. -/

namespace Sys2Proof.Machine

/-- Memory is in its canonical form: addresses strictly rising, no byte equal to what an unlisted one reads as. -/
abbrev Memory.wf (m : SMap Byte) : Prop := smWf 0 m = true

/-- Command `i` is answered with a next state of which `P` holds. -/
def State.answers (s : State) (i : Instr) (P : State → Prop) : Prop := ∃ t, exec i s = .next t ∧ P t

/-! ## Frames -/

/-- Register keys that the event controller writes by itself in any cycle: EVC_CNT, EVC_CVCFG and EVC_VCFG (R530–R533). -/
def evcKey (k : Nat) : Bool :=
  k / 32 == 0x30008 || (decide (0x36000 ≤ k / 32) && decide (k / 32 < 0x36100)) ||
    (decide (0x38000 ≤ k / 32) && decide (k / 32 < 0x40000))
/-- The state without its registers and without what the end of any command may change: outputs, free values, what the event
controller holds, FAULT_N, and the commands in execution with their host reads. -/
def State.still (s : State) : State :=
  { s with regs := [], out := [], free := 0, hostReads := [], pba := [], evc := {}, faultN := true,
           cmds := { s.cmds with cmd := [] } }
/-- Every register key keeps its value from `s` to `t`, but those of `l` and the event controller's own. -/
def State.regsKept (s t : State) (l : List Nat) : Prop :=
  ∀ k, evcKey k = false → k ∉ l → smFind t.regs k = smFind s.regs k
/-- Nothing changed but the registers of `l`. -/
def State.onlyRegs (s t : State) (l : List Nat) : Prop := t.still = s.still ∧ s.regsKept t l

/-- From `s` to `t` the block put out `l`, in order, and then perhaps what ends a command (interrupts, reads of a code load). -/
def State.puts (s t : State) (l : List Output) : Prop := ∃ r, t.out = r ++ (l.reverse ++ s.out)
/-- From `s` to `t` the blocks `l` left root port p together, after what stood in passage on its lane, or behind CUT where they were
inserted there (R75, R170). -/
def State.sends (s t : State) (p : Nat) (l : List Block) : Prop :=
  ∃ pre m, (∀ o ∈ pre, ∃ b, o = .lane p b) ∧ (m = l ∨ m = cutBlock :: l) ∧ s.puts t (pre ++ [.lane p m])
/-- Nothing changed but root port p, which holds `x`, and the registers of `l`. -/
def State.portOnly (s t : State) (p : Nat) (x : Port) (l : List Nat) : Prop :=
  t.getPort p = x ∧ (∀ q, q ≠ p → t.getPort q = s.getPort q) ∧ t.still = { s with port := t.port }.still ∧ s.regsKept t l
/-- Nothing changed but track k, which holds `x`, and the registers of `l`. -/
def State.trackOnly (s t : State) (k : Nat) (x : Track) (l : List Nat) : Prop :=
  t.getTrack k = x ∧ (∀ q, q ≠ k → t.getTrack q = s.getTrack q) ∧ t.still = { s with track := t.track }.still ∧ s.regsKept t l
/-- Nothing changed but marker m, which holds `x`, and the registers of `l`. -/
def State.markerOnly (s t : State) (m : Nat) (x : Marker) (l : List Nat) : Prop :=
  t.getMarker m = x ∧ (∀ q, q ≠ m → t.getMarker q = s.getMarker q) ∧ t.still = { s with marker := t.marker }.still ∧ s.regsKept t l

/-- Nothing changed but queue context c, which holds `x`, and the registers of `l`. -/
def State.queueOnly (s t : State) (c : Nat) (x : Wqc) (l : List Nat) : Prop :=
  t.getWq c = x ∧ (∀ d, d ≠ c → t.getWq d = s.getWq d) ∧ t.still = { s with wq := t.wq }.still ∧ s.regsKept t l
/-- Nothing changed but DMA channel c, which holds `x`, and the registers of `l`. -/
def State.chanOnly (s t : State) (c : Nat) (x : Chan) (l : List Nat) : Prop :=
  t.getChan c = x ∧ (∀ d, d ≠ c → t.getChan d = s.getChan d) ∧ t.still = { s with dma := { s.dma with chan := t.dma.chan } }.still ∧
    s.regsKept t l

/-- A write of function fn at `off` reaches its block (R14–R17, R366). -/
def State.reaches (s : State) (fn off : Nat) : Prop := (s.gate fn off true).1 = true
/-- A read of function fn at `off` reaches its block. -/
def State.readable (s : State) (fn off : Nat) : Prop := (s.gate fn off false).1 = true

/-! ## Root ports -/

/-- Root port p has nothing that goes on by itself: no frame has begun or its frame is closed and the walker lets nothing go, no handshake
waits, no firmware transaction, no enumeration, and none that the firmware would start. -/
def State.rests (s : State) (p : Nat) : Prop :=
  ((s.getWalk p).live = false ∨ ((s.getWalk p).closed = true ∧ (s.getWalk p).sync = [])) ∧ (s.getPort p).held = [] ∧ (s.getPort p).fw = [] ∧ (s.getPort p).enum = none ∧
    ((s.getPort p).attach = [] ∨ s.rd R.CMD_STAT_FWRDY = 0) ∧ ∀ e ∈ s.cmds.cmd, e.2.wait ≠ .enum p
/-- A port once the blocks l have left it (R74). -/
def Port.sent (x : Port) (l : List Block) : Port :=
  { x with unskip := if 2047 < x.unskip + l.length then l.length else x.unskip + l.length }
/-- Nothing is attached to root port p or under way on it: no address valid, no transfer, pair, transaction or cancel. -/
def State.bare (s : State) (p : Nat) : Prop :=
  s.addrs p = [] ∧ (s.getPort p).xfers = [] ∧ (s.getPort p).pairs = [] ∧ (s.getPort p).cur = none ∧ (s.getPort p).cur0 = none ∧
    (s.getPort p).fw = [] ∧ (s.getPort p).enum = none ∧ s.rd R.SCH_CANCEL_GO p = 0

/-- Root port p accepts the packet: complete, of type `ty`, from a device whose address and generation are current (R100, R133). -/
def State.accepts (s : State) (p : Nat) (k : RxPacket) (ty : Nat) : Prop :=
  (s.lstate p = lL0 ∨ s.lstate p = lENTRY) ∧ k.crcOk = true ∧ k.formOk = true ∧ k.ty = ty ∧ k.addr ≠ 0 ∧ k.addr ≠ 127 ∧
    s.genOk p k.addr k.gen = true

/-! ## Memory, cairns and operands -/

/-- A stored word is neither in error nor poisoned: a read delivers it as it stands and counts nothing (R477, R478). -/
def State.clean (s : State) (a : Nat) : Prop := smFind s.upset (a / 4) = none ∧ setHas s.poison (a / 4) = false

/-- List memory address a is that of a descriptor, and every word of it is stored clean. -/
def State.descClean (s : State) (a : Nat) : Prop := a % 64 = 0 ∧ ∀ k, k < 16 → s.clean (saList a + 4 * k)
/-- From `s` to `t` the descriptor at a completed with a STATUS that stops it: ACTIVE, words 9–13, and no other byte (R205, R218). -/
def State.completed (s t : State) (p a : Nat) (d : Desc) (status done : Nat) (w11 : Word) : Prop :=
  (t.rawWord (saList a + 4)).getLsbD 31 = false ∧ bits (t.rawWord (saList a + 36)) 31 24 = status ∧
    bits (t.rawWord (saList a + 36)) 22 22 = b2n d.retried ∧ bits (t.rawWord (saList a + 36)) 15 0 = s.rd R.PTU_PFNUM_FNUM p ∧
    t.rawWord (saList a + 40) = w32 done ∧ t.rawWord (saList a + 44) = w11 ∧ t.rawWord (saList a + 48) = s.nsLo ∧
    t.rawWord (saList a + 52) = w32 (s.ns.toNat / 2 ^ 32) ∧
    ∀ b, ¬(saList a + 4 ≤ b ∧ b < saList a + 8) → ¬(saList a + 36 ≤ b ∧ b < saList a + 56) → t.byteAt b = s.byteAt b

/-- Every word of cairn c is stored clean. -/
def State.cairnClean (s : State) (c : Nat) : Prop := ∀ w, w < 16 → s.clean (saCairn c w)
/-- Where slot k of cairn c takes its next operand (R233). -/
def State.slotPlace (s : State) (c k : Nat) : Nat := s.opSa c k ((s.cHead c k + s.cCnt c k) % s.cDepth c k)
/-- Slot k of cairn c has room, and the cairn is READY, BELAYED or RUNNING, so that an operand only joins the slot. -/
def State.slotOpen (s : State) (c k : Nat) : Prop :=
  k < 8 ∧ s.cairnClean c ∧ (s.cst c = 2 ∨ s.cst c = 3 ∨ s.cst c = 5) ∧ s.cCnt c k < s.cDepth c k ∧
    s.clean (s.slotPlace c k) ∧ s.clean (s.slotPlace c k + 4)
/-- From `s` to `t` slot k of cairn c took the operand (w0, w1); memory changed there, in the cairn's CNT word, and in the words `l`
of the cairn. -/
def State.tookOperand (s t : State) (c k : Nat) (w0 w1 : Word) (l : List Nat) : Prop :=
  let a := s.slotPlace c k
  t.rawWord a = w0 ∧ t.rawWord (a + 4) = w1 ∧ t.cCnt c k = s.cCnt c k + 1 ∧ t.cst c = s.cst c ∧
    ∀ b, ¬(a ≤ b ∧ b < a + 8) → (∀ w ∈ 5 :: l, ¬(saCairn c w ≤ b ∧ b < saCairn c w + 4)) → t.byteAt b = s.byteAt b

/-! ## Commands -/

/-- Core k has taken command c, of opcode `op`, from the queue 0 of an instance, and has not acted on it (R435, R437). -/
def State.commanded (s : State) (k op : Nat) (c : Cmd) : Prop :=
  s.phase = .running ∧ s.getCmd k = some c ∧ c.op = op ∧ c.wait = .toAct ∧ c.ctx < 128 ∧ smSorted s.cmds.cmd = true
/-- The write of command c to host memory, where its queue still writes (R427, R445). -/
def State.cmdPut (s : State) (c : Cmd) (addr : Nat) (data : List Byte) : List Output :=
  if s.wqWrites c.ctx then [.hostWrite c.ctx (s.wqPasid c.ctx) addr data false] else []
/-- From `s` to `t` the block put out `l`, and core k answered command c with a reply over its entry, and is free (R426, R436). -/
def State.replied (s t : State) (k : Nat) (c : Cmd) (l : List Output) (status second : Nat) (ws : List Word) : Prop :=
  t.getCmd k = none ∧ nbit (t.rd R.CMD_STAT_BUSY) k = false ∧
    s.puts t (l ++ s.cmdPut c (s.entAddr c.ctx c.idx) (wordsBytes (replyWords c k status second ws))) ∧
    t.rd R.CMD_CNT_COMMANDS = (s.rd R.CMD_CNT_COMMANDS + 1) % 2 ^ 16 ∧
    t.rd R.CMD_CNT_REFUSED = if status = 0 then s.rd R.CMD_CNT_REFUSED else min 65535 (s.rd R.CMD_CNT_REFUSED + 1)
/-- Registers that a reply to command c changes. -/
def replyKeys (c : Cmd) : List Nat :=
  [R.CMD_CNT_COMMANDS.key, R.CMD_CNT_REFUSED.key, R.CMD_STAT_BUSY.key, R.WQ_QSTATE_STAGED.key c.ctx, R.WQ_QIDX_HEAD.key c.ctx,
    R.WQ_FHEAD_HEAD.key c.ctx 0]
/-- Nothing else happened than the outputs `l`, that reply, and changes of the registers `m`; the command's entry has retired. -/
def State.replyOnly (s t : State) (k : Nat) (c : Cmd) (l : List Output) (status second : Nat) (ws : List Word) (m : List Nat) : Prop :=
  s.replied t k c l status second ws ∧
    (t.getWq c.ctx).jobs = (s.getWq c.ctx).jobs.filter (fun j => decide (j.first ≠ c.idx)) ∧
    (∀ d, d ≠ c.ctx → t.getWq d = s.getWq d) ∧ t.still = { s with wq := t.wq }.still ∧ s.regsKept t (replyKeys c ++ m)
/-- Core k's command c waits for `w` (R437). -/
def State.waits (t : State) (k : Nat) (c : Cmd) (w : CmdWait) : Prop := t.getCmd k = some { c with wait := w }
/-- Command `i` of core k, of opcode `op`, is answered OK with the words `ws`, and nothing else happens. -/
def State.tells (s : State) (i : Instr) (k op : Nat) (c : Cmd) (ws : List Word) : Prop :=
  s.commanded k op c → s.answers i (fun t => s.replyOnly t k c [] stOK 0 ws [])
/-- Command `i` of core k, of opcode `op`, is refused with a status and its secondary, and nothing else happens. -/
def State.refuses (s : State) (i : Instr) (k op : Nat) (c : Cmd) (status second : Nat) : Prop :=
  s.commanded k op c → s.answers i (fun t => s.replyOnly t k c [] status second [] [])

/-! ## Engines -/

/-- The word at PC of engine e is fetched without an error or poison. -/
def State.fetchClean (s : State) (e : Nat) : Prop :=
  ∃ i, s.physOf e = some i ∧ smGet s.upset 0 ((saEngine i + (s.getEng e).pc.toNat) / 4) = 0 ∧
    setHas s.poison ((saEngine i + (s.getEng e).pc.toNat) / 4) = false
/-- Engine e executes an instruction now and meets none of the causes that every instruction can meet: `falls` says that the
next word may follow it, `regs` are its register sources (R297, R320, R321). -/
def State.runs (s : State) (e : Nat) (falls : Bool) (regs : List Nat) : Prop :=
  s.phase = .running ∧ s.issues e = true ∧ (s.getEng e).pc.toNat < 0x4000 ∧
    (falls = true → (s.getEng e).pc.toNat / 4 ≠ 4095) ∧ s.fetchClean e ∧
    ∀ n ∈ regs, n = 0 ∨ n ∉ (s.getEng e).parBad
/-- Keys of the registers of engine e that show its state: ENG_STAT, ENG_DBG, ENG_DBGPC, ENG_ESTAT.DBGHALT. -/
def engKeys (e : Nat) : List Nat :=
  [R.ENG_STAT_TSTATE, R.ENG_STAT_PREF, R.ENG_STAT_CAIRN, R.ENG_DBG_HALTED, R.ENG_DBG_HALTREQ, R.ENG_DBG_STEP,
    R.ENG_DBGPC_PC, R.ENG_ESTAT_DBGHALT].map (fun f => f.key (ropeOf e) (slotOf e))
/-- Engine e holds `x` after an instruction, but for its cycle count and its heartbeat and single-step notes. -/
def State.holds (t : State) (e : Nat) (x : Eng) : Prop :=
  t.getEng e = { x with lcyc := (t.getEng e).lcyc, hbRet := true, hbHalt := (t.getEng e).hbHalt, step := (t.getEng e).step }
/-- From `s` to `t` engine e retired one instruction that changed nothing but its own registers, now `x`. -/
def State.retired (s t : State) (e : Nat) (x : Eng) : Prop :=
  t.holds e x ∧ (∀ d, d ≠ e → t.getEng d = s.getEng d) ∧ t.still = { s with eng := t.eng }.still ∧ s.regsKept t (engKeys e)
/-- Flags N, Z, C, V of a result (R318). -/
def Eng.flagged (x : Eng) (r : Word) (c v : Bool) : Eng := x.setNZCV r.msb (r == 0) c v
/-- The next instruction in order follows. -/
def Eng.next (x : Eng) : Eng := { x with pc := x.pc + 4 }

/-- Instruction `i` retires on engine e, which then holds `x`; nothing else changed. -/
def State.leaves (s : State) (i : Instr) (e : Nat) (x : Eng) : Prop := s.answers i (fun t => s.retired t e x)

/-- Engine e's access through a global window to `g` is granted, outside the firmware region, and to no memory that is fenced
(R271–R274, R606). -/
def State.windowOk (s : State) (e g : Nat) (write : Bool) : Prop :=
  s.granted (s.getEng e).tinst g write = true ∧ inFirmware g = false ∧
    ∀ n, engOfGlobal g = some n → s.swapping n = false ∧
      (write = true → (imemOfGlobal g).isSome = true → n = e ∨ s.erd R.ENG_CTL_CLOAD n = 1)
/-- The words from the one that holds local address `a` on read `l`, clean, for engine e, and no store that e has posted is to any of
their bytes (R269–R279). -/
def State.holdsWords (s : State) (e : Nat) (a : Word) (l : List Word) : Prop :=
  match (s.getEng e).localMap a.toNat with
  | .win o => ∀ k, k < l.length → o / 4 + k ∉ (s.getEng e).winPois ∧ smGet (s.getEng e).win 0 (o / 4 + k) = l.getD k 0
  | .lreg _ => False
  | .none => False
  | .glob g => s.windowOk e g false ∧ (∀ p ∈ (s.getEng e).wbuf, p.over g (4 * l.length) = false) ∧
      ∃ sa, s.globalSa g = some sa ∧ ∀ k, k < l.length → s.clean (sa / 4 * 4 + 4 * k) ∧ s.rawWord (sa / 4 * 4 + 4 * k) = l.getD k 0
  | m => ∃ sa, s.localSa e m = some sa ∧
      ∀ k, k < l.length → s.clean (sa / 4 * 4 + 4 * k) ∧ s.rawWord (sa / 4 * 4 + 4 * k) = l.getD k 0
/-- A store of engine e at local address `a` reaches memory at `sa`, whose 64-byte burst is clean; cairns and staging have
rules of their own (R230, R412, R472). -/
def State.storesAt (s : State) (e : Nat) (a : Word) (sa : Nat) : Prop :=
  s.localSa e ((s.getEng e).localMap a.toNat) = some sa ∧
    (∀ g, (s.getEng e).localMap a.toNat = .glob g → s.windowOk e g true) ∧
    ¬(0x1020800000 ≤ sa ∧ sa < 0x1020C00000) ∧ ¬(0x1034000000 ≤ sa ∧ sa < 0x1034100000) ∧
    ∀ k, k < 16 → s.clean (sa / 64 * 64 + 4 * k)
/-- From `s` to `t` engine e retired one instruction that stored the bytes `l` from storage address `sa` on and left `x`;
every other byte reads as before. -/
def State.stored (s t : State) (e : Nat) (x : Eng) (sa : Nat) (l : List Byte) : Prop :=
  t.holds e x ∧ (∀ d, d ≠ e → t.getEng d = s.getEng d) ∧ t.still = { s with eng := t.eng, mem := t.mem }.still ∧
    s.regsKept t (engKeys e) ∧
    ∀ b, t.byteAt b = if sa ≤ b ∧ b < sa + l.length then l.getD (b - sa) 0 else s.byteAt b

/-- From `s` to `t` engine e, which held `x`, entered its handler with a cause of R297 (R300). -/
def State.entered (s t : State) (e : Nat) (x : Eng) (code : Nat) (addr : Word) : Prop :=
  t.holds e { x with lxpc := BitVec.ofNat 12 (x.pc.toNat / 4), xact := true, regpar := false, cause := BitVec.ofNat 4 code,
                     lxaddr := addr, pc := w32 (4 * s.erd R.ENG_XVEC_VEC e) } ∧
    (∀ d, d ≠ e → t.getEng d = s.getEng d) ∧ t.still = { s with eng := t.eng }.still ∧
    s.regsKept t (R.ENG_CNT1_HANDLED.key (ropeOf e) (slotOf e) :: engKeys e)
/-- From `s` to `t` the thread of engine e, which held `x`, left it, and its record stands in the completion buffer (R258). -/
def State.left (s t : State) (e : Nat) (x : Eng) (l : Option Byte) (y : Option YieldRec) (halted : Bool) : Prop :=
  (t.getEng e).thr = none ∧
    (∃ r, (t.getEng e).cbuf = some r ∧ r.c = x.tcairn ∧ r.lstat = l ∧ r.yield = y ∧ r.halted = halted ∧
      some r.ops = x.thr.map (·.ops) ∧ r.tEnd = s.nsLo) ∧
    (∀ d, d ≠ e → t.getEng d = s.getEng d) ∧ t.still = { s with eng := t.eng }.still
/-- From `s` to `t` the thread of engine e, which held `x`, ended with a fault, captured in ENG_XSTAT (R301). -/
def State.faulted (s t : State) (e : Nat) (x : Eng) (code : Nat) : Prop :=
  s.left t e x (some 0x80) none true ∧ t.erd R.ENG_XSTAT_VALID e = 1 ∧ t.erd R.ENG_XSTAT_CAUSE e = code ∧
    t.erd R.ENG_XSTAT_XPC e = x.pc.toNat / 4 % 4096 ∧ t.erd R.ENG_XCAIRN_CAIRN e = x.tcairn % 65536

end Sys2Proof.Machine
end

