-- ==== Sys2Proof/Certificates/Slice0/Obligations.lean ====
section
/-! DEFINITION. The statements for the provers. -/

open Sys2Proof Sys2Proof.Machine

/-! ## Engine instructions -/

/-- The register forms of OP 0x00 (R323): their results and flags, for every register number; g0 as a destination discards
the result (R316). -/
def Obligations.AluRegisterForms : Prop :=
  ∀ (s : State) (e : EngNo) (rd ra rb : BitVec 5) (cond : BitVec 4),
    let x := s.getEng e.toNat
    let a := x.gr ra.toNat
    let b := x.gr rb.toNat
    let c := w32 (b2n x.flagC)
    let f : RFmt := ⟨rd, ra, rb, 0, 0⟩
    let one : RFmt := ⟨rd, ra, 0, 0, 0⟩
    let none : RFmt := ⟨0, ra, rb, 0, 0⟩
    let codeA (r : Word) (k : Nat) (y : Eng) : Eng :=
      (y.flagged r (decide (2 ^ 32 ≤ k)) (a.msb == b.msb && r.msb != a.msb)).next
    let codeS (r : Word) (k : Nat) (y : Eng) : Eng :=
      (y.flagged r (decide (a.toNat < k)) (a.msb != b.msb && r.msb != a.msb)).next
    let codeL (r : Word) (y : Eng) : Eng := (y.flagged r false false).next
    let put (r : Word) : Eng := x.setG rd.toNat r
    let logic (i : Instr) (r : Word) : Prop := s.leaves i e.toNat (codeL r (put r))
    (s.runs e.toNat true [ra.toNat, rb.toNat] →
      s.leaves (.add e f) e.toNat (codeA (a + b) (a.toNat + b.toNat) (put (a + b))) ∧
      s.leaves (.sub e f) e.toNat (codeS (a - b) b.toNat (put (a - b))) ∧
      s.leaves (.adc e f) e.toNat (codeA (a + b + c) (a.toNat + b.toNat + b2n x.flagC) (put (a + b + c))) ∧
      s.leaves (.sbc e f) e.toNat (codeS (a - b - c) (b.toNat + b2n x.flagC) (put (a - b - c))) ∧
      logic (.andr e f) (a &&& b) ∧ logic (.orr e f) (a ||| b) ∧ logic (.xorr e f) (a ^^^ b) ∧ logic (.andn e f) (a &&& ~~~b) ∧
      logic (.sll e f) (shl a (b.toNat % 256)) ∧ logic (.srl e f) (shr a (b.toNat % 256)) ∧
      logic (.sra e f) (sar a (b.toNat % 256)) ∧ logic (.ror e f) (ror a (b.toNat % 256)) ∧
      logic (.mins e f) (if a.slt b then a else b) ∧ logic (.maxs e f) (if a.slt b then b else a) ∧
      logic (.minu e f) (if a.ult b then a else b) ∧ logic (.maxu e f) (if a.ult b then b else a) ∧
      s.leaves (.cmp e none) e.toNat (codeS (a - b) b.toNat x) ∧
      s.leaves (.tst e none) e.toNat (codeL (a &&& b) x) ∧
      s.leaves (.sel e ⟨rd, ra, rb, 0, cond⟩) e.toNat (put (if condHolds x cond then a else b)).next) ∧
    (s.runs e.toNat true [ra.toNat] →
      let m : Word := 0x80000000
      let abs : Word := if a.msb then 0 - a else a
      s.leaves (.neg e one) e.toNat
        (((put (0 - a)).flagged (0 - a) (decide (a ≠ 0 ∧ a ≠ m)) (a == m)).next) ∧
      s.leaves (.abs e one) e.toNat (((put abs).flagged abs false (a == m)).next) ∧
      logic (.clz e one) (w32 (leadZeros a)) ∧ logic (.popc e one) (w32 (popcount a)) ∧ logic (.bswap e one) (byteSwap a) ∧
      logic (.sextb e one) ((a.setWidth 8).signExtend 32) ∧ logic (.sexth e one) ((a.setWidth 16).signExtend 32))

/-- Multiply and divide (R324), with the results at the edges of their ranges (R325). A division by 0 while TRAPDZ = 1 raises
an exception instead, stated in `ExceptionsEnterTheHandler`. -/
def Obligations.MultiplyAndDivide : Prop :=
  ∀ (s : State) (e : EngNo) (rd ra rb : BitVec 5),
    let x := s.getEng e.toNat
    let a := x.gr ra.toNat
    let b := x.gr rb.toNat
    let f : RFmt := ⟨rd, ra, rb, 0, 0⟩
    let wide : BitVec 64 := a.signExtend 64 * b.signExtend 64
    let edge := a == 0x80000000 && b == 0xFFFFFFFF
    let put (r : Word) (v : Bool) : Eng := (x.setG rd.toNat r).flagged r false v
    let divided (y : Eng) : Eng := (if b = 0 then y.setDZ else y).next
    s.runs e.toNat true [ra.toNat, rb.toNat] →
      (s.leaves (.mul e f) e.toNat (put (a * b) (decide ((a * b).signExtend 64 ≠ wide))).next ∧
        s.leaves (.mulh e f) e.toNat (put (wide.extractLsb' 32 32) false).next ∧
        s.leaves (.mulhu e f) e.toNat (put ((a.setWidth 64 * b.setWidth 64 : BitVec 64).extractLsb' 32 32) false).next) ∧
      (b ≠ 0 ∨ s.erd R.ENG_CTL_TRAPDZ e.toNat = 0 →
        s.leaves (.div e f) e.toNat (divided (put
          (if b = 0 then (if a.msb then 0x80000000 else 0x7FFFFFFF) else a.sdiv b) edge)) ∧
        s.leaves (.divu e f) e.toNat (divided (put (if b = 0 then 0xFFFFFFFF else a.udiv b) false)) ∧
        s.leaves (.rem e f) e.toNat (divided (put (if b = 0 then a else a.srem b) edge)) ∧
        s.leaves (.remu e f) e.toNat (divided (put (if b = 0 then a else a.umod b) false)))

/-- The immediate forms (R327). The amount of a shift stands in IMM[7:0], and IMM[15:8] is 0 (R326). -/
def Obligations.ImmediateForms : Prop :=
  ∀ (s : State) (e : EngNo) (rd ra : BitVec 5) (imm : BitVec 16) (amount : BitVec 8),
    let x := s.getEng e.toNat
    let a := x.gr ra.toNat
    let f : IFmt := ⟨rd, ra, imm⟩
    let sh : IFmt := ⟨rd, ra, amount.setWidth 16⟩
    let sx : Word := imm.signExtend 32
    let zx : Word := imm.setWidth 32
    let gives (i : Instr) (r : Word) : Prop := s.leaves i e.toNat (x.setG rd.toNat r).next
    let d := a - sx
    (s.runs e.toNat true [ra.toNat] →
      gives (.addi e f) (a + sx) ∧ gives (.andi e f) (a &&& zx) ∧ gives (.ori e f) (a ||| zx) ∧ gives (.xori e f) (a ^^^ zx) ∧
      gives (.slli e sh) (if amount.toNat < 32 then a <<< amount.toNat else 0) ∧
      gives (.srli e sh) (if amount.toNat < 32 then a >>> amount.toNat else 0) ∧
      gives (.srai e sh) (if amount.toNat < 32 then a.sshiftRight amount.toNat else if a.msb then 0xFFFFFFFF else 0) ∧
      gives (.rori e sh) (a.rotateRight (amount.toNat % 32)) ∧
      s.leaves (.cmpi e ⟨0, ra, imm⟩) e.toNat
        (x.flagged d (a.ult sx) (a.msb != sx.msb && d.msb != a.msb)).next ∧
      s.leaves (.tsti e ⟨0, ra, imm⟩) e.toNat (x.flagged (a &&& zx) false false).next) ∧
    (s.runs e.toNat true [] → gives (.lui e ⟨rd, 0, imm⟩) (zx <<< 16))

/-- Loads of aligned, clean data: own memories, the thread window, rope shared memory and the global windows (R328, R269–R271). A
global load of a word that the engine has stored before waits until the store is visible, and returns it (R277). -/
def Obligations.LoadsReturnMemory : Prop :=
  ∀ (s : State) (e : EngNo) (rd ra : BitVec 5) (imm : BitVec 16) (w w1 : Word) (sa g m : Nat),
    let x := s.getEng e.toNat
    let a := x.gr ra.toNat + imm.signExtend 32
    let f : IFmt := ⟨rd, ra, imm⟩
    let moved := w >>> (8 * (a.toNat % 4))
    let gives (i : Instr) (r : Word) : Prop := s.leaves i e.toNat (x.setG rd.toNat r).next
    s.runs e.toNat true [ra.toNat] →
      (s.holdsWords e.toNat a [w] →
        gives (.lb e f) ((moved.setWidth 8).signExtend 32) ∧ gives (.lbu e f) ((moved.setWidth 8).setWidth 32) ∧
        (a.toNat % 2 = 0 →
          gives (.lh e f) ((moved.setWidth 16).signExtend 32) ∧ gives (.lhu e f) ((moved.setWidth 16).setWidth 32)) ∧
        (a.toNat % 4 = 0 → gives (.lw e f) w)) ∧
      (s.holdsWords e.toNat a [w, w1] → a.toNat % 8 = 0 → rd.getLsbD 0 = false →
        s.leaves (.ld e f) e.toNat ((x.setG rd.toNat w).setG (rd.toNat + 1) w1).next) ∧
      (x.localMap a.toNat = .glob g → x.wbuf = [⟨g, 4, w, m⟩] → a.toNat % 4 = 0 → s.windowOk e.toNat g false → s.storesAt e.toNat a sa →
        s.answers (.lw e f) (fun t => t.holds e.toNat ({ x with wbuf := [] }.setG rd.toNat w).next ∧ t.rawWord sa = w))

/-- Stores to aligned memory: the bytes stored, at the storage address of EA, and every other byte as before (R328): at once in the
engine's own memories and its rope's, and where the stores that the engine has posted have become visible through a global window. No
more than 8 stores are ever posted (R275, R276, R278). -/
def Obligations.StoresWriteMemory : Prop :=
  ∀ (s : State) (e : EngNo) (rd ra : BitVec 5) (imm : BitVec 16) (sa : Nat),
    let x := s.getEng e.toNat
    let a := x.gr ra.toNat + imm.signExtend 32
    let f : IFmt := ⟨rd, ra, imm⟩
    let v := wordBytes (x.gr rd.toNat)
    let stores (i : Instr) (l : List Byte) : Prop :=
      ((∀ g, x.localMap a.toNat ≠ .glob g) → s.answers i (fun t => s.stored t e.toNat x.next sa l)) ∧
      (x.wbuf = [] → s.answers i (fun t => s.stored (t.landAll e.toNat) e.toNat x.next sa l)) ∧
      (x.wbuf.length ≤ 8 → s.answers i (fun t => (t.getEng e.toNat).wbuf.length ≤ 8))
    s.storesAt e.toNat a sa →
      (s.runs e.toNat true [ra.toNat, rd.toNat] →
        stores (.sb e f) (v.take 1) ∧ (a.toNat % 2 = 0 → stores (.sh e f) (v.take 2)) ∧ (a.toNat % 4 = 0 → stores (.sw e f) v)) ∧
      (s.runs e.toNat true [ra.toNat, rd.toNat, rd.toNat + 1] → a.toNat % 8 = 0 → rd.getLsbD 0 = false →
        stores (.sd e f) (v ++ wordBytes (x.gr (rd.toNat + 1))))

/-- 32-bit atomics on the own rope's shared memory: rd takes the old word, memory the new one; only ACAS changes a flag (R330). -/
def Obligations.WordAtomics : Prop :=
  ∀ (s : State) (e : EngNo) (rd ra rb : BitVec 5) (old : Word),
    let x := s.getEng e.toNat
    let a := x.gr ra.toNat
    let b := x.gr rb.toNat
    let f : RFmt := ⟨rd, ra, rb, 0, 0⟩
    let sa := saRope (ropeOf e.toNat) + (a.toNat - 0x80000)
    let y := x.setG rd.toNat old
    let z (k : Bool) : Eng := { y with flags := y.flags &&& 0x1E ||| BitVec.ofNat 5 (b2n k) }
    let becomes (i : Instr) (w : Word) (q : Eng) : Prop :=
      s.answers i (fun t => s.stored t e.toNat q.next sa (wordBytes w))
    0x80000 ≤ a.toNat → a.toNat < 0x100000 → a.toNat % 4 = 0 → s.holdsWords e.toNat a [old] →
      (s.runs e.toNat true [ra.toNat, rb.toNat] →
        becomes (.aaddW e f) (old + b) y ∧ becomes (.aandW e f) (old &&& b) y ∧ becomes (.aorW e f) (old ||| b) y ∧
        becomes (.axorW e f) (old ^^^ b) y ∧ becomes (.aswpW e f) b y) ∧
      (s.runs e.toNat true [ra.toNat, rb.toNat, rd.toNat] →
        (old = x.gr rd.toNat → becomes (.acasW e f) b (z true)) ∧
        (old ≠ x.gr rd.toNat → s.leaves (.acasW e f) e.toNat (z false).next))

/-- 64-bit atomics on the own rope's shared memory, with rd and rb naming even pairs (R316, R330). -/
def Obligations.DoubleAtomics : Prop :=
  ∀ (s : State) (e : EngNo) (rd ra rb : BitVec 5) (lo hi : Word),
    let x := s.getEng e.toNat
    let a := x.gr ra.toNat
    let old : BitVec 64 := hi ++ lo
    let b : BitVec 64 := x.gr (rb.toNat + 1) ++ x.gr rb.toNat
    let d : BitVec 64 := x.gr (rd.toNat + 1) ++ x.gr rd.toNat
    let f : RFmt := ⟨rd, ra, rb, 0, 0⟩
    let sa := saRope (ropeOf e.toNat) + (a.toNat - 0x80000)
    let y := (x.setG rd.toNat lo).setG (rd.toNat + 1) hi
    let z (k : Bool) : Eng := { y with flags := y.flags &&& 0x1E ||| BitVec.ofNat 5 (b2n k) }
    let becomes (i : Instr) (w : BitVec 64) (q : Eng) : Prop :=
      s.answers i (fun t => s.stored t e.toNat q.next sa (wordBytes (w.extractLsb' 0 32) ++ wordBytes (w.extractLsb' 32 32)))
    rd.getLsbD 0 = false → rb.getLsbD 0 = false → 0x80000 ≤ a.toNat → a.toNat < 0x100000 → a.toNat % 8 = 0 →
      s.holdsWords e.toNat a [lo, hi] →
      (s.runs e.toNat true [ra.toNat, rb.toNat, rb.toNat + 1] →
        becomes (.aaddD e f) (old + b) y ∧ becomes (.aandD e f) (old &&& b) y ∧ becomes (.aorD e f) (old ||| b) y ∧
        becomes (.axorD e f) (old ^^^ b) y ∧ becomes (.aswpD e f) b y) ∧
      (s.runs e.toNat true [ra.toNat, rb.toNat, rb.toNat + 1, rd.toNat, rd.toNat + 1] →
        (old = d → becomes (.acasD e f) b (z true)) ∧
        (old ≠ d → s.leaves (.acasD e f) e.toNat (z false).next))

/-- Branches and jumps inside the instruction memory (R331, R332). -/
def Obligations.ControlTransfers : Prop :=
  ∀ (s : State) (e : EngNo) (rd ra : BitVec 5) (cond : BitVec 4) (off : BitVec 22) (off26 : BitVec 26),
    let x := s.getEng e.toNat
    let a := x.gr ra.toNat
    let r : RFmt := ⟨rd, ra, 0, 0, 0⟩
    let inside (n : Int) : Prop := 0 ≤ n ∧ n < 0x4000
    let near : Word := x.pc + 4 * off.signExtend 32
    let far : Word := x.pc + 4 * off26.signExtend 32
    (condHolds x cond = false → s.runs e.toNat true [] → s.leaves (.br e ⟨cond, off⟩) e.toNat x.next) ∧
    (condHolds x cond = true → s.runs e.toNat false [] → inside (x.pc.toNat + 4 * off.toInt) →
      s.leaves (.br e ⟨cond, off⟩) e.toNat { x with pc := near }) ∧
    (s.runs e.toNat false [] → inside (x.pc.toNat + 4 * off26.toInt) →
      s.leaves (.j e ⟨off26⟩) e.toNat { x with pc := far } ∧
      s.leaves (.jal e ⟨off26⟩) e.toNat { x.setG 31 (x.pc + 4) with pc := far }) ∧
    (s.runs e.toNat false [ra.toNat] → a.toNat < 0x4000 → a.toNat % 4 = 0 →
      s.leaves (.jr e ⟨0, ra, 0, 0, 0⟩) e.toNat { x with pc := a } ∧
      s.leaves (.jalr e r) e.toNat { x.setG rd.toNat (x.pc + 4) with pc := a })

/-- Fences, the flags register, the return from an exception handler and BREAK while DBGEN = 1 (R300, R308, R334). After MFENCE every
store that the engine has posted is visible (R279). -/
def Obligations.SystemInstructions : Prop :=
  ∀ (s : State) (e : EngNo) (rd ra : BitVec 5),
    let x := s.getEng e.toNat
    let zero : RFmt := ⟨0, 0, 0, 0, 0⟩
    (s.runs e.toNat true [] →
      (x.wbuf = [] → s.leaves (.mfence e zero) e.toNat x.next) ∧
      s.answers (.mfence e zero) (fun t => t.holds e.toNat { x.next with wbuf := [] } ∧ t.mem = (s.landAll e.toNat).mem) ∧
      s.leaves (.ifence e zero) e.toNat x.next ∧
      s.leaves (.rdf e ⟨rd, 0, 0, 0, 0⟩) e.toNat (x.setG rd.toNat (x.flags.setWidth 32)).next ∧
      (s.erd R.ENG_DBG_DBGEN e.toNat = 1 → s.answers (.breakpt e zero) (fun t => s.retired t e.toNat x.next ∧
        t.erd R.ENG_DBG_HALTED e.toNat = 1 ∧ t.erd R.ENG_DBGPC_PC e.toNat = x.next.pc.toNat / 4 % 4096 ∧
        t.erd R.ENG_ESTAT_DBGHALT e.toNat = 1))) ∧
    (s.runs e.toNat true [ra.toNat] →
      s.leaves (.wrf e ⟨0, ra, 0, 0, 0⟩) e.toNat { x with flags := (x.gr ra.toNat).setWidth 5 }.next) ∧
    (s.runs e.toNat false [] → x.xact = true →
      s.leaves (.xret e zero) e.toNat { x with xact := false, pc := 4 * x.lxpc.setWidth 32 })

/-- Integer lane operations of the array coprocessor and their status bits (R346, R347). The ACP never changes the flags. -/
def Obligations.LaneOperations : Prop :=
  ∀ (s : State) (e : EngNo) (vd va vb vc : BitVec 4),
    let x := s.getEng e.toNat
    let f : VFmt := ⟨vd, va, vb, 0, 0, 0⟩
    let A (i : Nat) : Word := (x.vr va.toNat).extractLsb' (32 * i) 32
    let B (i : Nat) : Word := (x.vr vb.toNat).extractLsb' (32 * i) 32
    let C (i : Nat) : Word := (x.vr vc.toNat).extractLsb' (32 * i) 32
    let bit (k : Nat) (p : Nat → Bool) (i : Nat) : BitVec 12 := if p i then BitVec.ofNat 12 (2 ^ (k + i)) else 0
    let all (k : Nat) (p : Nat → Bool) : BitVec 12 := bit k p 0 ||| bit k p 1 ||| bit k p 2 ||| bit k p 3
    let lanes4 (r : Nat → Word) : BitVec 128 := r 3 ++ r 2 ++ r 1 ++ r 0
    let out (r : Nat → Word) (sat dz : Nat → Bool) : Eng :=
      { x.setV vd.toNat (lanes4 r) with acp := x.acp ||| all 0 sat ||| all 4 dz }.next
    let never : Nat → Bool := fun _ => false
    let gives (i : Instr) (r : Nat → Word) : Prop := s.leaves i e.toNat (out r never never)
    let mask (p : Bool) : Word := if p then 0xFFFFFFFF else 0
    let m : Word := 0x80000000
    let edge (i : Nat) : Bool := A i == m && B i == 0xFFFFFFFF
    let outside (n : Int) : Bool := decide (n < -2147483648 ∨ 2147483647 < n)
    let clamp (n : Int) : Word := BitVec.ofInt 32 (max (-2147483648) (min 2147483647 n))
    (s.runs e.toNat true [32 + va.toNat, 32 + vb.toNat] →
      gives (.vadd e f) (fun i => A i + B i) ∧ gives (.vsub e f) (fun i => A i - B i) ∧ gives (.vmul e f) (fun i => A i * B i) ∧
      gives (.vand e f) (fun i => A i &&& B i) ∧ gives (.vor e f) (fun i => A i ||| B i) ∧ gives (.vxor e f) (fun i => A i ^^^ B i) ∧
      gives (.vmin e f) (fun i => if (A i).slt (B i) then A i else B i) ∧
      gives (.vmax e f) (fun i => if (A i).slt (B i) then B i else A i) ∧
      gives (.vsll e f) (fun i => shl (A i) ((B i).toNat % 256)) ∧ gives (.vsrl e f) (fun i => shr (A i) ((B i).toNat % 256)) ∧
      gives (.vsra e f) (fun i => sar (A i) ((B i).toNat % 256)) ∧
      gives (.vcmpeq e f) (fun i => mask (A i == B i)) ∧ gives (.vcmpgt e f) (fun i => mask ((B i).slt (A i))) ∧
      s.leaves (.vadds e f) e.toNat (out (fun i => clamp ((A i).toInt + (B i).toInt))
        (fun i => outside ((A i).toInt + (B i).toInt)) never) ∧
      s.leaves (.vsubs e f) e.toNat (out (fun i => clamp ((A i).toInt - (B i).toInt))
        (fun i => outside ((A i).toInt - (B i).toInt)) never) ∧
      s.leaves (.vdiv e f) e.toNat (out
        (fun i => if B i = 0 then (if (A i).msb then m else 0x7FFFFFFF) else (A i).sdiv (B i)) edge (fun i => B i == 0)) ∧
      s.leaves (.vdivu e f) e.toNat (out (fun i => if B i = 0 then 0xFFFFFFFF else (A i).udiv (B i)) never (fun i => B i == 0))) ∧
    (s.runs e.toNat true [32 + va.toNat] → gives (.vmov e ⟨vd, va, 0, 0, 0, 0⟩) A) ∧
    (s.runs e.toNat true [32 + va.toNat, 32 + vb.toNat, 32 + vc.toNat] →
      gives (.vsel e ⟨vd, va, vb, vc, 0, 0⟩) (fun i => (A i &&& C i) ||| (B i &&& ~~~(C i))))

/-- Binary32 lane operations: each lane as `fpAdd`, `fpMul` … compute it, with its DZ and INV bits (R346, R348, R349). FRSQ takes one of
the candidates within an ulp that a free value picks (log entry 10). -/
def Obligations.FloatLaneOperations : Prop :=
  ∀ (s : State) (e : EngNo) (vd va vb vc : BitVec 4),
    let x := s.getEng e.toNat
    let f : VFmt := ⟨vd, va, vb, 0, 0, 0⟩
    let one : VFmt := ⟨vd, va, 0, 0, 0, 0⟩
    let A (i : Nat) : Word := (x.vr va.toNat).extractLsb' (32 * i) 32
    let B (i : Nat) : Word := (x.vr vb.toNat).extractLsb' (32 * i) 32
    let C (i : Nat) : Word := (x.vr vc.toNat).extractLsb' (32 * i) 32
    let bit (k : Nat) (p : Nat → Bool) (i : Nat) : BitVec 12 := if p i then BitVec.ofNat 12 (2 ^ (k + i)) else 0
    let all (k : Nat) (p : Nat → Bool) : BitVec 12 := bit k p 0 ||| bit k p 1 ||| bit k p 2 ||| bit k p 3
    let out (r : Nat → FpRes) : Eng :=
      { x.setV vd.toNat ((r 3).w ++ (r 2).w ++ (r 1).w ++ (r 0).w) with
        acp := x.acp ||| all 4 (fun i => (r i).dz) ||| all 8 (fun i => (r i).inv) }.next
    let gives (i : Instr) (r : Nat → FpRes) : Prop := s.leaves i e.toNat (out r)
    (s.runs e.toNat true [32 + va.toNat, 32 + vb.toNat] →
      gives (.fadd e f) (fun i => fpAdd (A i) (B i)) ∧ gives (.fsub e f) (fun i => fpSub (A i) (B i)) ∧
      gives (.fmul e f) (fun i => fpMul (A i) (B i)) ∧ gives (.fdiv e f) (fun i => fpDiv (A i) (B i)) ∧
      gives (.fmin e f) (fun i => fpMinMax true (A i) (B i)) ∧ gives (.fmax e f) (fun i => fpMinMax false (A i) (B i)) ∧
      gives (.fcmplt e f) (fun i => fpCmp true (A i) (B i)) ∧ gives (.fcmpeq e f) (fun i => fpCmp false (A i) (B i)) ∧
      gives (.fspl e f) (fun i => fpSpl (x.vr va.toNat) (B i))) ∧
    (s.runs e.toNat true [32 + va.toNat, 32 + vb.toNat, 32 + vc.toNat] →
      gives (.fma e ⟨vd, va, vb, vc, 0, 0⟩) (fun i => fpFma (A i) (B i) (C i))) ∧
    (s.runs e.toNat true [32 + va.toNat] →
      gives (.fabs e one) (fun i => fpSign true (A i)) ∧ gives (.fneg e one) (fun i => fpSign false (A i)) ∧
      ∃ p : Nat → Nat, gives (.frsq e one) (fun i => fpRsq (A i) (p i)))

/-- Accumulators: AMAC, AMSU, ACLR, ALD and ARD, exact before saturation (R350). -/
def Obligations.Accumulators : Prop :=
  ∀ (s : State) (e : EngNo) (vd va vb : BitVec 4) (ac rm : BitVec 2) (sh : BitVec 6),
    let x := s.getEng e.toNat
    let A (i : Nat) : Int := ((x.vr va.toNat).extractLsb' (32 * i) 32).toInt
    let B (i : Nat) : Int := ((x.vr vb.toNat).extractLsb' (32 * i) 32).toInt
    let N (i : Nat) : Int := (x.ac ac.toNat i).toInt
    let bit (p : Nat → Bool) (i : Nat) : BitVec 12 := if p i then BitVec.ofNat 12 (2 ^ i) else 0
    let all (p : Nat → Bool) : BitVec 12 := bit p 0 ||| bit p 1 ||| bit p 2 ||| bit p 3
    let put (y : Eng) (r : Nat → BitVec 64) : Eng :=
      (((y.setAc ac.toNat 0 (r 0)).setAc ac.toNat 1 (r 1)).setAc ac.toNat 2 (r 2)).setAc ac.toNat 3 (r 3)
    let big (n : Int) : Bool := decide (n < -9223372036854775808 ∨ 9223372036854775807 < n)
    let sat (n : Int) : BitVec 64 := BitVec.ofInt 64 (max (-9223372036854775808) (min 9223372036854775807 n))
    let accum (r : Nat → Int) : Eng := { put x (fun i => sat (r i)) with acp := x.acp ||| all (fun i => big (r i)) }.next
    let q (i : Nat) : Int :=
      if sh = 0 then N i
      else if rm = 1 then (N i + 2 ^ (sh.toNat - 1)) / 2 ^ sh.toNat
      else if rm = 2 then
        (if 2 ^ sh.toNat < 2 * (N i % 2 ^ sh.toNat) ∨ (2 * (N i % 2 ^ sh.toNat) = 2 ^ sh.toNat ∧ N i / 2 ^ sh.toNat % 2 = 1)
          then N i / 2 ^ sh.toNat + 1 else N i / 2 ^ sh.toNat)
      else N i / 2 ^ sh.toNat
    let outside (n : Int) : Bool := decide (n < -2147483648 ∨ 2147483647 < n)
    let clamp (n : Int) : Word := BitVec.ofInt 32 (max (-2147483648) (min 2147483647 n))
    (s.runs e.toNat true [32 + va.toNat, 32 + vb.toNat] →
      s.leaves (.amac e ⟨0, va, vb, 0, ac, 0⟩) e.toNat (accum (fun i => N i + A i * B i)) ∧
      s.leaves (.amsu e ⟨0, va, vb, 0, ac, 0⟩) e.toNat (accum (fun i => N i - A i * B i))) ∧
    (s.runs e.toNat true [32 + va.toNat] →
      s.leaves (.ald e ⟨0, va, 0, 0, ac, 0⟩) e.toNat (put x (fun i => BitVec.ofInt 64 (A i))).next) ∧
    (s.runs e.toNat true [] →
      s.leaves (.aclr e ⟨0, 0, 0, 0, ac, 0⟩) e.toNat (put x (fun _ => 0)).next ∧
      (rm ≠ 3 → s.leaves (.ard e ⟨vd, 0, sh, 0, ac, rm⟩) e.toNat
        { x.setV vd.toNat (clamp (q 3) ++ clamp (q 2) ++ clamp (q 1) ++ clamp (q 0)) with
          acp := x.acp ||| all (fun i => outside (q i)) }.next))

/-- Conversions, clamps and narrowing (R351); moves between the general and the vector registers (R352); the ACP status register
(R353). -/
def Obligations.ConversionsAndMoves : Prop :=
  ∀ (s : State) (e : EngNo) (vd va vb : BitVec 4) (g : BitVec 5) (ln : BitVec 2),
    let x := s.getEng e.toNat
    let one : VFmt := ⟨vd, va, 0, 0, 0, 0⟩
    let lane4 (n i : Nat) : Word := (x.vr n).extractLsb' (32 * i) 32
    let A := lane4 va.toNat
    let bit (k : Nat) (p : Nat → Bool) (i : Nat) : BitVec 12 := if p i then BitVec.ofNat 12 (2 ^ (k + i)) else 0
    let all (k : Nat) (p : Nat → Bool) : BitVec 12 := bit k p 0 ||| bit k p 1 ||| bit k p 2 ||| bit k p 3
    let vec (r : Nat → Word) : BitVec 128 := r 3 ++ r 2 ++ r 1 ++ r 0
    let out (r : Nat → Word) (sat inv : Nat → Bool) : Eng :=
      { x.setV vd.toNat (vec r) with acp := x.acp ||| all 0 sat ||| all 8 inv }.next
    let never : Nat → Bool := fun _ => false
    let clamp (lo hi : Int) (w : Word) : Word := BitVec.ofInt 32 (max lo (min hi w.toInt))
    let outside (lo hi : Int) (w : Word) : Bool := decide (w.toInt < lo ∨ hi < w.toInt)
    let half (i : Nat) : Word := lane4 (if i < 4 then va.toNat else vb.toNat) (i % 4)
    let hc (i : Nat) : BitVec 16 := (clamp (-32768) 32767 (half i)).setWidth 16
    let ho (i : Nat) : Bool := outside (-32768) 32767 (half i)
    (s.runs e.toNat true [32 + va.toNat] →
      s.leaves (.vcvtif e one) e.toNat (out (fun i => fpOfInt (A i)) never never) ∧
      s.leaves (.vcvtfi e one) e.toNat (out (fun i => (fpToInt false (A i)).1) (fun i => (fpToInt false (A i)).2.1)
        (fun i => (fpToInt false (A i)).2.2)) ∧
      s.leaves (.vcvtfiz e one) e.toNat (out (fun i => (fpToInt true (A i)).1) (fun i => (fpToInt true (A i)).2.1)
        (fun i => (fpToInt true (A i)).2.2)) ∧
      s.leaves (.vsath e one) e.toNat (out (fun i => clamp (-32768) 32767 (A i)) (fun i => outside (-32768) 32767 (A i)) never) ∧
      s.leaves (.vsatub e one) e.toNat (out (fun i => clamp 0 255 (A i)) (fun i => outside 0 255 (A i)) never) ∧
      s.leaves (.vext e ⟨g, va, ln, 0⟩) e.toNat (x.setG g.toNat (A ln.toNat)).next) ∧
    (s.runs e.toNat true [32 + va.toNat, 32 + vb.toNat] →
      s.leaves (.vnarh e ⟨vd, va, vb, 0, 0, 0⟩) e.toNat
        (out (fun i => hc (2 * i + 1) ++ hc (2 * i)) (fun i => ho (2 * i) || ho (2 * i + 1)) never)) ∧
    (s.runs e.toNat true [g.toNat, 32 + va.toNat] →
      s.leaves (.vins e ⟨g, va, ln, 0⟩) e.toNat
        (x.setV va.toNat (vec (fun i => if i = ln.toNat then x.gr g.toNat else A i))).next) ∧
    (s.runs e.toNat true [g.toNat] →
      s.leaves (.vsplat e ⟨g, va, 0, 0⟩) e.toNat (x.setV va.toNat (vec (fun _ => x.gr g.toNat))).next ∧
      s.leaves (.wracp e ⟨g, 0, 0, 0⟩) e.toNat { x with acp := (x.gr g.toNat).setWidth 12 }.next) ∧
    (s.runs e.toNat true [] → s.leaves (.rdacp e ⟨g, 0, 0, 0⟩) e.toNat (x.setG g.toNat (x.acp.setWidth 32)).next)

/-- Vector loads and stores of 16 bytes in data memory, the thread window (loads) and rope shared memory (R345), and the two local
control register accesses with rows of their own (R314). -/
def Obligations.VectorMemoryAndLocalRegisters : Prop :=
  ∀ (s : State) (e : EngNo) (vd : BitVec 4) (ra rd : BitVec 5) (imm : BitVec 16) (l0 l1 l2 l3 : Word) (sa : Nat),
    let x := s.getEng e.toNat
    let a := x.gr ra.toNat + imm.signExtend 32
    let v := x.vr vd.toNat
    let f : VMFmt := ⟨vd, 0, ra, imm⟩
    let dmem := 0x10000 ≤ a.toNat ∧ a.toNat < 0x18000
    let win := 0x20000 ≤ a.toNat ∧ a.toNat < 0x20200
    let rope := 0x80000 ≤ a.toNat ∧ a.toNat < 0x100000
    (s.runs e.toNat true [ra.toNat] → a.toNat % 16 = 0 → (dmem ∨ win ∨ rope) → s.holdsWords e.toNat a [l0, l1, l2, l3] →
      s.leaves (.vld e f) e.toNat (x.setV vd.toNat (l3 ++ l2 ++ l1 ++ l0)).next) ∧
    (s.runs e.toNat true [ra.toNat, 32 + vd.toNat] → a.toNat % 16 = 0 → (dmem ∨ rope) → s.storesAt e.toNat a sa →
      s.answers (.vst e f) (fun t => s.stored t e.toNat x.next sa
        (wordBytes (v.extractLsb' 0 32) ++ wordBytes (v.extractLsb' 32 32) ++ wordBytes (v.extractLsb' 64 32) ++
          wordBytes (v.extractLsb' 96 32)))) ∧
    (s.runs e.toNat true [] →
      s.answers (.softwareAttention e) (fun t => t.holds e.toNat x.next ∧
        (∀ d, d ≠ e.toNat → t.getEng d = s.getEng d) ∧ t.erd R.ENG_ESTAT_SWATTN e.toNat = 1 ∧
        t.still = { s with eng := t.eng }.still ∧
        s.regsKept t (R.ENG_ESTAT_SWATTN.key (ropeOf e.toNat) (slotOf e.toNat) :: engKeys e.toNat)) ∧
      s.leaves (.localTimeRead e rd) e.toNat
        ({ x with ltimeHi := s.ns.extractLsb' 32 32 }.setG rd.toNat (s.ns.extractLsb' 0 32)).next)

/-- Where an instruction meets a cause and the handler is enabled and not active, the engine enters it: PC and cause are saved, XACT
is set, and execution goes on at VEC; the instruction has no other effect, but a division by 0 sets DZ (R297, R299, R300, R320, R325,
R333). The faulting address of ILLEGAL and DIVZERO is not stated (log entry 1). -/
def Obligations.ExceptionsEnterTheHandler : Prop :=
  ∀ (s : State) (e : EngNo) (rd ra rb : BitVec 5) (z : BitVec 1) (aux cond : BitVec 4) (off : BitVec 22) (imm : BitVec 16)
    (w : Word),
    let x := s.getEng e.toNat
    let target := x.pc.toNat + 4 * off.toInt
    let a := x.gr ra.toNat + imm.signExtend 32
    let enters (i : Instr) (y : Eng) (code : Nat) : Prop := s.answers i (fun t => ∃ addr, s.entered t e.toNat y code addr)
    x.xact = false → s.erd R.ENG_XVEC_XEN e.toNat = 1 →
    (s.runs e.toNat true [] → decodeEngineWord e w = none → enters (engineCommand e w) x 2) ∧
    (s.runs e.toNat false [] →
      enters (.xret e ⟨0, 0, 0, 0, 0⟩) x 2 ∧
      (condHolds x cond = true → target < 0 ∨ 0x4000 ≤ target →
        s.answers (.br e ⟨cond, off⟩) (fun t => s.entered t e.toNat x 1 (BitVec.ofInt 32 target)))) ∧
    (s.runs e.toNat true [ra.toNat, rb.toNat] →
      (z ≠ 0 ∨ aux ≠ 0 → enters (.add e ⟨rd, ra, rb, z, aux⟩) x 2 ∧ enters (.mul e ⟨rd, ra, rb, z, aux⟩) x 2) ∧
      (x.gr rb.toNat = 0 → s.erd R.ENG_CTL_TRAPDZ e.toNat = 1 →
        enters (.div e ⟨rd, ra, rb, 0, 0⟩) x.setDZ 6 ∧ enters (.divu e ⟨rd, ra, rb, 0, 0⟩) x.setDZ 6 ∧
        enters (.rem e ⟨rd, ra, rb, 0, 0⟩) x.setDZ 6 ∧ enters (.remu e ⟨rd, ra, rb, 0, 0⟩) x.setDZ 6)) ∧
    (s.runs e.toNat true [ra.toNat] →
      (x.localMap a.toNat = .none → s.answers (.lw e ⟨rd, ra, imm⟩) (fun t => s.entered t e.toNat x 1 a)) ∧
      (0x80000 ≤ a.toNat → a.toNat < 0x100000 → a.toNat % 4 ≠ 0 →
        s.answers (.lw e ⟨rd, ra, imm⟩) (fun t => s.entered t e.toNat x 3 a)))

/-- Without a handler the thread ends with LSTAT = FAULT and the fault is captured; a cause inside the handler is DOUBLE; the run
limit raises WATCHDOG (R297, R300, R301, R302). -/
def Obligations.FaultsEndTheThread : Prop :=
  ∀ (s : State) (e : EngNo),
    let x := s.getEng e.toNat
    let zero : RFmt := ⟨0, 0, 0, 0, 0⟩
    s.erd R.ENG_XSTAT_VALID e.toNat = 0 → x.cbuf = none →
    (s.runs e.toNat false [] → x.xact = false → s.erd R.ENG_XVEC_XEN e.toNat = 0 →
      s.answers (.xret e zero) (fun t => s.faulted t e.toNat x 2 ∧ t.erd R.ENG_ESTAT_FAULT e.toNat = 1)) ∧
    (s.runs e.toNat true [] → x.xact = true → s.erd R.ENG_DBG_DBGEN e.toNat = 0 →
      s.answers (.breakpt e zero) (fun t => s.faulted t e.toNat x 9 ∧ t.erd R.ENG_ESTAT_FAULT e.toNat = 1)) ∧
    (s.phase = .running → x.thr.isSome = true → s.erd R.ENG_RUNLIM_LIMIT e.toNat ≠ 0 → s.erd R.ENG_DBG_HALTED e.toNat = 0 →
      (s.physOf e.toNat).isSome = true → x.xact = false →
      s.answers (.watchdogExpiry e) (fun t => s.faulted t e.toNat x 7 ∧ t.erd R.ENG_ESTAT_WDOG e.toNat = 1))

/-- YIELD and END: the thread leaves the engine with its record, after every store that it has posted has become visible (R251, R258,
R279, R341, R342). -/
def Obligations.ThreadsYieldAndEnd : Prop :=
  ∀ (s : State) (e : EngNo) (code : BitVec 7) (tt ww : Bool) (wreq : Byte) (ra rb : BitVec 5),
    let x := s.getEng e.toNat
    let u := s.landAll e.toNat
    x.cbuf = none →
    (s.runs e.toNat false [] →
      s.answers (.endThread e ⟨0, code⟩) (fun t => u.left t e.toNat x (some (code.setWidth 8)) none false)) ∧
    (s.runs e.toNat true ((if tt then [ra.toNat] else []) ++ (if ww then [rb.toNat] else [])) →
      (tt = true ∨ ra = 0) → (ww = true ∨ rb = 0) → (wreq ≠ 0 ∨ tt = true) →
      s.answers (.yieldThread e ⟨tt, ww, wreq, ra, rb, 0⟩) (fun t => u.left t e.toNat x none
        (some { wreq := wreq, timeout := if tt then some (x.gr ra.toNat) else none,
                waitOn := if ww then some ((x.gr rb.toNat).setWidth 16) else none, rpc := x.pc.toNat / 4 + 1 }) false))

/-- SEND, EMIT, WAIT and NUDGE, and the end of a SEND or a WAIT by time (R255, R256, R303, R304, R335–R337, R340). SEND and EMIT take
effect when every store that the engine has posted is visible (R279). -/
def Obligations.MessagesWaitsAndNudges : Prop :=
  ∀ (s : State) (e : EngNo) (rd ra rb : BitVec 5) (slot : BitVec 3) (y : Pair) (l : List Word) (r : SendRec) (w : WaitRec)
    (d : BitVec 64),
    let x := s.getEng e.toNat
    let a := x.gr ra.toNat
    let b := x.gr rb.toNat
    let c := a.toNat % 65536
    let f : RFmt := ⟨rd, ra, rb, 0, 0⟩
    let g : RFmt := ⟨rd, ra, 0, 0, 0⟩
    let dd : Desc := y.words
    let p := b.toNat / 2 ^ 24 % 16
    let n := b.toNat / 2 ^ 16 % 32
    let len := b.toNat % 512
    let formed := b.toNat / 2 ^ 28 = 0 ∧ b.toNat / 2 ^ 21 % 8 = 0 ∧ b.toNat / 2 ^ 9 % 128 = 0
    let later (u : State) (z : Eng) : Prop :=
      u.getEng e.toNat = { z with hbHalt := (u.getEng e.toNat).hbHalt, step := (u.getEng e.toNat).step }
    let deadline (t : Word) : Option (BitVec 64) := if t = 0 then none else some (s.ns + t.setWidth 64)
    (s.runs e.toNat true [ra.toNat, rb.toNat] →
      s.answers (.send e ⟨rd, ra, rb, 0, slot.setWidth 4⟩) (fun t => (t.getEng e.toNat).wbuf = []) ∧
      s.answers (.emit e f) (fun t => (t.getEng e.toNat).wbuf = [])) ∧
    (s.runs e.toNat true [ra.toNat, rb.toNat] → x.wbuf = [] →
      (s.cairnClean c → s.cst c = 0 ∨ s.cst c = 7 ∨ s.cst c = 8 →
        s.leaves (.send e ⟨rd, ra, rb, 0, slot.setWidth 4⟩) e.toNat (x.setG rd.toNat 2).next) ∧
      (s.slotOpen c slot.toNat → s.cInst c ≠ x.tinst → x.tinst ≠ s.mgr →
        s.answers (.send e ⟨rd, ra, rb, 0, slot.setWidth 4⟩) (fun t => t.holds e.toNat (x.setG rd.toNat 3).next ∧ t.mem = s.mem)) ∧
      (s.slotOpen c slot.toNat → s.cInst c = x.tinst → s.outranked (.send e.toNat) c slot.toNat = false →
        s.answers (.send e ⟨rd, ra, rb, 0, slot.setWidth 4⟩) (fun t => t.holds e.toNat (x.setG rd.toNat 0).next ∧
          s.tookOperand t c slot.toNat b (w32 (6 * 2 ^ 28 + x.tcairn)) [])) ∧
      (¬formed → s.leaves (.emit e f) e.toNat (x.setG rd.toNat 6).next) ∧
      (formed → emitAddrOk a.toNat len = false → s.leaves (.emit e f) e.toNat (x.setG rd.toNat 5).next) ∧
      (formed → emitAddrOk a.toNat len = true → smFind (s.getPort p).pairs n = none →
        s.leaves (.emit e f) e.toNat (x.setG rd.toNat 1).next) ∧
      (formed → emitAddrOk a.toNat len = true → smFind (s.getPort p).pairs n = some y → dd.inst = x.tinst → y.inbound = true →
        y.emit = none → 0 < len → len ≤ dd.omax → s.linkUp p = true →
        l.length = (a.toNat + len - 1) / 4 + 1 - a.toNat / 4 → s.holdsWords e.toNat (w32 (a.toNat / 4 * 4)) l →
        s.answers (.emit e f) (fun t => t.holds e.toNat (x.setG rd.toNat 0).next ∧
          smFind (t.getPort p).pairs n = some { y with emit := some { payload := ((wordsBytes l).drop (a.toNat % 4)).take len } } ∧
          (t.getPort p).emitq = (s.getPort p).emitq ++ [n] ∧
          (∀ q, q ≠ p → t.getPort q = s.getPort q) ∧ t.still = { s with eng := t.eng, port := t.port }.still))) ∧
    (s.runs e.toNat true [ra.toNat] →
      (x.nudge = true → s.leaves (.waitNudge e g) e.toNat ({ x with wait := none, nudge := false }.setG rd.toNat 0).next) ∧
      (x.nudge = false → s.answers (.waitNudge e g) (fun t => (t.getEng e.toNat).wait = some ⟨rd, deadline a⟩ ∧
        (t.getEng e.toNat).pc = x.pc ∧ (t.getEng e.toNat).g = x.g ∧ t.still = { s with eng := t.eng }.still)) ∧
      (1024 ≤ a.toNat → s.leaves (.nudge e ⟨0, ra, 0, 0, 0⟩) e.toNat x.next) ∧
      (a.toNat < 1024 → a.toNat ≠ e.toNat → (s.physOf a.toNat).isSome = true → s.swapping a.toNat = false →
        s.inEntry a.toNat = false → (s.getEng a.toNat).wait = none →
        s.answers (.nudge e ⟨0, ra, 0, 0, 0⟩) (fun t => t.holds e.toNat x.next ∧
          t.getEng a.toNat = { s.getEng a.toNat with nudge := true } ∧ t.still = { s with eng := t.eng }.still))) ∧
    (s.phase = .running → x.send = some r → s.answers (.sendRetryExpiry e) (fun t =>
      later t ({ x with send := none }.setG r.rd.toNat 1).next ∧ t.still = { s with eng := t.eng }.still ∧
      s.regsKept t (R.TSC_CNT1_SENDBUSY.key :: engKeys e.toNat))) ∧
    (s.phase = .running → x.wait = some w → w.deadline = some d → d.toNat ≤ s.ns.toNat → x.nudge = false →
      s.erd R.ENG_STAT_PSTATE e.toNat ≤ 1 → s.answers (.waitTimeout e) (fun t =>
        later t ({ x with wait := none, entry := none, exit := none }.setG w.rd.toNat 1).next ∧
        t.erd R.ENG_STAT_PSTATE e.toNat = 0 ∧ t.mem = s.mem))

/-- Commands on an engine from outside: CLOAD and CGRP, which send a prefetched cairn back, ENG_ACCDATA, debug, the heartbeat and
what it carries, and the self-check (R272, R284, R305, R306, R308, R310). -/
def Obligations.EngineControl : Prop :=
  ∀ (s : State) (fn : InstNo) (e : EngNo) (r : RopeNo) (v : Bool) (cg : Byte) (val : Word) (a : Nat) (pass : Bool),
    let x := s.getEng e.toNat
    let i := ropeOf e.toNat
    let j := slotOf e.toNat
    let stat : List Nat := [R.ENG_STAT_TSTATE.key i j, R.ENG_STAT_PREF.key i j, R.ENG_STAT_CAIRN.key i j]
    let acc : List Nat := [R.ENG_ACCADDR_OFFSET.key r.toNat, R.ENG_ACCADDR_ERR.key r.toNat]
    let off (f : Field) := f.off i j
    let asleep := decide (2 ≤ s.erd R.ENG_STAT_PSTATE e.toNat)
    let beat : Beat := { seq := x.hbSeq + 1, phys := s.erd R.ENG_STAT_PHYS e.toNat, asleep := asleep, chk := x.hbChk && !asleep,
                         ok := x.hbOk, par := x.hbPar, prog := x.hbRet || !(x.hbThr || x.thr.isSome) }
    s.phase = .running →
    (s.reaches fn.toNat (off R.ENG_CTL_CLOAD) → s.answers (.cloadWrite fn e v) (fun t =>
      t.erd R.ENG_CTL_CLOAD e.toNat = b2n v ∧ (v = true → (t.getEng e.toNat).pref = none) ∧
      (x.pref = none ∨ v = false → s.onlyRegs t (R.ENG_CTL_CLOAD.key i j :: stat)))) ∧
    (s.reaches fn.toNat (off R.ENG_CTL_CGRP) → s.answers (.cgrpWrite fn e cg) (fun t =>
      t.erd R.ENG_CTL_CGRP e.toNat = cg.toNat ∧ (s.erd R.ENG_CTL_CGRP e.toNat ≠ cg.toNat → (t.getEng e.toNat).pref = none) ∧
      (x.pref = none ∨ s.erd R.ENG_CTL_CGRP e.toNat = cg.toNat → s.onlyRegs t (R.ENG_CTL_CGRP.key i j :: stat)))) ∧
    (s.readable fn.toNat (R.ENG_ACCDATA_DATA.off r.toNat) →
      (s.accSa r.toNat false = some a → s.clean a → s.answers (.accdataRead fn r) (fun t =>
        s.puts t [.readData fn.toNat (s.rawWord (a / 4 * 4)) false] ∧ s.onlyRegs t acc)) ∧
      (s.accSa r.toNat false = none → s.answers (.accdataRead fn r) (fun t =>
        t.rd R.ENG_ACCADDR_ERR r.toNat = 1 ∧ s.puts t [.readData fn.toNat 0 false] ∧ s.onlyRegs t acc))) ∧
    (s.reaches fn.toNat (R.ENG_ACCDATA_DATA.off r.toNat) →
      (s.accSa r.toNat true = some a → s.clean a → s.answers (.accdataWrite fn r val) (fun t =>
        t.rawWord (a / 4 * 4) = val ∧ (∀ b, ¬(a / 4 * 4 ≤ b ∧ b < a / 4 * 4 + 4) → t.byteAt b = s.byteAt b) ∧
        t.still = { s with mem := t.mem }.still ∧ s.regsKept t acc)) ∧
      (s.accSa r.toNat true = none → s.answers (.accdataWrite fn r val) (fun t =>
        t.rd R.ENG_ACCADDR_ERR r.toNat = 1 ∧ s.onlyRegs t acc))) ∧
    (s.reaches fn.toNat (off R.ENG_DBG_HALTREQ) → s.erd R.ENG_DBG_DBGEN e.toNat = 1 → s.erd R.ENG_DBG_HALTED e.toNat = 0 →
      s.answers (.debugHaltRequest fn e) (fun t =>
        t.erd R.ENG_DBG_HALTREQ e.toNat = 1 ∧ s.onlyRegs t [R.ENG_DBG_HALTREQ.key i j])) ∧
    (s.reaches fn.toNat (off R.ENG_DBG_STEP) → s.erd R.ENG_DBG_DBGEN e.toNat = 1 → s.erd R.ENG_DBG_HALTED e.toNat = 1 →
      s.answers (.debugStep fn e) (fun t => t.getEng e.toNat = { x with step := true } ∧
        t.still = { s with eng := t.eng }.still ∧ s.regsKept t [R.ENG_DBG_STEP.key i j])) ∧
    (s.reaches fn.toNat (off R.ENG_DBG_RESUME) → s.erd R.ENG_DBG_HALTED e.toNat = 1 →
      s.answers (.debugResume fn e) (fun t => t.erd R.ENG_DBG_HALTED e.toNat = 0 ∧ t.getEng e.toNat = { x with step := false } ∧
        t.still = { s with eng := t.eng }.still ∧
        s.regsKept t (R.ENG_DBG_HALTED.key i j :: R.ENG_DBG_STEP.key i j :: stat))) ∧
    (s.inService e.toNat = true → s.answers (.heartbeatSend e) (fun t =>
      t.getEng e.toNat = { x with hbSeq := x.hbSeq + 1, hbChk := false, hbOk := false, hbPar := false, hbRet := false,
                                  hbThr := x.thr.isSome } ∧
      t.getJudge e.toNat = { s.getJudge e.toNat with got := (s.getJudge e.toNat).got ++ [beat], prog := some beat.prog } ∧
      t.still = { s with eng := t.eng, hlt := t.hlt }.still ∧ s.regsKept t [])) ∧
    (s.inService e.toNat = true → s.erd R.ENG_STAT_PSTATE e.toNat ≤ 1 → s.issues e.toNat = false →
      s.answers (.selfCheck e pass) (fun t =>
        t.getEng e.toNat = { x with hbChk := true, hbOk := pass && (!x.hbChk || x.hbOk) } ∧
        t.still = { s with eng := t.eng }.still ∧ s.regsKept t []))

/-! ## Thread scheduler -/

/-- ACTIVATE of a well-formed cairn without operands or timer makes it IDLE; of a cairn that is already active it answers BAD_STATE, and of
a malformed one MALFORMED; DEACTIVATE of an IDLE cairn without operands makes it FREE (R231, R232). -/
def Obligations.CairnsActivateAndDeactivate : Prop :=
  ∀ (s : State) (fn : InstNo) (c : CairnNo),
    let n := c.toNat
    let stands := s.cst n = 0 ∨ s.cst n = 7 ∨ s.cst n = 8
    let empty := s.cw n 5 = 0 ∧ smGet s.heldJobs [] n = []
    let result (t : State) (r : Nat) : Prop := t.rd R.TSC_CMD_RESULT = r ∧ t.rd R.TSC_CMD_GO = 0 ∧ t.rd R.TSC_CMD_CAIRN = n
    let others (t : State) : Prop := ∀ b, ¬(saCairn n 0 ≤ b ∧ b < saCairn n 16) → t.byteAt b = s.byteAt b
    s.phase = .running → s.reaches fn.toNat R.TSC_CMD_GO.off → s.cairnClean n →
    (stands → empty → s.cairnMalformed n = false → s.cairnSpoof n = none → s.cTmode n = false →
      s.answers (.activate fn c) (fun t => t.cst n = 1 ∧ t.cw n 13 = 0 ∧ result t 1 ∧ others t)) ∧
    (¬stands → s.answers (.activate fn c) (fun t => result t 4 ∧
      s.onlyRegs t [R.TSC_CMD_OP.key, R.TSC_CMD_CAIRN.key, R.TSC_CMD_RESULT.key, R.TSC_CMD_GO.key])) ∧
    (stands → s.cairnMalformed n = true → s.answers (.activate fn c) (fun t => result t 2 ∧
      s.onlyRegs t [R.TSC_CMD_OP.key, R.TSC_CMD_CAIRN.key, R.TSC_CMD_RESULT.key, R.TSC_CMD_GO.key])) ∧
    (s.cst n = 1 → empty → s.answers (.deactivate fn c) (fun t => t.cst n = 0 ∧ bits (t.cw n 12) 31 24 = 0x82 ∧ result t 1 ∧
      others t)) ∧
    (s.cst n = 0 ∨ s.cst n = 4 ∨ s.cst n = 5 → s.answers (.deactivate fn c) (fun t => result t 4 ∧
      s.onlyRegs t [R.TSC_CMD_OP.key, R.TSC_CMD_CAIRN.key, R.TSC_CMD_RESULT.key, R.TSC_CMD_GO.key]))

/-- The sources of operands: a routed marker, a periodic timer, a completion queue; and a YIELD's timeout, which resolves its wait
(R233, R238, R239, R252, R255). -/
def Obligations.OperandSources : Prop :=
  ∀ (s : State) (m : MarkNo) (c : CairnNo) (p : PortNo) (k : BitVec 5) (q : CqEnt) (d : Nat),
    let n := m.toNat
    let x := s.getMarker n
    let mc := s.rd R.TSC_MKROUTE_CAIRN n
    let mk := s.rd R.TSC_MKROUTE_SLOT n
    let cn := c.toNat
    let late := (s.ns48 + 2 ^ 48 - s.cTdl cn) % 2 ^ 48
    let per := (s.cw cn 10).toNat
    let missed := if per = 0 then 0 else late / per
    s.phase = .running →
    (s.rd R.TSC_MKROUTE_EN n ≠ 0 → s.rd R.PTU_MKSTAT_PEND n ≠ 0 → x.nf ≠ 0 → s.slotOpen mc mk →
      s.outranked (.marker n) mc mk = false →
      s.answers (.markerOperandOffer m) (fun t =>
        s.tookOperand t mc mk x.tLast (w32 (3 * 2 ^ 28 + n * 2 ^ 23 + b2n x.downLast * 2 ^ 22 + min 0xFFFF x.nf)) [] ∧
        (t.getMarker n).nf = 0 ∧ t.rd R.PTU_MKSTAT_PEND n = b2n x.cur.isSome)) ∧
    (cn ∈ s.tsc.tmrP → s.cTmode cn = true → late < 2 ^ 47 → s.slotOpen cn (s.cTslot cn) →
      s.outranked .timer cn (s.cTslot cn) = false → s.answers (.timerExpiry c) (fun t =>
      s.tookOperand t cn (s.cTslot cn) (w32 (s.cTdl cn)) (w32 (7 * 2 ^ 28 + min 0xFFFF missed)) [7, 8, 9] ∧
      (per = 0 → t.cTmode cn = false ∧ cn ∉ t.tsc.tmrP) ∧
      (per ≠ 0 → t.cTdl cn = (s.cTdl cn + (missed + 1) * per) % 2 ^ 48))) ∧
    (smFind s.tsc.tmrY cn = some d → (s.ns48 + 2 ^ 48 - d % 2 ^ 48) % 2 ^ 48 < 2 ^ 47 → s.cairnClean cn → s.cst cn = 6 →
      s.cFlow cn = 0 → s.answers (.yieldTimeout c) (fun t =>
        t.cst cn = 2 ∧ bits (t.cw cn 11) 29 24 = 1 ∧ (t.cw cn 14).getLsbD 19 = true ∧ smFind t.tsc.tmrY cn = none)) ∧
    ((s.getPort p.toNat).cq[k.toNat]? = some q →
      (∀ z ∈ (s.getPort p.toNat).cq.take k.toNat, ¬(z.c = q.c ∧ z.slot = q.slot)) → q.c < 65536 → s.slotOpen q.c q.slot →
      s.outranked (.completion p.toNat) q.c q.slot = false → s.answers (.completionQueueOffer p k) (fun t => s.tookOperand t q.c q.slot q.w0 q.w1 [] ∧
        (t.getPort p.toNat).cq = (s.getPort p.toNat).cq.take k.toNat ++ (s.getPort p.toNat).cq.drop (k.toNat + 1)))

/-- Dispatch, thread start and the merge of a record: in a fabric cycle the ropes take READY cairns in turn; a prefetched cairn starts with
the registers of R280, but a thread that may not run on an owned engine ends with CGOWN; after END a cairn is DONE, or IDLE where it
persists, after a fault HALTED, and after YIELD it waits (R231, R244, R245, R247, R251, R258, R280, R283). -/
def Obligations.DispatchStartAndMerge : Prop :=
  ∀ (s : State) (e : EngNo) (r : RopeNo) (y : ReadyEnt) (pf : Prefetch) (rec : EndRec) (l : Byte) (yr : YieldRec),
    let x := s.getEng e.toNat
    let w (k : Nat) : Word := pf.words.getD k 0
    let inst := bits (w 0) 6 0
    let mayRun := s.erd R.ENG_OWN_OWNEN e.toNat = 0 ∨ s.erd R.ENG_OWN_INST e.toNat = inst ∨ inst = s.mgr
    let starts := x.pref = some pf ∧ x.thr = none ∧ x.stalled = none ∧ s.erd R.ENG_STAT_PSTATE e.toNat ≤ 1 ∧
      s.swapping e.toNat = false ∧ (s.physOf e.toNat).isSome = true ∧ pf.c < 65536 ∧ s.cairnClean pf.c ∧ s.cst pf.c = 4
    let s1 : State := { s with tsc := { s.tsc with cyc := s.tsc.cyc + 1, rope0 := (s.tsc.rope0 + 1) % 32 } }
    let c := rec.c
    let unlogged := s.rd R.TSC_CTL_LOGEN = 0 ∨ (s.cw c 3).getLsbD 6 = false
    let merges (P : State → Prop) : Prop := s.answers (.completionRecordMerge e) (fun t =>
      (t.getEng e.toNat).cbuf = x.stalled ∧ (t.getEng e.toNat).stalled = none ∧ (unlogged → P t))
    s.phase = .running →
    s.answers .dispatchAssign (fun t => t.tsc.cyc = s.tsc.cyc + 1 ∧ t.tsc.rope0 = (s.tsc.rope0 + 1) % 32) ∧
    (s.rd R.TSC_CTL_EN = 1 → (∀ d ∈ s.eng, d.2.send = none) → y ∈ s.tsc.ready → y.prio < 8 → s.tsc.ready.length ≤ 64 →
      s.cairnClean y.c → y.c < 65536 → s1.chooseEng r.toNat y = some e.toNat →
      (∀ q, q < 32 → ∀ z ∈ s.tsc.ready, q ≠ r.toNat ∨ z ≠ y → s1.chooseEng q z = none) →
      s.answers .dispatchAssign (fun t => t.tsc.ready = s.tsc.ready.filter (fun z => decide (z.c ≠ y.c)) ∧ t.cst y.c = 4 ∧
        ∃ pr, (t.getEng e.toNat).pref = some pr ∧ pr.c = y.c ∧ pr.tr = y.tr)) ∧
    (s.rd R.TSC_CTL_EN = 0 → (∀ d ∈ s.eng, d.2.send = none) → s.answers .dispatchAssign (fun t =>
      t.still = s1.still ∧ s.regsKept t [])) ∧
    (starts → mayRun → s.answers (.threadStart e) (fun t =>
      let z := t.getEng e.toNat
      z.thr = some { c := pf.c, inst := inst, rfx := (w 1).getLsbD 11, ops := pf.ops } ∧ z.pref = none ∧
      z.pc = w32 (4 * (if (w 14).getLsbD 19 then bits (w 14) 31 20 else bits (w 1) 31 20)) ∧
      z.gr 1 = w 15 ∧ z.gr 2 = w32 pf.c ∧ (∀ n, 4 ≤ n → z.gr n = 0) ∧ (∀ n, z.vr n = 0) ∧ z.flags = 0 ∧ z.acp = 0 ∧
      z.lcyc = 0 ∧ z.xact = false ∧ z.nudge = false ∧ t.erd R.ENG_STAT_PSTATE e.toNat = 0 ∧ t.cst pf.c = 5 ∧
      t.cw pf.c 13 = s.cw pf.c 13 + 1)) ∧
    (starts → ¬mayRun → s.answers (.threadStart e) (fun t =>
      (t.getEng e.toNat).thr = none ∧ (t.getEng e.toNat).pref = none ∧ t.erd R.ENG_ESTAT_FAULT e.toNat = 1 ∧ t.cst pf.c = 5 ∧
      (s.erd R.ENG_XSTAT_VALID e.toNat = 0 → t.erd R.ENG_XSTAT_CAUSE e.toNat = 8) ∧
      (x.cbuf = none → ∃ q, (t.getEng e.toNat).cbuf = some q ∧ q.c = pf.c ∧ q.lstat = some 0x80 ∧ q.halted = true))) ∧
    (x.cbuf = some rec → c < 65536 → s.cairnClean c → s.cst c = 5 →
      (rec.lstat = some l → rec.halted = false → s.cPersist c = false →
        merges (fun t => t.cst c = 7 ∧ bits (t.cw c 12) 31 24 = l.toNat)) ∧
      (rec.lstat = some l → rec.halted = false → s.cPersist c = true → s.slotsMet c (s.cReq c) = false →
        merges (fun t => t.cst c = 1 ∧ bits (t.cw c 12) 31 24 = l.toNat ∧ (t.cw c 14).getLsbD 19 = false)) ∧
      (rec.lstat = some l → rec.halted = true → merges (fun t => t.cst c = 8 ∧ bits (t.cw c 12) 31 24 = l.toNat)) ∧
      (rec.lstat = none → rec.yield = some yr → yr.timeout = none → s.slotsMet c yr.wreq.toNat = false →
        merges (fun t => t.cst c = 6 ∧ t.cWreq c = yr.wreq.toNat ∧ bits (t.cw c 14) 31 20 = yr.rpc % 2 ^ 12)))

/-- Reflex engines and the cycle detector: a change of RFXN takes the reflex set out of action until its engines are settled; a pass of
the detector resolves the wait of the youngest cairn of a cycle, and without a cycle changes nothing (R249, R250, R253, R254). -/
def Obligations.ReflexSetsAndCycles : Prop :=
  ∀ (s : State) (fn : InstNo) (r : RopeNo) (n : BitVec 3) (c : Nat) (l : List Nat),
    let i := r.toNat
    let cs := s.usedCairns
    let ring (a : Nat) := s.cycleFrom a cs.length a []
    let v := s.youngest l
    s.phase = .running →
    (s.reaches fn.toNat (R.TSC_ROPECFG_RFXN.off i) → s.answers (.rfxnWrite fn r n) (fun t => t.rd R.TSC_ROPECFG_RFXN i = n.toNat ∧
        (min 4 n.toNat ≠ min 4 (s.rd R.TSC_ROPECFG_RFXN i) → t.rd R.TSC_ROPECFG_RFXACT i = 0) ∧
        (min 4 n.toNat = min 4 (s.rd R.TSC_ROPECFG_RFXN i) ∨ (∀ k, k < 32 → (s.getEng (32 * i + k)).pref = none) →
          s.onlyRegs t [R.TSC_ROPECFG_RFXN.key i, R.TSC_ROPECFG_RFXACT.key i]))) ∧
    (s.reflexSettled i = true → s.answers (.reflexSetActive r) (fun t =>
      t.rd R.TSC_ROPECFG_RFXACT i = 1 ∧ s.onlyRegs t [R.TSC_ROPECFG_RFXACT.key i])) ∧
    (s.reflexSettled i = false → s.answers (.reflexSetActive r) (fun t => s.onlyRegs t [])) ∧
    (s.rd R.TSC_CTL_DETEN = 0 → s.answers .detectorPass (fun t => s.onlyRegs t [])) ∧
    (s.rd R.TSC_CTL_DETEN = 1 → (∀ a ∈ cs, s.cst a = 6 → s.cairnClean a) →
      ((∀ a ∈ cs, ring a = none) → s.answers .detectorPass (fun t => s.onlyRegs t [])) ∧
      (Memory.wf s.mem → c ∈ cs → ring c = some l → (∀ d ∈ l, c ≤ d) → (∀ a ∈ cs, a ∉ l → ring a = none) →
        s.answers .detectorPass (fun t =>
          t.rd R.TSC_STAT_CYCLE = 1 ∧ t.rd R.TSC_LASTCYC_VALID = 1 ∧ t.rd R.TSC_LASTCYC_LEN = min 511 l.length ∧
          t.rd R.TSC_LASTCYC_CAIRN = v ∧ bits (t.cw v 11) 29 24 = 2 ∧ (t.cst v = 2 ∨ t.cst v = 3) ∧
          (s.cFlow v = 0 → t.cst v = 2))))

/-! ## Position time base -/

/-- Writes of the time base: PTU_TINC inside its trim range, TLOAD, TSTEP, PRESET, the frame number and the frame limits; a value out
of range is discarded (R20, R21, R34, R44, R46, R51). -/
def Obligations.TimeBaseWrites : Prop :=
  ∀ (s : State) (fn : InstNo) (t : BitVec 4) (p : PortNo) (v : Word),
    let n := v.toNat % 2 ^ 24
    let fmin := v.toNat % 2 ^ 13
    let fmax := v.toNat / 2 ^ 16 % 2 ^ 13
    s.phase = .running →
    (s.reaches fn.toNat R.PTU_TINC_INC.off →
      (0x1FF00 ≤ n ∧ n ≤ 0x20100 → s.answers (.tincWrite fn v)
        (fun u => u.rd R.PTU_TINC_INC = n ∧ s.onlyRegs u [R.PTU_TINC_INC.key])) ∧
      (¬(0x1FF00 ≤ n ∧ n ≤ 0x20100) → s.answers (.tincWrite fn v) (fun u => s.onlyRegs u []))) ∧
    (s.reaches fn.toNat R.PTU_CTL_TLOAD.off →
      s.answers (.timeLoad fn) (fun u => u.rd R.PTU_CTL_TLOAD = 1 ∧ s.onlyRegs u [R.PTU_CTL_TLOAD.key])) ∧
    (s.reaches fn.toNat R.PTU_CTL_TSTEP.off →
      s.answers (.timeStep fn) (fun u => u.rd R.PTU_CTL_TSTEP = 1 ∧ s.onlyRegs u [R.PTU_CTL_TSTEP.key])) ∧
    (s.reaches fn.toNat (R.PTU_TRKCTL_PRESET.off t.toNat) → s.answers (.trackPreset fn t)
      (fun u => u.rd R.PTU_TRKCTL_PRESET t.toNat = 1 ∧ s.onlyRegs u [R.PTU_TRKCTL_PRESET.key t.toNat])) ∧
    (s.reaches fn.toNat (R.PTU_PFNUM_FNUM.off p.toNat) →
      (s.rd R.PTU_PFRM_FEN p.toNat = 0 → s.answers (.pfnumWrite fn p v)
        (fun u => u.rd R.PTU_PFNUM_FNUM p.toNat = v.toNat % 2 ^ 16 ∧ s.onlyRegs u [R.PTU_PFNUM_FNUM.key p.toNat])) ∧
      (s.rd R.PTU_PFRM_FEN p.toNat ≠ 0 → s.answers (.pfnumWrite fn p v) (fun u => s.onlyRegs u []))) ∧
    (s.reaches fn.toNat (R.PTU_PFRM_FEN.off p.toNat) →
      (125 ≤ fmin ∧ fmin ≤ fmax ∧ fmax ≤ 8000 → s.answers (.pfrmWrite fn p v) (fun u =>
        u.rd R.PTU_PFRM_FMIN p.toNat = fmin ∧ u.rd R.PTU_PFRM_FMAX p.toNat = fmax ∧
        u.rd R.PTU_PFRM_FEN p.toNat = v.toNat / 2 ^ 31 ∧ u.still = { s with frame := u.frame }.still ∧
        s.regsKept u ([R.PTU_PFRM_FMIN, R.PTU_PFRM_FMAX, R.PTU_PFRM_FEN, R.PTU_PNEXT_NEXT, R.PTU_PSTAT_PREWARN].map
          (fun f => f.key p.toNat)))) ∧
      (¬(125 ≤ fmin ∧ fmin ≤ fmax ∧ fmax ≤ 8000) → s.answers (.pfrmWrite fn p v)
        (fun u => u.rd R.PTU_PSTAT_CFGERR p.toNat = 1 ∧ s.onlyRegs u [R.PTU_PSTAT_CFGERR.key p.toNat])))

/-- Every PTU clock advances device time by PTU_TINC; a load wins over a step, and both requests end (R19, R21). -/
def Obligations.ClockTickAdvancesTime : Prop :=
  ∀ s : State, s.phase = .running → s.answers .ptuClockTick (fun t =>
    t.time = (if s.rd R.PTU_CTL_TLOAD ≠ 0 then
        BitVec.ofNat 80 (s.rd R.PTU_TSETHI_NS * 2 ^ 48 + s.rd R.PTU_TSETLO_NS * 2 ^ 16 + s.rd R.PTU_TSETFR_FRAC)
      else s.time + BitVec.ofNat 80 (s.rd R.PTU_TINC_INC) +
        (if s.rd R.PTU_CTL_TSTEP ≠ 0 then BitVec.ofInt 80 ((s.rdw R.PTU_TADJ_ADJ).toInt * 65536) else 0)) ∧
    t.rd R.PTU_CTL_TLOAD = 0 ∧ t.rd R.PTU_CTL_TSTEP = 0 ∧
    t.still = { s with track := t.track, marker := t.marker, frame := t.frame }.still)

/-- A read of PTU_TIMELO latches the rest of device time for the reading function, a read of PTU_TRKPOSF the rest of a position
(R22, R63). -/
def Obligations.ReadsLatchWhatBelongsTogether : Prop :=
  ∀ (s : State) (fn : InstNo) (k : BitVec 4),
    let at_ (off : Nat) := fn.toNat * 2 ^ 26 + off
    let t := k.toNat
    s.phase = .running →
    (s.readable fn.toNat R.PTU_TIMELO_NS_LO.off → s.answers (.timeloReadLatch fn) (fun u =>
      smFind u.latch (at_ R.PTU_TIMEHI_NS_HI.off) = some (s.rdw R.PTU_TIMEHI_NS_HI) ∧
      smFind u.latch (at_ R.PTU_TIMEFR_FRAC.off) = some (s.rdw R.PTU_TIMEFR_FRAC) ∧
      s.puts u [.readData fn.toNat (s.rdw R.PTU_TIMELO_NS_LO) false] ∧
      u.still = { s with latch := u.latch }.still ∧ s.regsKept u [])) ∧
    (s.readable fn.toNat (R.PTU_TRKPOSF_POSF.off t) → s.answers (.trkposfReadLatch fn k) (fun u =>
      smFind u.latch (at_ (R.PTU_TRKPOSH_POSH.off t)) = some (s.rdw R.PTU_TRKPOSH_POSH t) ∧
      smFind u.latch (at_ (R.PTU_TRKVEL_VEL.off t)) = some (s.rdw R.PTU_TRKVEL_VEL t) ∧
      s.puts u [.readData fn.toNat (s.rdw R.PTU_TRKPOSF_POSF t) false] ∧
      u.still = { s with latch := u.latch }.still ∧ s.regsKept u []))

/-- A running track counts the edges of MODE 0, the other way with INV, notes an edge of both inputs at once, captures its count at Z,
behind an A or B edge of the same clock, and reads velocity 0 once it has stopped or its reports are stale; a change that the filter does
not pass, or from before its start, does not count (R24–R27, R32, R33, R641). -/
def Obligations.TracksFollowTheirInputs : Prop :=
  ∀ (s : State) (k : BitVec 3) (k4 : BitVec 4) (ed : EncEdge) (zs : BitVec 4) (zk : BitVec 18) (w : State),
    let t := k.toNat
    let x := s.getTrack t
    let v := k4.toNat
    let te := s.encTime t ed.skew
    let zp := [R.PTU_TRKZCAP_ZCAP.key t, R.PTU_TRKSTAT_ZSEEN.key t]
    s.phase = .running →
    (s.trkRuns t = true → x.running = true →
      (s.encStable t ed.stable = false → s.answers (.encoderEdge k ⟨ed.stable, ed.skew⟩ ed.a ed.b) (fun u => s.onlyRegs u [])) ∧
      (s.encStable t ed.stable = true → x.afterStart te = true → s.rd R.PTU_TRKCTL_MODE t = 0 →
        ((ed.a != x.a) != (ed.b != x.b) →
          let up := ((ed.a != x.a) == (ed.a != ed.b)) != decide (s.rd R.PTU_TRKCTL_INV t ≠ 0)
          s.answers (.encoderEdge k ⟨ed.stable, ed.skew⟩ ed.a ed.b) (fun u =>
            (u.getTrack t).count = (if up then x.count + 1 else x.count - 1) ∧ (u.getTrack t).a = ed.a ∧ (u.getTrack t).b = ed.b ∧
            (u.getTrack t).tEdge = te ∧ u.rd R.PTU_TRKSTAT_DIR t = b2n (!up) ∧
            (∀ q, q ≠ t → u.getTrack q = s.getTrack q) ∧ u.still = { s with track := u.track }.still)) ∧
        (ed.a ≠ x.a → ed.b ≠ x.b → s.answers (.encoderEdge k ⟨ed.stable, ed.skew⟩ ed.a ed.b) (fun u => u.rd R.PTU_TRKSTAT_QERR t = 1 ∧
          s.trackOnly u t { x with a := ed.a, b := ed.b } [R.PTU_TRKSTAT_QERR.key t, R.PTU_TRKERR_QERRCNT.key t]))) ∧
      (s.encStable t ed.stable = true → x.afterStart te = false → s.answers (.encoderEdge k ⟨ed.stable, ed.skew⟩ ed.a ed.b) (fun u =>
        s.trackOnly u t { x with a := ed.a, b := ed.b } [])) ∧
      (s.encStable t zs = true → x.afterStart (s.encTime t zk) = true →
        (s.rd R.PTU_TRKCTL_ZCLR t = 0 → s.answers (.encoderZEdge ⟨k, zs, zk, none⟩) (fun u =>
          u.rd R.PTU_TRKZCAP_ZCAP t = x.count.toNat % 2 ^ 32 ∧ u.rd R.PTU_TRKSTAT_ZSEEN t = 1 ∧ s.onlyRegs u zp)) ∧
        (s.rd R.PTU_TRKCTL_ZCLR t ≠ 0 → s.answers (.encoderZEdge ⟨k, zs, zk, none⟩) (fun u =>
          u.rd R.PTU_TRKZCAP_ZCAP t = x.count.toNat % 2 ^ 32 ∧ u.rd R.PTU_TRKSTAT_ZSEEN t = 1 ∧ u.trkPos t = 0 ∧
          s.trackOnly u t { x with count := 0 } (zp ++ [R.PTU_TRKPOSH_POSH.key t, R.PTU_TRKPOSF_POSF.key t]))) ∧
        (exec (.encoderEdge k ⟨ed.stable, ed.skew⟩ ed.a ed.b) s = .next w → s.answers (.encoderZEdge ⟨k, zs, zk, some ed⟩) (fun u =>
          u.rd R.PTU_TRKZCAP_ZCAP t = (w.getTrack t).count.toNat % 2 ^ 32 ∧ u.rd R.PTU_TRKSTAT_ZSEEN t = 1))) ∧
      ((s.trkTout t : Int) < (s.time.toNat : Int) - x.tEdge.toNat → s.answers (.trackStopped k) (fun u =>
        u.rd R.PTU_TRKSTAT_STOPPED t = 1 ∧ u.rd R.PTU_TRKVEL_VEL t = 0 ∧ u.still = s.still))) ∧
    (8 ≤ v → s.trkRuns v = true → (s.getTrack v).running = true →
      (s.trkTout v : Int) ≤ (s.time.toNat : Int) - (s.getTrack v).tEdge.toNat → s.answers (.trackStale k4) (fun u =>
        u.rd R.PTU_TRKSTAT_STALE v = 1 ∧ u.rd R.PTU_TRKVEL_VEL v = 0 ∧
        s.onlyRegs u [R.PTU_TRKSTAT_STALE.key v, R.PTU_TRKVEL_VEL.key v]))

/-- A marker takes its target from PTU_MKTGT1 with the held low word and disarms; it takes its step from PTU_MKSTEP1; when it fires,
whatever is bound to it, it shows the fire and offers it, and its targets advance by as many steps as the watched value passed (R35, R37,
R41, R42). The low word of a target is the one last written to PTU_MKTGT0 (the model's choice, log entry 187). -/
def Obligations.MarkersTargetStepAndFire : Prop :=
  ∀ (s : State) (fn : InstNo) (m : MarkNo) (v : Word) (down : Bool),
    let n := m.toNat
    let x := s.getMarker n
    let tgt : BitVec 64 := v ++ x.held
    let at_ := s.mkX n
    let steps := (if down then sdiff x.l at_ else sdiff at_ x.u).toNat / x.s.toNat + 1
    let shows (u : State) (w : BitVec 64) : Prop :=
      u.rd R.PTU_MKTGT1_TGT_HI n = (w.extractLsb' 32 32).toNat ∧ u.rd R.PTU_MKTGT0_TGT_LO n = (w.extractLsb' 0 32).toNat
    let fires (P : State → Prop) : Prop := s.answers (.markerFire m) (fun u =>
      u.rd R.PTU_MKSTAT_PEND n = 1 ∧ u.rd R.PTU_MKSTAT_LASTDIR n = b2n down ∧
      u.rd R.PTU_MKLAST0_LAST n = s.ns.toNat % 2 ^ 32 ∧ u.rd R.PTU_MKLAST1_LAST n = s.ns.toNat / 2 ^ 32 ∧
      (u.getMarker n).fired = true ∧ (u.getMarker n).cur = some (s.nsLo, down) ∧
      (∀ q, q ≠ n → u.getMarker q = s.getMarker q) ∧ P u)
    s.phase = .running →
    (s.reaches fn.toNat (R.PTU_MKTGT1_TGT_HI.off n) → s.answers (.markerTargetWrite fn m v) (fun u =>
      u.getMarker n = { x with u := tgt, l := tgt, snap := if (s.mkDue n).isSome then some (s.mkSnap n) else none } ∧
      u.rd R.PTU_MKSTAT_ARMU n = 0 ∧ u.rd R.PTU_MKSTAT_ARML n = 0 ∧
      shows u tgt ∧ (∀ q, q ≠ n → u.getMarker q = s.getMarker q) ∧ u.still = { s with marker := u.marker }.still ∧
      s.regsKept u ([R.PTU_MKSTAT_ARMU, R.PTU_MKSTAT_ARML, R.PTU_MKTGT0_TGT_LO, R.PTU_MKTGT1_TGT_HI, R.PTU_MKLOW0_LOW,
        R.PTU_MKLOW1_LOW].map (fun f => f.key n)))) ∧
    (s.reaches fn.toNat (R.PTU_MKSTEP1_STEP.off n) → s.answers (.markerStepWrite fn m v) (fun u =>
      u.rd R.PTU_MKSTEP1_STEP n = v.toNat ∧
      s.markerOnly u n { x with s := v ++ s.rdw R.PTU_MKSTEP0_STEP n } [R.PTU_MKSTEP1_STEP.key n])) ∧
    (s.mkDue n = some down →
      (x.s = 0 → fires (fun u => (u.getMarker n).u = x.u ∧ (u.getMarker n).l = x.l ∧ u.rd R.PTU_MKCTL_EN n = b2n x.enWr)) ∧
      (x.s ≠ 0 → x.snap = none → fires (fun u =>
        (u.getMarker n).u = (if down then x.l - BitVec.ofNat 64 ((steps - 1) * x.s.toNat) else x.u + BitVec.ofNat 64 (steps * x.s.toNat)) ∧
        (u.getMarker n).l = (if down then x.l - BitVec.ofNat 64 (steps * x.s.toNat)
          else x.u + BitVec.ofNat 64 ((steps - 1) * x.s.toNat)) ∧ (1 < steps → u.rd R.PTU_MKSTAT_SKIP n = 1))) ∧
      (x.s ≠ 0 → x.snap ≠ none → fires (fun u => (u.getMarker n).u = x.u ∧ (u.getMarker n).l = x.l)) ∧
      ((∀ q, q < 16 → s.rd R.PTU_PFRM_FEN q ≠ 0 → s.leader q = q → s.bound q n = false) →
        fires (fun u => u.still = { s with marker := u.marker }.still)))

/-- The start of a frame of a port that is in no gang: a bound marker fires, FMAX expires, or a deferred start becomes due; a marker
that fires before FMIN has passed defers the start. The frame number advances, the cause is shown and the count of clocks begins again
(R45, R49, R50, R51). SOF then leaves with the frame's number and flags, at a cut point of what is on the lane (R53, R170). -/
def Obligations.FramesStartAndSofLeaves : Prop :=
  ∀ (s : State) (p : PortNo) (m : MarkNo) (age : Nat) (x : SofPend) (down : Bool),
    let n := p.toNat
    let f := s.getFrame n
    let next := (s.rd R.PTU_PFNUM_FNUM n + 1) % 2 ^ 16
    let starts (u : State) (cause : Nat) (k : CommitKind) : Prop :=
      u.rd R.PTU_PFNUM_FNUM n = next ∧ u.rd R.PTU_PSTAT_LASTCAUSE n = cause ∧ (u.getFrame n).since = 0 ∧
      (u.getFrame n).deferred = none ∧ (u.getFrame n).now = some k ∧
      (u.getFrame n).sofs = ((BitVec.ofNat 16 next, none) :: f.sofs).take 4
    s.phase = .running →
    (s.rd R.PTU_PFRM_FEN n = 1 → s.rd R.PTU_PCFG_GANG_EN n = 0 → f.now = none →
      (s.boundDue n = false → f.deferred = none → limClk (s.rd R.PTU_PFRM_FMAX n) ≤ f.since →
        s.answers (.fmaxExpiry p) (fun u => starts u 1 .timeFill)) ∧
      (s.boundDue n = false → f.deferred = some (m, age) → s.fminPassed n = true →
        s.answers (.deferredStartDue p) (fun u => starts u 2 .deferredMarker ∧ u.rd R.PTU_PSTAT_LASTMK n = m.toNat)) ∧
      (s.mkDue m.toNat = some down → s.bound n m.toNat = true →
        (∀ q, q < 16 → q ≠ n → s.rd R.PTU_PFRM_FEN q ≠ 0 → s.leader q = q → s.bound q m.toNat = false) →
        (s.fminPassed n = true → s.answers (.markerFire m) (fun u => starts u 0 .marker ∧ u.rd R.PTU_PSTAT_LASTMK n = m.toNat)) ∧
        (s.fminPassed n = false → f.deferred = none → s.answers (.markerFire m) (fun u =>
          u.getFrame n = { f with deferred := some (m, 0), fired := setAdd f.fired m.toNat } ∧
          u.still = { s with marker := u.marker, frame := u.frame }.still)))) ∧
    (f.sof = some x → s.lstate n = lL0 → s.sofHeld n x = false → s.answers (.sofTransmit p) (fun u =>
      (∃ stamp : BitVec 64, s.sends u n (packetBlocks (Hdr.words
        { ty := 1, addr := 127, flags := b2n x.timeFill * 4 + b2n x.deferred * 2 + b2n x.late, arg0 := x.fnum.toNat,
          arg1 := stamp.extractLsb' 16 32, arg2 := stamp.toNat % 2 ^ 16 }) [])) ∧
      u.getFrame n = { f with sof := none, sofs := f.sofs.map (fun e => if e.1 = x.fnum then (e.1, some s.time) else e) } ∧
      (u.getPort n).unbound = x.retrain ∧ u.still = { s with frame := u.frame, port := u.port }.still))

/-! ## Root links -/

/-- Presence, training and its failure: the bursts of R77 in their lengths; TRAIN of step 1 names the rates, and where the partner names
one in common the link trains at it and measures its delay with DELAY_PINGs (R77, R78, R79, R80, R81, R90). A port that has trained
reports attach, which the firmware enumerates (R107). -/
def Obligations.PresenceAndTraining : Prop :=
  ∀ (s : State) (p : PortNo) (ns seq ta rt lat : BitVec 16) (train : List (BitVec 64)) (rates r : Nat) (idle : Byte),
    let n := p.toNat
    let x := s.getPort n
    let key (l : List Field) : List Nat := l.map (fun f => f.key n)
    let heard := 1600 ≤ ns.toNat ∧ ns.toNat ≤ 2400
    let own := 2 ^ (min 2 (s.rd R.EWZ_CTL_MAXRATE n) + 1) - 1
    let first : List Block := [trainBlock own 1 0 0]
    let found := train.findSome? trainRates
    let next := delayPing (x.echoes + 1)
    let attached : Port :=
      if x.attach.any (fun a => a.1 == 0 && a.2.1 == 0) then x else { x with attach := x.attach ++ [(0, 0, 0)] }
    let up (t : State) : Prop := t.lstate n = lL0 ∧ t.rd R.EWZ_EVT_LINKUP n = 1 ∧ t.rd R.PTU_PLAT_LAT n = lat.toNat
    s.phase = .running →
    (s.lstate n = lDISC →
      (x.quiet = false → s.answers (.presencePeriod p) (fun t =>
        s.puts t [.burst n .presence 2000] ∧ s.portOnly t n { x with presLast := x.presNow, presNow := false } [])) ∧
      (x.quiet = true → s.answers (.presencePeriod p) (fun t =>
        s.puts t [] ∧ s.portOnly t n { x with presLast := x.presNow, presNow := false } [])) ∧
      (¬heard → s.answers (.presenceBurst ⟨p, ns, train⟩) (fun t => s.onlyRegs t [])) ∧
      (heard → (x.presLast = false ∨ x.quiet = true) → s.answers (.presenceBurst ⟨p, ns, train⟩) (fun t =>
        s.portOnly t n { x with presNow := true } [])) ∧
      (heard → x.presLast = true → x.quiet = false →
        (found = none → s.answers (.presenceBurst ⟨p, ns, train⟩) (fun t =>
          t.lstate n = lTRAIN ∧ t.rd R.EWZ_LSTAT_RATE n = 0 ∧ s.puts t (laneOuts n x.unskip first) ∧
          s.portOnly t n (Port.sent { x with presLast := false, presNow := false, train := train, echoes := 0, echoSum := 0,
                                             resuming := false, exitFrom := 0 } first)
            (key [R.EWZ_LSTAT_STATE, R.EWZ_LSTAT_RATE]))) ∧
        (found = some rates → s.bestRate n rates = some r → s.answers (.presenceBurst ⟨p, ns, train⟩) (fun t =>
          t.lstate n = lTRAIN ∧ t.rd R.EWZ_LSTAT_RATE n = r ∧ s.sends t n (delayPing 0) ∧
          (t.getPort n).train = train ∧ (t.getPort n).echoes = 0 ∧ t.still = { s with port := t.port }.still)) ∧
        (found = some rates → s.bestRate n rates = none → s.rd R.EWZ_CTL_RESET n = 0 → s.answers (.presenceBurst ⟨p, ns, train⟩) (fun t =>
          t.lstate n = lDISC ∧ t.rd R.EWZ_EVT_TRAINFAIL n = 1 ∧ (t.getPort n).quiet = true ∧
          t.still = { s with port := t.port }.still)))) ∧
    (s.lstate n = lTRAIN →
      (x.train.findSome? trainRates ≠ none → seq.toNat = x.echoes →
        (x.echoes + 1 < 64 → s.answers (.delayEcho p seq ta rt) (fun t =>
          s.puts t (laneOuts n x.unskip next) ∧
          s.portOnly t n (Port.sent { x with echoes := x.echoes + 1, echoSum := x.echoSum + ((rt.toNat : Int) - ta.toNat) } next) [])) ∧
        (x.echoes + 1 = 64 → s.answers (.delayEcho p seq ta rt) (fun t => s.puts t [] ∧
          s.portOnly t n { x with echoes := 64, echoSum := x.echoSum + ((rt.toNat : Int) - ta.toNat) } []))) ∧
      (64 ≤ x.echoes → idle.toNat < 64 → s.answers (.trainingComplete p idle lat) (fun t => s.onlyRegs t [])) ∧
      (64 ≤ x.echoes → 64 ≤ idle.toNat → s.rd R.EWZ_CTL_RESET n = 0 → s.rests n →
        (s.rd R.CMD_STAT_FWRDY = 0 → s.answers (.trainingComplete p idle lat) (fun t =>
          up t ∧ s.puts t (laneOuts n x.unskip idle64) ∧ s.portOnly t n (Port.sent { attached with latSeen := true } idle64)
            (key [R.EWZ_LSTAT_STATE, R.EWZ_EVT_LINKUP, R.PTU_PLAT_LAT, R.PTU_PSTAT_LATCHG, R.EWZ_CBLDLY_DELAY]))) ∧
        (s.rd R.CMD_STAT_FWRDY ≠ 0 → s.answers (.trainingComplete p idle lat) (fun t =>
          up t ∧ ∃ j, (t.getPort n).enum = some j ∧ j.hub = 0 ∧ j.step = 3))) ∧
      (s.rd R.EWZ_CTL_RESET n = 0 → s.answers (.trainingTimeout p) (fun t =>
        t.lstate n = lDISC ∧ t.rd R.EWZ_EVT_TRAINFAIL n = 1 ∧
        s.portOnly t n { x with quiet := true, presLast := false, presNow := false } (key [R.EWZ_LSTAT_STATE, R.EWZ_EVT_TRAINFAIL])))) ∧
    s.answers (.trainfailQuietEnd p) (fun t => s.portOnly t n { x with quiet := false } [])

/-- KEEP, suspend and resume (R77, R90, R93, R94, R98). A resume or a suspend that is not entered brings a port that rests to L0; WAKE
in the entry window aborts the suspend. -/
def Obligations.SuspendAndResume : Prop :=
  ∀ (s : State) (fn : InstNo) (p : PortNo) (level : BitVec 2) (ns : BitVec 16),
    let n := p.toNat
    let x := s.getPort n
    let key (l : List Field) : List Nat := l.map (fun f => f.key n)
    let asleep := s.lstate n = lL1 ∨ s.lstate n = lL2
    let quietRest := s.rd R.EWZ_CTL_RESET n = 0 ∧ s.rests n
    let keepLong := 160 ≤ ns.toNat ∧ ns.toNat ≤ 240
    let wakeLong := 320 ≤ ns.toNat ∧ ns.toNat ≤ 480
    let resumed (cause : Nat) : Port :=
      { x with resuming := true, hostWake := cause != 5, remoteWake := cause == 5, during := false, wakeAt := s.ns.toNat,
               wakeCause := cause, exitFrom := s.rd R.PWR_PCTL_STATE n }
    let refused (t : State) : Prop := t.lstate n = lL0 ∧ t.rd R.EWZ_CTL_SUSPREQ n = 0 ∧ t.rd R.PWR_EVT_SUSPREF = 1 ∧
      s.portOnly t n { x with susRef := some x.walk.fnum }
        (R.PWR_EVT_SUSPREF.key :: key [R.EWZ_LSTAT_STATE, R.EWZ_CTL_SUSPREQ])
    let keeps (t : State) (y : Port) (l : List Field) : Prop :=
      ∃ k, s.portOnly t n { y with pass := [], unskip := k } (key l)
    s.phase = .running →
    (asleep →
      s.answers (.keepPeriod p) (fun t => s.puts t [.burst n .keep 200] ∧ s.portOnly t n { x with keepMiss := x.keepMiss + 1 } []) ∧
      (keepLong → s.answers (.keepBurst ⟨p, ns⟩) (fun t => s.portOnly t n { x with keepMiss := 0 } [])) ∧
      (¬keepLong → s.answers (.keepBurst ⟨p, ns⟩) (fun t => s.onlyRegs t [])) ∧
      (wakeLong → x.resuming = false → s.answers (.wakeBurst ⟨p, ns⟩) (fun t =>
        s.puts t [.burst n .wake 400] ∧ s.portOnly t n (resumed 5) [])) ∧
      (x.resuming = false → s.reaches fn.toNat (R.EWZ_CTL_RESUME.off n) → s.answers (.hostResume fn p) (fun t =>
        t.rd R.EWZ_CTL_RESUME n = 1 ∧ s.puts t [.burst n .wake 400] ∧ s.portOnly t n (resumed 6) (key [R.EWZ_CTL_RESUME]))) ∧
      (x.resuming = true → quietRest → s.answers (.resumeComplete p) (fun t =>
        t.lstate n = lL0 ∧ t.rd R.EWZ_EVT_RESUME n = 1 ∧ t.rd R.EWZ_LSTAT_HOSTWAKE n = b2n x.hostWake ∧
        t.rd R.EWZ_LSTAT_REMOTEWAKE n = b2n x.remoteWake ∧ t.rd R.EWZ_LSTAT_DURING_ENTRY n = 0 ∧ t.rd R.EWZ_CTL_RESUME n = 0 ∧
        s.portOnly t n { x with resuming := false, keepMiss := 0 } (key [R.EWZ_LSTAT_STATE, R.EWZ_EVT_RESUME, R.EWZ_LSTAT_HOSTWAKE,
          R.EWZ_LSTAT_REMOTEWAKE, R.EWZ_LSTAT_DURING_ENTRY, R.EWZ_CTL_RESUME])))) ∧
    (¬wakeLong → s.answers (.wakeBurst ⟨p, ns⟩) (fun t => s.onlyRegs t [])) ∧
    (s.lstate n = lL0 → (level = 1 ∨ level = 2) → s.reaches fn.toNat (R.EWZ_CTL_SUSPREQ.off n) →
      s.answers (.suspendRequest fn p level) (fun t =>
        t.lstate n = lENTRY ∧ t.rd R.EWZ_CTL_SUSPREQ n = level.toNat ∧ s.sends t n (suspendReq level.toNat) ∧
        keeps t x [R.EWZ_LSTAT_STATE, R.EWZ_CTL_SUSPREQ])) ∧
    (s.lstate n = lENTRY →
      (s.rd R.EWZ_CTL_RESET n = 0 → s.answers (.suspendAck p) (fun t =>
        t.lstate n = (if s.rd R.EWZ_CTL_SUSPREQ n = 2 then lL2 else lL1) ∧ t.rd R.EWZ_CTL_SUSPREQ n = 0 ∧
        t.rd R.PWR_PCTL_STATE n = (if s.rd R.EWZ_CTL_SUSPREQ n = 2 then 3 else 2) ∧ s.sends t n idle64 ∧
        keeps t { x with keepMiss := 0, resuming := false } [R.EWZ_LSTAT_STATE, R.EWZ_CTL_SUSPREQ, R.PWR_PCTL_STATE])) ∧
      (quietRest → s.answers (.suspendNak p) refused ∧ s.answers (.suspendEntryTimeout p) refused ∧
        (wakeLong → s.answers (.wakeBurst ⟨p, ns⟩) (fun t =>
          t.lstate n = lL0 ∧ t.rd R.EWZ_CTL_SUSPREQ n = 0 ∧ t.rd R.EWZ_EVT_RESUME n = 1 ∧ t.rd R.EWZ_LSTAT_REMOTEWAKE n = 1 ∧
          t.rd R.EWZ_LSTAT_DURING_ENTRY n = 1))))

/-- Retrain, margin measurement and Recovery (R83–R90). -/
def Obligations.RetrainAndRecovery : Prop :=
  ∀ (s : State) (fn : InstNo) (p : PortNo) (width height : BitVec 8) (lat : BitVec 16) (line : List (Option (BitVec 66))),
    let n := p.toNat
    let x := s.getPort n
    let quietRest := s.rd R.EWZ_CTL_RESET n = 0 ∧ s.rests n
    let stays (t : State) : Prop := t.still = { s with port := t.port }.still ∧ ∀ q, q ≠ n → t.getPort q = s.getPort q
    let recovers (t : State) : Prop :=
      t.lstate n = lRECOV ∧ t.rd R.EWZ_EVT_RECOV n = 1 ∧ t.rd R.EWZ_EVT_BNDSUSP n = 1 ∧ (t.getPort n).unbound = true ∧ stays t
    let w := if width.toNat < s.rd R.EWZ_MARGIN_TH_WTH n then x.lowWidth + 1 else 0
    let h := if height.toNat < s.rd R.EWZ_MARGIN_TH_HTH n then x.lowHeight + 1 else 0
    let hold := max 1 (s.rd R.EWZ_MARGIN_TH_HOLD n)
    let bad := ((line.reverse.take 64).filter (fun b => !b.any syncOk)).length
    s.phase = .running →
    (s.lstate n = lL0 → s.answers (.retrainReq p) (fun t =>
      t.lstate n = lRETRAIN ∧ t.rd R.EWZ_EVT_BNDSUSP n = 1 ∧ (t.getPort n).unbound = true ∧ stays t)) ∧
    (s.lstate n = lL0 → s.answers (.marginMeasure p width height) (fun t =>
      t.rd R.EWZ_MARGIN_WIDTH n = width.toNat ∧ t.rd R.EWZ_MARGIN_HEIGHT n = height.toNat ∧
      (t.getPort n).lowWidth = w ∧ (t.getPort n).lowHeight = h ∧
      (hold ≤ w ∨ hold ≤ h → s.rd R.EWZ_LSTAT_RTPEND n = 0 → t.rd R.EWZ_EVT_MARGIN n = 1 ∧ t.rd R.EWZ_LSTAT_RTPEND n = 1) ∧
      (w < hold → h < hold → t.rd R.EWZ_LSTAT_RTPEND n = s.rd R.EWZ_LSTAT_RTPEND n) ∧ stays t)) ∧
    (s.reaches fn.toNat (R.EWZ_CTL_FORCERT.off n) → s.answers (.forceRetrain fn p) (fun t =>
      t.rd R.EWZ_CTL_FORCERT n = 1 ∧ s.onlyRegs t [R.EWZ_CTL_FORCERT.key n])) ∧
    (s.lstate n = lRETRAIN → quietRest → s.answers (.fastRetrainComplete p lat) (fun t =>
      t.lstate n = lL0 ∧ t.rd R.PTU_PLAT_LAT n = lat.toNat ∧ s.portOnly t n { x with latSeen := true }
        [R.EWZ_LSTAT_STATE.key n, R.PTU_PLAT_LAT.key n, R.PTU_PSTAT_LATCHG.key n])) ∧
    (s.lstate n = lRECOV → quietRest → s.answers (.recoveryComplete p lat) (fun t =>
      t.lstate n = lL0 ∧ t.rd R.PTU_PLAT_LAT n = lat.toNat ∧ s.portOnly t n { x with latSeen := true }
        [R.EWZ_LSTAT_STATE.key n, R.PTU_PLAT_LAT.key n, R.PTU_PSTAT_LATCHG.key n, R.EWZ_CNT1_RECOV.key n])) ∧
    (x.cur = none → x.cur0 = none →
      (s.lstate n = lRETRAIN → s.answers (.retrainTimeout p) recovers) ∧
      (s.lstate n = lL0 → 8 ≤ bad → s.answers (.blockLockLost ⟨p, line⟩) recovers)) ∧
    (bad < 8 → line.getLast? ≠ some none → s.answers (.blockLockLost ⟨p, line⟩) (fun t => s.onlyRegs t []))

/-- Reset, enable, SKIP, babble, and the losses of a link with nothing attached (R74, R76, R77, R90, R91, R98, R119). -/
def Obligations.LinkEnableResetAndLoss : Prop :=
  ∀ (s : State) (fn : InstNo) (p : PortNo) (g : Time80),
    let n := p.toNat
    let x := s.getPort n
    let gone (t : State) (st : Nat) : Prop := t.lstate n = st ∧ t.rd R.EWZ_EVT_DETACH n = 1
    s.phase = .running →
    (s.lstate n = lL0 → s.answers (.skipInsert p) (fun t => s.sends t n [skipBlock] ∧ (t.getPort n).unskip = 0 ∧
      (∀ q, q ≠ n → t.getPort q = s.getPort q) ∧ t.still = { s with port := t.port }.still ∧ s.regsKept t [])) ∧
    (s.reaches fn.toNat (R.EWZ_CTL_EN.off n) →
      (s.lstate n = lDISABLED → s.rd R.EWZ_CTL_RESET n = 0 → s.answers (.ewzEnableWrite fn p true) (fun t =>
        t.lstate n = lDISC ∧ t.rd R.EWZ_CTL_EN n = 1 ∧ s.portOnly t n { x with presLast := false, presNow := false }
          [R.EWZ_CTL_EN.key n, R.EWZ_LSTAT_STATE.key n])) ∧
      (s.lstate n = lDISC ∨ s.lstate n = lTRAIN → x.pass = [] → s.answers (.ewzEnableWrite fn p false) (fun t =>
        t.lstate n = lDISABLED ∧ t.rd R.EWZ_CTL_EN n = 0 ∧ t.rd R.EWZ_CTL_RESET n = 0 ∧
        s.portOnly t n { x with quiet := false, presLast := false, presNow := false }
          [R.EWZ_CTL_EN.key n, R.EWZ_LSTAT_STATE.key n, R.EWZ_CTL_RESET.key n])) ∧
      (s.lstate n = lL0 → s.bare n → s.answers (.ewzEnableWrite fn p false) (fun t => gone t lDISABLED))) ∧
    (s.reaches fn.toNat (R.EWZ_CTL_RESET.off n) → s.rests n → x.cur = none →
      (s.lstate n = lDISC → s.answers (.portResetRequest fn p) (fun t =>
        t.rd R.EWZ_CTL_RESET n = 0 ∧ s.puts t [.burst n .reset 20000] ∧ s.onlyRegs t [R.EWZ_CTL_RESET.key n])) ∧
      (s.lstate n = lL0 → s.bare n → s.answers (.portResetRequest fn p) (fun t =>
        t.rd R.EWZ_CTL_RESET n = 0 ∧ s.sends t n linkReset)) ∧
      (s.lstate n = lTRAIN ∨ s.lstate n = lRETRAIN ∨ s.lstate n = lRECOV ∨ s.lstate n = lENTRY →
        s.answers (.portResetRequest fn p) (fun t => t.rd R.EWZ_CTL_RESET n = 1 ∧ s.onlyRegs t [R.EWZ_CTL_RESET.key n]))) ∧
    (s.bare n → s.rd R.EWZ_CTL_RESET n = 0 →
      (s.lstate n = lL1 ∨ s.lstate n = lL2 → 3 ≤ x.keepMiss → s.answers (.keepTimeout p) (fun t => gone t lDISC)) ∧
      (s.lstate n = lRECOV → s.answers (.recoveryTimeout p) (fun t => gone t lDISC)) ∧
      (s.lstate n = lL0 ∨ s.lstate n = lENTRY ∨ s.lstate n = lRETRAIN → x.walk.bTime = some g →
        g.toNat + (s.tseg n + 100) * 65536 ≤ s.time.toNat →
        s.answers (.babbleTimeout p) (fun t => gone t lDISABLED ∧ t.rd R.EWZ_EVT_BABBLE n = 1 ∧ t.rd R.EWZ_CTL_EN n = 0)))

/-! ## Packets -/

/-- What a root port does with a received line before the packet's type counts: nothing where the link carries none, a CRC error of a
packet that ended with EOP is counted (one that did not is dropped: log entry 183), an address that is not VALID is counted, a stale
generation is counted and reported as a zombie, and a packet of an attached device sets its TOCNT to 0 even where it answers no
transaction (R100, R101, R133, R174).  Every packet that a sender scrambles onto the lane, whatever the scrambler's history, is read back
as it was (R72, R131, R132, R135, R144). -/
def Obligations.PacketAcceptance : Prop :=
  ∀ (s : State) (p : PortNo) (ln : RxLine) (i : Instr) (ty : Nat) (h : Hdr) (l : List Byte) (sd : BitVec 58),
    let n := p.toNat
    let k := ln.packet
    let x := s.getPort n
    let more (f : Field) : Nat := min (f.span - 1) (s.rd f n + 1)
    let whole := k.crcOk = true ∧ k.formOk = true ∧ k.ty = ty ∧ k.addr ≠ 0 ∧ k.addr ≠ 127
    let hw := ({ h with len := l.length } : Hdr).words
    (h.flags < 8 → h.arg0 < 2 ^ 16 → l.length ≤ 4096 →
      (⟨sd, scramble sd (h.packet l)⟩ : RxLine).packet =
        { h0 := hw.getD 0 0, h1 := hw.getD 1 0, h2 := hw.getD 2 0, h3 := hw.getD 3 0, payload := l,
          crc := if l.length = 0 then 0 else crc32 l, nbytes := 16 + l.length + (if l.length = 0 then 0 else 4), abort := none,
          bad := false }) ∧
    (s.phase = .running →
      (i, ty) ∈ [(.dataPkt p ln, 4), (.ack p ln, 5), (.nak p ln, 6), (.notyet p ln, 7), (.stallPkt p ln, 8), (.probe p ln, 9),
        (.ready p ln, 10), (.portEvent p ln, 11), (.positionReport p ln, 12)] →
      (s.lstate n ≠ lL0 → s.lstate n ≠ lENTRY → s.answers i (fun t => s.onlyRegs t [])) ∧
      (s.lstate n = lL0 ∨ s.lstate n = lENTRY →
        (k.framed = true → k.crcOk = false → s.answers i (fun t =>
          t.rd R.EWZ_CNT0_CRCERR n = more R.EWZ_CNT0_CRCERR ∧ s.onlyRegs t [R.EWZ_CNT0_CRCERR.key n])) ∧
        (k.framed = false ∨ (k.crcOk = true ∧ k.formOk = false) → s.answers i (fun t => s.onlyRegs t [])) ∧
        (whole → s.rd R.EWZ_ADDRTAB0_VALID n k.addr = 0 → s.answers i (fun t =>
          t.rd R.EWZ_CNT2_BADADDR n = more R.EWZ_CNT2_BADADDR ∧ s.onlyRegs t [R.EWZ_CNT2_BADADDR.key n])) ∧
        (whole → s.rd R.EWZ_ADDRTAB0_VALID n k.addr ≠ 0 → s.genOk n k.addr k.gen = false → s.answers i (fun t =>
          t.rd R.EWZ_CNT0_STALEGEN n = more R.EWZ_CNT0_STALEGEN ∧ t.rd R.EWZ_EVT_ZOMBIE n = 1 ∧ t.still = s.still)) ∧
        (whole → s.genOk n k.addr k.gen = true → x.cur = none → x.cur0 = none → s.rests n → s.answers i (fun t =>
          t.rd R.EWZ_ADDRTAB0_TOCNT n k.addr = 0 ∧
          s.portOnly t n { x with toOld := s.rd R.EWZ_ADDRTAB0_TOCNT n k.addr } [R.EWZ_ADDRTAB0_TOCNT.key n k.addr]))))


/-- What the packets of each type do to the transaction of classes 1–3 that they answer: DATA is taken and stored, or discarded on a
waiting pipe; ACK, NOTYET and NAK release the packets before their E; STALL halts the pipe and ends the transfer; PROBE is answered with
READY; READY releases packets and gives a credit; a PORT_EVENT brings a port status record; a POSITION_REPORT is DATA that a virtual track
accepts and that is an error of every other source (R29, R30, R118, R141, R147–R161, R204). -/
def Obligations.PacketsAnswerTransactions : Prop :=
  ∀ (s : State) (p : PortNo) (ln : RxLine) (t : Txn) (y : Xfer) (w0 w1 : Word) (v : Nat) (sof : Time80) (num : BitVec 16) (sa : Nat),
    let n := p.toNat
    let k := ln.packet
    let x := s.getPort n
    let d : Desc := t.words
    let tocnt := R.EWZ_ADDRTAB0_TOCNT.key n k.addr
    let q := s.pipe n t.addr t.dirIn t.ep
    let x1 : Port := { x with toOld := s.rd R.EWZ_ADDRTAB0_TOCNT n k.addr, cur := none }
    let rel := (k.seq + 64 - t.seq0.toNat) % 64
    let freed (naks : Nat) : Xfer :=
      { y with acked := y.acked + rel, done := min d.tlen (y.done + rel * d.mps), naks := y.naks + naks, kept := y.kept.drop rel }
    let w := x.walk
    let keeps (u : State) (z : Port) (l : List Nat) : Prop := ∃ m, s.portOnly u n { z with pass := [], unskip := m } l
    let outBurst := t.kind = .out ∧ t.dirIn = false ∧ d.dirIn = false ∧ rel ≤ t.n ∧ y.acked + rel < d.packets
    let later : Nat := s.ns.toNat + s.probeNs n t
    let moved : Pipe := { q with seq := q.seq + BitVec.ofNat 6 rel }
    let again : Walk := { w with retry := w.retry ++ [t.desc] }
    let onward : Walk := { w with cont := some (t.desc, t.src) }
    let inBurst (ty : Nat) := s.accepts n k ty ∧ t.kind = .inn ∧ k.seq = q.seq.toNat ∧ t.ended = none ∧ d.dop = false ∧
      0 < k.len ∧ y.done + k.len ≤ d.tlen ∧ s.bufRoom n k.len = true ∧ k.bend = false ∧ q.waiting = false
    let fin := k.last || decide (k.len < d.mps) || decide (y.done + k.len = d.tlen)
    let taken (u : State) : Prop :=
      u.pipe n t.addr true t.ep = { q with seq := q.seq + 1 } ∧
      u.xfer n t.desc = some { y with done := y.done + k.len, retx := y.retx + b2n k.retx } ∧
      (u.getPort n).cur = some { t with
        answered := true, ended := if fin then some (if y.done + k.len < d.tlen then dSHORT else dOK) else none }
    let ws := bytesWords k.payload
    let at_ := BitVec.ofInt 80 ((sof.toNat : Int) + (ws.getD 3 0).toInt * 4096)
    let polled := s.accepts n k 11 ∧ t.kind = .hub ∧ t.dirIn = true ∧ k.seq = q.seq.toNat ∧ k.bend = false ∧ ws = [w0, w1]
    let was := (smGet x.hubRec (0, 0) (t.addr * 16 + bits w0 3 0)).1
    s.phase = .running → s.rests n → x.cur = some t → x.cur0 = none → t.meets k = true → s.xfer n t.desc = some y →
    t.src ≠ .bulk → s.cancelDue n t.desc = false → w.owed = none → w.sync = [] →
    (inBurst 4 → k.payload.length = 4 → (d.buf + y.done) % 4 = 0 → s.globalSa (d.buf + y.done) = some sa →
      s.imemShut (d.buf + y.done) = false →
      ¬(0x1020800000 ≤ sa ∧ sa < 0x1020C00000) → ¬(0x1034000000 ≤ sa ∧ sa < 0x1034100000) →
      (∀ j, j < 16 → s.clean (sa / 64 * 64 + 4 * j)) → s.answers (.dataPkt p ln) (fun u => taken u ∧
        (∀ b, u.byteAt b = if sa ≤ b ∧ b < sa + 4 then k.payload.getD (b - sa) 0 else s.byteAt b) ∧
        (∀ z, z ≠ n → u.getPort z = s.getPort z) ∧ u.still = { s with port := u.port, mem := u.mem }.still)) ∧
    (inBurst 12 → k.len = 16 → 8 ≤ v → v < 16 → s.rd R.PTU_TRKSRC_PORT v = n → s.rd R.PTU_TRKSRC_ADDR v = k.addr →
      s.rd R.PTU_TRKSRC_GEN v = k.gen → s.rd R.PTU_TRKSRC_EP v = k.ep → s.trkRuns v = true →
      d.buf + y.done + 16 ≤ 0x1000000000 →
      (s.getFrame n).sofs.find? (fun f => f.1.toNat == bits (ws.getD 2 0) 15 0) = some (num, some sof) →
      (∀ l, (s.getTrack v).lastAt = some l → l.toNat < at_.toNat) → s.answers (.positionReport p ln) (fun u => taken u ∧
        (u.getTrack v).reps = ((at_, ws.getD 1 0 ++ ws.getD 0 0) :: (s.getTrack v).reps).take (2 ^ s.rd R.PTU_TRKCTL_VWIN v + 1) ∧
        (u.getTrack v).lastAt = some at_ ∧ (u.getTrack v).tEdge = s.time ∧ u.rd R.PTU_TRKSTAT_STALE v = 0 ∧
        (∀ z, 8 ≤ z → z < 16 → s.trkRuns z = true → s.rd R.PTU_TRKSRC_PORT z ≠ n ∨ s.rd R.PTU_TRKSRC_ADDR z ≠ k.addr ∨
            s.rd R.PTU_TRKSRC_GEN z ≠ k.gen ∨ s.rd R.PTU_TRKSRC_EP z ≠ k.ep →
          u.rd R.PTU_TRKSTAT_SRCERR z = 1 ∧ u.getTrack z = s.getTrack z) ∧
        ∀ z, z < 8 ∨ 16 ≤ z ∨ s.trkRuns z = false → u.getTrack z = s.getTrack z)) ∧
    (s.accepts n k 4 → t.kind = .inn → t.dirIn = true → q.waiting = true → k.bend = false → s.answers (.dataPkt p ln) (fun u =>
      keeps u { x1 with cur := some { t with answered := true } } [tocnt])) ∧
    (outBurst → s.accepts n k 5 → s.answers (.ack p ln) (fun u =>
      keeps u ({ x1 with xfers := smIns x.xfers t.desc (freed 0), walk := onward }.setPipe t.addr false t.ep
        { moved with credit := max 1 (min 16 (k.arg0 % 32)), waiting := false, due := false, dueAt := later }) [tocnt])) ∧
    (outBurst → s.accepts n k 7 → s.answers (.notyet p ln) (fun u =>
      keeps u ({ x1 with xfers := smIns x.xfers t.desc (freed 1), walk := again }.setPipe t.addr false t.ep
        { moved with waiting := true, due := false, dueAt := later }) [tocnt])) ∧
    (outBurst → s.accepts n k 6 → s.answers (.nak p ln) (fun u =>
      keeps u ({ x1 with xfers := smIns x.xfers t.desc (freed 1), walk := again }.setPipe t.addr false t.ep
        { moved with waiting := false, due := false, dueAt := later }) [tocnt])) ∧
    (t.kind = .out ∧ t.dirIn = false ∧ d.dirIn = false → s.accepts n k 8 → s.descClean t.desc → d.cop = false →
      s.answers (.stallPkt p ln) (fun u =>
        u.pipe n t.addr false t.ep = { q with halted := true } ∧ (u.getPort n).cur = none ∧ u.xfer n t.desc = none ∧
        s.completed u n t.desc d dSTALLED y.done y.w11 ∧ (∀ z, z ≠ n → u.getPort z = s.getPort z) ∧
        u.still = { s with port := u.port, mem := u.mem }.still ∧ s.regsKept u [tocnt])) ∧
    (s.accepts n k 9 → t.kind = .inn → t.dirIn = true → d.dop = false → 0 < s.credit n d → s.rd R.PTU_PSTAT_PREWARN n = 0 →
      s.answers (.probe p ln) (fun u =>
        s.sends u n (Hdr.packet { ty := 10, tc := t.tc, addr := t.addr, gen := t.gen, dir := true, ep := t.ep, seq := q.seq.toNat,
                                  arg0 := s.credit n d } []) ∧
        keeps u ({ x1 with cur := some { t with answered := false, n := s.credit n d, seq0 := q.seq, full := false } }.setPipe
          t.addr true t.ep { q with waiting := false, due := false }) [tocnt])) ∧
    (s.accepts n k 10 → t.kind = .probe → t.dirIn = false → rel ≤ y.sent - y.acked → y.acked + rel < d.packets →
      s.answers (.ready p ln) (fun u =>
        keeps u ({ x1 with xfers := smIns x.xfers t.desc (freed 0), walk := onward }.setPipe t.addr false t.ep
          { moved with waiting := false, due := false, credit := max 1 (min 16 (k.arg0 % 32)) }) [tocnt])) ∧
    (polled → s.answers (.portEvent p ln) (fun u => u.rd R.EWZ_EVT_HUBEVT n = 1 ∧
      smFind (u.getPort n).hubRec (t.addr * 16 + bits w0 3 0) = some (w0, w1))) ∧
    (polled → bits (w0 &&& ~~~was) 12 8 = 0 → w0.getLsbD 8 = false ∨ bits w0 31 28 ≠ lL0 ∨ bits was 31 28 = lL0 →
      s.answers (.portEvent p ln) (fun u => u.rd R.EWZ_EVT_HUBEVT n = 1 ∧
        keeps u ({ x1 with cur := some { t with answered := true },
                           hubRec := smIns x.hubRec (t.addr * 16 + bits w0 3 0) (w0, w1) }.setPipe
          t.addr true t.ep { q with seq := q.seq + 1 }) [tocnt, R.EWZ_EVT_HUBEVT.key n]))


/-- Timeouts of transactions: no answer in time counts in TOCNT and the transfer is tried again, a waiting pipe being asked at once, a
class-0 token without its packet ends its pair with TIMEOUT, a burst that ends without BEND is answered, by a handshake that waits while
PREWARN is up, and a waiting pipe may be asked again (R153, R156, R167, R173–R175, R189). -/
def Obligations.TransactionTimeouts : Prop :=
  ∀ (s : State) (p : PortNo) (t : Txn) (t0 : Txn0) (z : Pair) (addr : BitVec 7) (din : Bool) (ep : BitVec 4),
    let n := p.toNat
    let x := s.getPort n
    let w := x.walk
    let limit (a : Nat) := s.rd R.EWZ_ADDRTAB0_TOCNT n a + 1 < max 1 (s.rd R.EWZ_CTL_LOSTLIM n) ∧ s.rd R.EWZ_ADDRTAB0_TOCNT n a < 15
    let q := s.pipe n t.addr t.dirIn t.ep
    let d : Desc := z.words
    let wait := s.pipe n addr.toNat din ep.toNat
    let keeps (u : State) (z : Port) (l : List Nat) : Prop := ∃ m, s.portOnly u n { z with pass := [], unskip := m } l
    let retried : Port := { x with cur := none, walk := { w with retry := w.retry ++ [t.desc] } }
    let served : Port := { x with cur := none, walk := { w with cont := some (t.desc, t.src) } }
    let ack : List Block := Hdr.packet { ty := 5, tc := t.tc, addr := t.addr, gen := t.gen, dir := true, ep := t.ep, seq := q.seq.toNat,
                                         arg0 := s.credit n t.words } []
    let burst := x.cur = some t ∧ t.kind = .inn ∧ t.dirIn = true ∧ t.src ≠ .bulk ∧ t.answered = true ∧ t.ended = none ∧ t.full = false ∧
      q.waiting = false ∧ 0 < s.credit n t.words ∧ s.cancelDue n t.desc = false ∧ w.owed = none
    s.phase = .running → s.rests n → w.sync = [] →
    (x.cur = some t → (t.kind = .out ∨ t.kind = .inn ∨ t.kind = .probe) → t.src ≠ .bulk → t.answered = false → t.addr ≠ 0 →
      limit t.addr → s.cancelDue n t.desc = false → w.owed = none → s.answers (.responseTimeout p false) (fun u =>
        u.rd R.EWZ_ADDRTAB0_TOCNT n t.addr = s.rd R.EWZ_ADDRTAB0_TOCNT n t.addr + 1 ∧
        keeps u (if q.waiting then retried.setPipe t.addr t.dirIn t.ep { q with due := true } else retried)
          [R.EWZ_ADDRTAB0_TOCNT.key n t.addr])) ∧
    (x.cur0 = some t0 → smFind x.pairs t0.pair = some z → t0.addr ≠ 0 → limit t0.addr → s.cancelDue n z.desc = false →
      d.cop = false → s.descClean z.desc → s.answers (.responseTimeout p true) (fun u =>
        (u.getPort n).cur0 = none ∧ smFind (u.getPort n).pairs t0.pair = none ∧
        u.rd R.EWZ_ADDRTAB0_TOCNT n t0.addr = s.rd R.EWZ_ADDRTAB0_TOCNT n t0.addr + 1 ∧
        bits (u.rawWord (saList z.desc + 36)) 31 24 = dTIMEOUT ∧ (∀ q, q ≠ n → u.getPort q = s.getPort q))) ∧
    (burst → s.rd R.PTU_PSTAT_PREWARN n = 0 → s.answers (.burstGapTimeout p) (fun u => s.sends u n ack ∧ keeps u served [])) ∧
    (burst → s.rd R.PTU_PSTAT_PREWARN n ≠ 0 → s.answers (.burstGapTimeout p) (fun u =>
      s.puts u [] ∧ s.portOnly u n { served with held := [ack] } [])) ∧
    (wait.waiting = true → s.answers (.probeIntervalExpiry p addr din ep) (fun u =>
      s.portOnly u n (x.setPipe addr.toNat din ep.toNat { wait with due := true }) []))


/-! ## Schedule -/

/-- The walker starts the SETUP of a control transfer outside a frame, its request behind the token, or the TOKEN_IN of a PTD inside one; a
class-0 PTD opens its pair with a TOKEN_IN; the EMIT of a pair leaves as DATA; GUARD ends the frame, and a pending fast retrain that is
forced, or that fits, starts behind it (R85–R89, R163, R169, R170, R185, R188, R213, R214, R219–R223). -/
def Obligations.WalkerAndGuard : Prop :=
  ∀ (s : State) (p : PortNo) (j : FwJob) (fl : List FwJob) (a k wn : Nat) (z : Pair) (e : EmitRec) (pair : BitVec 5)
    (lat : BitVec 16),
    let n := p.toNat
    let x := s.getPort n
    let w := x.walk
    let d := s.peekDesc a
    let clear : List Bool := List.replicate 16 false
    let q := s.pipe n d.addr true d.ep
    let keeps (u : State) (z : Port) (l : List Nat) : Prop := ∃ m, s.portOnly u n { z with pass := [], unskip := m } l
    let passes := s.descClean a ∧ d.active = true ∧ s.instStopped d.inst = false ∧ (s.descCheck n d clear false).1 = none ∧
      d.dirIn = true ∧ q.halted = false ∧ q.sync = false ∧ s.cqBars n d = false
    let token (cls m : Nat) : List Block :=
      Hdr.packet { ty := 2, tc := cls, addr := d.addr, gen := d.gen, dir := true, ep := d.ep, seq := q.seq.toNat, arg0 := m } []
    let settled := (∀ e ∈ s.cmds.cmd, e.2.wait ≠ .enum n) ∧ (x.enum ≠ none ∨ x.attach = [] ∨ s.rd R.CMD_STAT_FWRDY = 0)
    let c := s.credit n d
    let l := d.lens 0 c
    let cost := (4 + pBlocks d.omax) * s.tblk n
    let zd : Desc := z.words
    let oq := s.pipe n zd.oaddr false zd.oep
    let request : List Block := Hdr.packet { ty := 4, tc := j.tc, addr := j.addr, gen := j.gen, flags := if j.sent then 7 else 5 }
      (wordBytes j.w0 ++ wordBytes j.w1)
    let ends := x.cur = none ∧ x.cur0 = none ∧ x.held = [] ∧ x.psyncs = [] ∧ w.owed = none ∧ w.live = true ∧ w.closed = true ∧
      w.guarded = false ∧ w.set = [] ∧ w.c0 = [] ∧ w.sync = []
    s.phase = .running → s.lstate n = lL0 →
    (s.inFrame n = false → x.fw = j :: fl → s.laneFree n = true → settled → j.isClear = false → j.setupDone = false →
      j.addr = 0 ∨ s.genOk n j.addr j.gen = true → s.answers (.walkerServeBurst p) (fun t =>
        s.sends t n (Hdr.packet { ty := 3, tc := j.tc, addr := j.addr, gen := j.gen, flags := 2 } []) ∧
        (t.getPort n).pass = [⟨j.addr, 8, request, 0, false⟩] ∧
        (∃ u, (t.getPort n).cur = some u ∧ u.kind = .setup ∧ u.addr = j.addr ∧ u.gen = j.gen ∧ u.n = 1) ∧
        (t.pipe n j.addr false 0).seq = 0 ∧ (t.pipe n j.addr true 0).seq = 0 ∧ (∀ r, r ≠ n → t.getPort r = s.getPort r) ∧
        t.still = { s with port := t.port }.still ∧ s.regsKept t [])) ∧
    (s.windowOpen n = true → s.inFrame n = true → s.laneFree n = true → settled → x.psyncs = [] → s.rd R.SCH_CTL_EN n = 1 →
      w.cont = none → w.todo = [a] → w.sync = [] → passes → (d.cls = 1 ∨ d.cls = 2) → a ∉ w.fin → q.waiting = false → 0 < c →
      s.xfer n a = none → w.psum + s.estimate n d.addr true l ≤ s.pwmax n → s.fitBurst n d.addr true l c = some (k, wn) →
      s.answers (.walkerServeBurst p) (fun t => s.sends t n (token d.cls (k - 1)) ∧
        keeps t ({ x with cur := some (mkTxn .inn a d .periodic k q.seq.toNat), xfers := smIns x.xfers a { btd := false },
                          walk := { w with todo := [], psum := w.psum + wn, started := setAdd w.started a } }.setPipe
          d.addr true d.ep { q with due := false }) [])) ∧
    (w.live = true → w.guarded = false → (s.getFrame n).sof = none → x.cur0 = none → x.emitq = [] → x.pairs.length < s.maxOpen n →
      s.rd R.SCH_CTL_EN n = 1 → w.c0 = [a] → passes → d.cls = 0 → d.pair ∉ w.issued → w.psum + cost ≤ s.pwmax n →
      s.adelay n d.addr + 24000 ≤ s.rd R.PTU_PNEXT_NEXT n * 8 → s.clkSusp = false → s.swap = [] →
      s.answers (.class0TokenIssue p) (fun t => s.sends t n (token 0 0) ∧ t.rd R.SCH_RFXSTAT_OPEN n = (t.getPort n).pairs.length % 8 ∧
        (t.getPort n).cur0 = some { pair := d.pair, addr := d.addr, gen := d.gen, ep := d.ep } ∧
        smFind (t.getPort n).pairs d.pair = some { desc := a, words := d, inbound := false, late := false, bsusp := x.unbound,
                                                   emit := none, done := 0 } ∧
        (x.unbound = true → t.rd R.SCH_RFXSTAT_SUSP_LINK n = 1 ∧ t.rd R.EWZ_EVT_BNDSUSP n = 1) ∧
        (t.getPort n).walk = { w with c0 := [], psum := w.psum + cost, issued := setAdd w.issued d.pair } ∧
        (∀ r, r ≠ n → t.getPort r = s.getPort r) ∧ t.still = { s with port := t.port }.still ∧
        s.regsKept t ([R.SCH_RFXSTAT_OPEN.key n] ++ (if w.closed then [R.SCH_PSUM_PSUM.key n] else []) ++
          (if x.unbound then [R.SCH_RFXSTAT_SUSP_LINK.key n, R.EWZ_EVT_BNDSUSP.key n] else [])))) ∧
    (smFind x.pairs pair.toNat = some z → z.emit = some e → x.emitq.head? = some pair.toNat → (s.getFrame n).sof = none →
      s.cancelDue n z.desc = false → zd.cop = false → s.descClean z.desc → s.answers (.emitPacketSend p pair lat) (fun t =>
        s.sends t n (Hdr.packet { ty := 4, addr := zd.oaddr, gen := zd.ogen, ep := zd.oep, seq := oq.seq.toNat, flags := 5 } e.payload) ∧
        t.rd R.SCH_RFXMAX_MAXLAT n = max lat.toNat (s.rd R.SCH_RFXMAX_MAXLAT n) % 2 ^ 16 ∧
        (t.pipe n zd.oaddr false zd.oep).seq = oq.seq + 1 ∧ smFind (t.getPort n).pairs pair.toNat = none ∧
        bits (t.rawWord (saList z.desc + 36)) 31 24 = dOK ∧ (∀ r, r ≠ n → t.getPort r = s.getPort r))) ∧
    (ends → s.rd R.EWZ_LSTAT_RTPEND n = 0 → s.answers (.guardSend p) (fun t =>
      t.rd R.SCH_PSTAT_WSTATE n = 4 ∧ s.sends t n [guardBlock w.fnum] ∧
      keeps t { x with walk := { w with guarded := true, gTime := some s.time, bTime := some s.time } } [R.SCH_PSTAT_WSTATE.key n])) ∧
    (ends → s.rd R.EWZ_LSTAT_RTPEND n ≠ 0 → s.rd R.EWZ_CTL_FORCERT n ≠ 0 ∨ s.retrainFits n = true → s.answers (.guardSend p) (fun t =>
      t.lstate n = lRETRAIN ∧ t.rd R.EWZ_LSTAT_RTPEND n = 0 ∧ t.rd R.EWZ_CTL_FORCERT n = 0 ∧ t.rd R.EWZ_EVT_BNDSUSP n = 1 ∧
      s.sends t n retrainReq))


/-- LISTSYNC holds what the walker holds and clears when all of that is let go (R202); a cancel waits for a transaction of the descriptor
and ends at once where there is none (R203); a read of the maximum reflex latency clears it, but for what hardware loads in the same cycle
(R8, R222, R228). -/
def Obligations.ListSyncAndCancel : Prop :=
  ∀ (s : State) (fn : InstNo) (p : PortNo) (desc : BitVec 17) (t : Txn) (load : BitVec 16),
    let n := p.toNat
    let x := s.getPort n
    let w := x.walk
    let a := desc.toNat * 64
    let cancels (u : State) (r go : Nat) : Prop :=
      u.rd R.SCH_CANCEL_RESULT n = r ∧ u.rd R.SCH_CANCEL_GO n = go ∧ u.rd R.SCH_CANCEL_ADDR n = desc.toNat
    let keys := [R.SCH_CANCEL_RESULT.key n, R.SCH_CANCEL_GO.key n, R.SCH_CANCEL_ADDR.key n]
    s.phase = .running →
    (s.reaches fn.toNat (R.SCH_CTL_LISTSYNC.off n) → s.answers (.listSync fn p) (fun u =>
      u.rd R.SCH_CTL_LISTSYNC n = 1 ∧ s.portOnly u n { x with walk := { w with sync := s.heldAll n } } [R.SCH_CTL_LISTSYNC.key n])) ∧
    (s.rd R.SCH_CTL_LISTSYNC n = 1 → (∀ b ∈ w.sync, b ∉ s.heldAll n) →
      (∀ e ∈ s.cmds.cmd, e.2.wait ≠ .unlink n ∧ e.2.wait ≠ .unlink 16) → s.answers (.listSyncClear p) (fun u =>
        u.rd R.SCH_CTL_LISTSYNC n = 0 ∧ s.portOnly u n { x with walk := { w with sync := [] } } [R.SCH_CTL_LISTSYNC.key n])) ∧
    ((∃ b ∈ w.sync, b ∈ s.heldAll n) → s.answers (.listSyncClear p) (fun u =>
      u.rd R.SCH_CTL_LISTSYNC n = s.rd R.SCH_CTL_LISTSYNC n ∧
      s.portOnly u n { x with walk := { w with sync := w.sync.filter (fun b => (s.heldAll n).contains b) } } [])) ∧
    (s.reaches fn.toNat (R.SCH_CANCEL_GO.off n) →
      (x.cur = some t → t.desc = a → (t.kind = .out ∨ t.kind = .inn ∨ t.kind = .probe) → s.answers (.descriptorCancel fn p desc) (fun u =>
        cancels u 0 1 ∧ s.onlyRegs u keys)) ∧
      ((∀ u, x.cur = some u → u.desc ≠ a) → (∀ e ∈ x.pairs, e.2.desc ≠ a) →
        (∀ e ∈ s.cmds.cmd, e.2.wait ≠ .cancel n) →
        ((s.peekDesc a).active = false → s.answers (.descriptorCancel fn p desc) (fun u => cancels u 2 0 ∧ s.onlyRegs u keys)) ∧
        ((s.peekDesc a).active = true → (s.peekDesc a).cop = false → s.descClean a → s.xfer n a = none →
          s.answers (.descriptorCancel fn p desc) (fun u =>
            cancels u 1 0 ∧ s.completed u n a (s.peekDesc a) dCANCELLED 0 0 ∧
            (∀ r, r ≠ n → u.getPort r = s.getPort r) ∧ s.regsKept u keys)))) ∧
    (s.readable fn.toNat (R.SCH_RFXMAX_MAXLAT.off n) → s.answers (.reflexMaxRead fn ⟨p, load⟩) (fun u =>
      s.puts u [.readData fn.toNat (s.rdw R.SCH_RFXMAX_MAXLAT n) false] ∧ u.rd R.SCH_RFXMAX_MAXLAT n = load.toNat ∧
      s.onlyRegs u [R.SCH_RFXMAX_MAXLAT.key n]))


/-! ## Work queues -/

/-- The assignment of a queue, its doorbell, its enabling and its stop, and its head record (R392–R394, R398, R401–R403, R417, R427,
R434). A stop discards what is being read and keeps the jobs that were delivered. -/
def Obligations.QueueConfigurationAndStop : Prop :=
  ∀ (s : State) (fn : InstNo) (q : BitVec 6) (c : CtxNo) (k : Nat) (val : Word),
    let n := c.toNat
    let i := bits val 22 16
    let qn := bits val 5 0
    let x := s.getWq k
    let y := s.getWq n
    let key (f : Field) : Nat := f.key (s.wqInst k) (s.wqQ k)
    let tail := bits val 15 0
    let hd := s.rd R.WQ_QIDX_HEAD n
    let log := bits val 8 4
    let put (s : State) (n : Nat) (h : Nat) : List Output :=
      if s.wqWrites n then
        [.hostWrite (s.wqInst n) (s.wqPasid n) (s.wqf R.WQ_FHAHI_ADDR_HI n * 2 ^ 32 + s.wqf R.WQ_FHALO_ADDR n * 4)
          (wordBytes (w32 h)) false]
      else []
    s.phase = .running →
    (s.reaches fn.toNat (R.WQ_QCFG_VALID.off n) → 128 ≤ n →
      (s.wqState n = 0 → qn ≠ 0 → (s.wqCtx i qn = none ∨ s.wqCtx i qn = some n ∨ val.getLsbD 31 = false) →
        s.answers (.queueConfigWrite fn c val) (fun t =>
          t.rd R.WQ_QCFG_VALID n = bits val 31 31 ∧ t.rd R.WQ_QCFG_INST n = i ∧ t.rd R.WQ_QCFG_QNUM n = qn ∧
          s.onlyRegs t ([R.WQ_QCFG_VALID, R.WQ_QCFG_INST, R.WQ_QCFG_QNUM].map (fun f => f.key n)))) ∧
      (s.wqState n ≠ 0 → s.answers (.queueConfigWrite fn c val) (fun t =>
        t.rd R.WQ_STAT_CFGERR = 1 ∧ s.onlyRegs t [R.WQ_STAT_CFGERR.key]))) ∧
    (s.wqCtx fn.toNat q.toNat = none → s.answers (.doorbell fn q val) (fun t =>
      t.rd R.WQ_FSTAT_DBERR fn.toNat q.toNat = 1 ∧ s.onlyRegs t [R.WQ_FSTAT_DBERR.key fn.toNat q.toNat])) ∧
    (s.wqCtx fn.toNat q.toNat = some k →
      (bits val 31 17 ≠ 0 ∨ s.ringN k ≤ tail → s.answers (.doorbell fn q val) (fun t =>
        t.wqf R.WQ_FSTAT_DBERR k = 1 ∧ s.onlyRegs t [key R.WQ_FSTAT_DBERR])) ∧
      (bits val 31 16 = 0 → tail < s.ringN k → s.wqf R.WQ_FCTL_PMODE k = 0 → s.answers (.doorbell fn q val) (fun t =>
        t.rd R.WQ_QIDX_TAIL k = tail ∧
        s.queueOnly t k (if s.wqState k = 1 ∨ s.wqState k = 2 then { x with stopped := false } else x) [R.WQ_QIDX_TAIL.key k])) ∧
      (bits val 31 17 = 0 → tail < s.ringN k → s.wqState k = 1 ∨ s.wqState k = 2 → s.answers (.doorbell fn q val) (fun t =>
        t.rd R.WQ_QIDX_TAIL k = tail ∧ (t.getWq k).stopped = false)) ∧
      (4 ≤ log → log ≤ 16 → s.wqState k = 0 → s.answers (.queueEnable fn q val) (fun t =>
        t.wqState k = 1 ∧ t.wqf R.WQ_FSTAT_STATE k = 1 ∧ t.wqf R.WQ_FCTL_EN k = 1 ∧ t.wqf R.WQ_FCTL_LOG2N k = log ∧
        t.wqf R.WQ_FCTL_IEN k = bits val 2 2 ∧ t.wqf R.WQ_FCTL_PMODE k = bits val 1 1 ∧ t.rd R.WQ_QIDX_TAIL k = 0 ∧
        t.rd R.WQ_QIDX_HEAD k = 0 ∧ t.rd R.WQ_QSTATE_FETCH k = 0 ∧ t.rd R.WQ_QSTATE_PHASE k = 1 ∧
        s.queueOnly t k { reads := x.reads } ([R.WQ_FSTAT_STATE, R.WQ_FCTL_EN, R.WQ_FCTL_LOG2N, R.WQ_FCTL_IEN, R.WQ_FCTL_PMODE,
          R.WQ_FHEAD_HEAD].map key ++ [R.WQ_QSTATE_STATE, R.WQ_QIDX_TAIL, R.WQ_QIDX_HEAD, R.WQ_QSTATE_FETCH, R.WQ_QSTATE_PHASE,
          R.WQ_QSTATE_STAGED].map (fun f => f.key k)))) ∧
      (log < 4 ∨ 16 < log →
        let refused (t : State) : Prop := t.wqf R.WQ_FSTAT_CFGERR k = 1 ∧ s.onlyRegs t [key R.WQ_FSTAT_CFGERR]
        s.answers (.queueEnable fn q val) refused ∧ s.answers (.queueStop fn q val) refused) ∧
      (4 ≤ log → log ≤ 16 → log = s.wqf R.WQ_FCTL_LOG2N k → bits val 1 1 = s.wqf R.WQ_FCTL_PMODE k → s.wqState k ≠ 0 → s.wqState k ≠ 3 →
        128 ≤ k → s.answers (.queueStop fn q val) (fun t =>
          t.wqState k = 3 ∧ t.wqf R.WQ_FCTL_EN k = 0 ∧ (t.getWq k).lines = [] ∧ (∀ r ∈ (t.getWq k).reads, r.drop = true) ∧
          ∀ j ∈ x.jobs, j.st = .delivered → (∀ i ∈ x.jobs, i.st ≠ .delivered → i.first ≠ j.first) → j ∈ (t.getWq k).jobs)) ∧
      (4 ≤ log → log ≤ 16 → log = s.wqf R.WQ_FCTL_LOG2N k → bits val 1 1 = s.wqf R.WQ_FCTL_PMODE k → s.wqState k = 1 →
        128 ≤ k → x.jobs = [] → x.reads = [] → (s.getFunc fn.toNat).mute = false → s.answers (.queueStop fn q val) (fun t =>
          t.wqState k = 3 ∧ t.wqf R.WQ_FCTL_EN k = 0 ∧ s.queueOnly t k { x with lines := [] }
            ([R.WQ_FSTAT_STATE, R.WQ_FCTL_EN, R.WQ_FCTL_LOG2N, R.WQ_FCTL_IEN, R.WQ_FCTL_PMODE].map key ++ [R.WQ_QSTATE_STATE.key k])))) ∧
    (s.wqState n = 3 → y.jobs = [] → y.reads = [] → s.wqf R.WQ_FCTL_LOG2N n ≤ 16 → s.answers (.queueStopComplete c) (fun t =>
      t.wqState n = 0 ∧ (y.clear = false → t.rd R.WQ_QIDX_HEAD n =
        (hd + max ((s.rd R.WQ_QIDX_TAIL n + s.ringN n - hd) % s.ringN n) ((s.rd R.WQ_QSTATE_FETCH n + s.ringN n - hd) % s.ringN n)) %
          s.ringN n))) ∧
    (s.wqState n = 3 → y.jobs = [] → y.reads = [] → y.clear = false → s.rd R.WQ_QIDX_HEAD n = s.rd R.WQ_QIDX_TAIL n →
      s.rd R.WQ_QSTATE_FETCH n = s.rd R.WQ_QIDX_HEAD n → s.rd R.WQ_QIDX_HEAD n < s.ringN n → s.answers (.queueStopComplete c) (fun t =>
        t.wqState n = 0 ∧ t.rd R.WQ_QIDX_HEAD n = s.rd R.WQ_QIDX_HEAD n ∧ s.puts t (put s n (s.rd R.WQ_QIDX_HEAD n)) ∧
        s.queueOnly t n { y with headWait := false, done := [], silent := false }
          ([R.WQ_FSTAT_STATE, R.WQ_FHEAD_HEAD, R.WQ_FSTAT_HPEND].map (fun f => f.key (s.wqInst n) (s.wqQ n)) ++
            [R.WQ_QSTATE_STATE, R.WQ_QIDX_HEAD].map (fun f => f.key n)))) ∧
    (s.wqState n = 3 → (y.jobs ≠ [] ∨ y.reads ≠ []) → s.answers (.queueStopComplete c) (fun t => s.onlyRegs t [])) ∧
    (y.headWait = true → s.wqWrites n = true → s.answers (.headRecordWrite c) (fun t =>
      s.puts t (put s n (s.rd R.WQ_QIDX_HEAD n)) ∧ t.wqf R.WQ_FHEAD_HEAD n = s.rd R.WQ_QIDX_HEAD n ∧
      (s.wqf R.WQ_FCTL_IEN n = 1 → t.wqf R.WQ_FSTAT_HPEND n = 1) ∧
      s.queueOnly t n { y with headWait := false }
        ([R.WQ_FHEAD_HEAD, R.WQ_FSTAT_HPEND].map (fun f => f.key (s.wqInst n) (s.wqQ n))))) ∧
    (y.headWait = true → s.wqWrites n = false → s.answers (.headRecordWrite c) (fun t => s.queueOnly t n { y with headWait := false } [])) ∧
    (y.headWait = false → s.answers (.headRecordWrite c) (fun t => s.onlyRegs t []))

/-- One fetch grant reads ahead of FETCH, or the next line of a cached queue; the words of a ring read are staged as a job, or show an
entry that is not valid and stop reading until the repoll; the job's operand goes to its cairn, unless a source with an earlier place
holds one for its slot, and then waits (R237, R406–R409, R412–R414, R421). -/
def Obligations.QueueFetchStageAndOffer : Prop :=
  ∀ (s : State) (h : HostNo) (c : CtxNo) (r : RingRead) (rs : List RingRead) (q : HostRead) (data : List Word) (i : Instr) (j : WJob),
    let n := c.toNat
    let x := s.getWq n
    let f := s.rd R.WQ_QSTATE_FETCH n
    let cached := s.wqf R.WQ_FCTL_PMODE n = 1
    let m := min (min (s.burstOf n) (x.roomFor n false)) (min (s.ringN n - f) (s.specAllowed n))
    let at_ := if cached then (s.nextLine n).getD 0 else f
    let cnt := if cached then 256 / entBytes n else m
    let w0 := data.getD 0 0
    let w1 := data.getD 1 0
    let tc := (s.jobTarget n j).1
    let ts := (s.jobTarget n j).2
    let only (t : State) (y : Wqc) (l : List Nat) : Prop := t.getWq n = y ∧ (∀ d, d ≠ n → t.getWq d = s.getWq d) ∧
      t.still = { s with wq := t.wq, mem := t.mem, xlat := t.xlat }.still ∧ s.regsKept t l
    s.phase = .running →
    (s.rd R.WQ_CTL_EN = 1 → s.readsAt h.toNat < 256 → n ∈ s.portCtxs h.toNat → s.fetchable n = true →
      (∀ k ∈ s.portCtxs h.toNat, (s.wqf R.WQ_FCTL_PMODE k = 0 ∨ (s.getWq k).lines = []) ∧ (k ≠ n → s.fetchable k = false)) →
      s.wqf R.WQ_FCTL_LOG2N n ≤ 16 → s.answers (.fetchGrant h) (fun t =>
        ∃ tag, tag < 1024 ∧ s.puts t [.hostRead (s.wqInst n) (s.wqPasid n) tag (s.entAddr n at_) (cnt * (entBytes n / 4))] ∧
          t.rd R.WQ_QSTATE_FETCH n = (if cached then f else (f + m) % s.ringN n) ∧
          (t.getWq n).reads = x.reads ++ [{ first := at_, n := cnt, tag := tag, drop := false }] ∧
          (∀ d, d ≠ n → t.getWq d = s.getWq d) ∧ t.still = { s with wq := t.wq, fetch := t.fetch }.still ∧
          s.regsKept t [R.WQ_QSTATE_FETCH.key n, R.WQ_QSTATE_PHASE.key n])) ∧
    ((i = .ringReadComplete c data false ∨ i = .hostReadCompletion h r.tag .sc data false) → s.wqInst n / 32 = h.toNat → r.tag < 1024 →
      smFind s.hostReads (h.toNat * 1024 + r.tag) = some q → q.flr = false → q.who = .wq n → 128 ≤ n →
      s.wqf R.WQ_FCTL_PMODE n = 0 → x.reads = r :: rs → r.got = none → (∀ z ∈ rs, z.got = none ∧ z.tag ≠ r.tag) →
      (r.drop = true → s.answers i (fun t => only t { x with reads := rs } [] ∧ t.mem = s.mem)) ∧
      (r.drop = false → 0 < r.n → r.first < f → w0.getLsbD 31 ≠ (s.rd R.WQ_QSTATE_PHASE n == 1) → s.answers i (fun t =>
        t.rd R.WQ_QSTATE_FETCH n = r.first ∧ t.rd R.WQ_CNT1_REFETCH = (s.rd R.WQ_CNT1_REFETCH + 1) % 2 ^ 16 ∧
        only t { x with reads := rs.map (fun z => { z with drop := true }), stopped := true, stopAt := s.ns.toNat }
          [R.WQ_QSTATE_FETCH.key n, R.WQ_CNT1_REFETCH.key] ∧ t.mem = s.mem)) ∧
      (r.drop = false → r.n = 1 → r.first < f → w0.getLsbD 31 = (s.rd R.WQ_QSTATE_PHASE n == 1) → bits w0 30 29 = 3 → bits w0 28 7 = 0 →
        bits w0 6 0 = s.wqInst n → w1 = 0 → bits (data.getD 2 0) 31 16 = 0 → bits (data.getD 7 0) 31 24 = 0 → x.openJob = none →
        (∀ k, k < 8 → s.clean (slotSa n x.nextSlot + 4 * k)) → s.answers i (fun t =>
          only t { x with reads := rs, jobs := x.jobs ++ [{ first := r.first, n := 1, slot := x.nextSlot, st := .ready, cairn := 0 }],
                          nextSlot := (x.nextSlot + 1) % 16 } [R.WQ_QSTATE_STAGED.key n] ∧
          (∀ k, k < 8 → t.rawWord (slotSa n x.nextSlot + 4 * k) = data.getD k 0) ∧
          ∀ b, ¬(slotSa n x.nextSlot ≤ b ∧ b < slotSa n x.nextSlot + 32) → t.byteAt b = s.byteAt b))) ∧
    (x.stopped = true → 0 < s.rd R.WQ_QARB_REPOLL n → x.stopAt + 1000 * s.rd R.WQ_QARB_REPOLL n ≤ s.ns.toNat →
      s.answers (.repollExpiry c) (fun t => s.queueOnly t n { x with stopped := false } [])) ∧
    (128 ≤ n → x.jobs = [j] → j.st = .ready → s.slotOpen tc ts → s.wqf R.WQ_FCTL_PMODE n = 0 ∨ x.lines = [] →
      (s.outranked (.queue n) tc ts = false → s.wqState n = 1 ∨ s.wqState n = 2 → s.answers (.jobOffer c) (fun t =>
        s.tookOperand t tc ts (w32 (slotSa n j.slot)) (w32 (5 * 2 ^ 28 + n * 65536 + j.first)) [] ∧
        t.getWq n = { x with jobs := [{ j with st := .delivered, cairn := tc }] } ∧ t.wqState n = 1)) ∧
      (s.outranked (.queue n) tc ts = true → s.drops tc ts = false → s.wqState n = 1 → s.answers (.jobOffer c) (fun t =>
        t.getWq n = { x with jobs := [{ j with cairn := tc }] } ∧ t.wqState n = 2 ∧ t.mem = s.mem)))

/-! ## Instances and host ports -/

/-- FLR, enabling and disabling of a VF, self-reset, quiet, the end of a reset, ownership ranges and LEGACY (R368, R373, R375, R376,
R379, R383, R384). -/
def Obligations.InstancesResetAndQuiet : Prop :=
  ∀ (s : State) (fn i : InstNo) (v : Bool) (val : Word) (kind : RangeKind) (fb fl : Field) (b l : Nat),
    let n := i.toNat
    let h := n / 32
    let isVf := n % 32 ≠ 0
    let x := s.getFunc n
    let fresh : Func := { x with msixEn := false, fMask := false, d3hot := false, cfg := {} }
    let again := (s.rd R.VIM_ISTATE_FLR n = 1 ∧ s.rd R.VIM_ISTATE_AUTORST n = 1) ∨ s.rd R.VIM_ISTATE_SELFRST n = 1
    s.phase = .running →
    (s.inst n = 0 → s.answers (.functionLevelReset i) (fun t => s.onlyRegs t [])) ∧
    (s.inst n ≠ 0 → n ≠ s.mgr → s.answers (.functionLevelReset i) (fun t =>
      t.inst n = (if s.inst n = 1 then 2 else s.inst n) ∧ t.rd R.VIM_ISTATE_FLR n = 1 ∧ t.getFunc n = { fresh with mute := true } ∧
      (¬isVf → t.rd R.HPC_PSTAT_VFEN h = 0 ∧ t.rd R.HPC_PSTAT_NUMVF h = 0 ∧ ∀ k, 0 < k → k < 32 → t.inst (n + k) = 0))) ∧
    (s.inst n ≠ 0 → n = s.mgr → s.answers (.functionLevelReset i) (fun t => t.inst n = s.inst n ∧ t.getFunc n = fresh)) ∧
    (s.inst n = 0 → isVf → x.vfGone = false → s.answers (.vfEnable i) (fun t =>
      t.inst n = 1 ∧ t.rd R.VIM_FSTAT_READY n = 1 ∧ t.getFunc n = {} ∧ t.rd R.HPC_PSTAT_VFEN h = 1 ∧
      t.rd R.HPC_PSTAT_NUMVF h = max (n % 32) (s.rd R.HPC_PSTAT_NUMVF h) ∧
      (∀ k, k ≠ n → t.getFunc k = s.getFunc k) ∧ t.still = { s with func := t.func }.still ∧
      s.regsKept t ([R.VIM_ISTATE_STATE, R.VIM_FSTAT_STATE, R.VIM_FSTAT_READY, R.VIM_FCTL_SELFRST, R.VIM_FVIOL_COUNT, R.VIM_FVLAST_RES,
        R.VIM_FVLAST_KIND, R.VIM_FVLAST_UNIT].map (fun f => f.key n) ++ [R.HPC_PSTAT_VFEN.key h, R.HPC_PSTAT_NUMVF.key h]))) ∧
    (s.inst n ≠ 0 → isVf → s.answers (.vfDisable i) (fun t =>
      t.inst n = 0 ∧ t.rd R.VIM_ISTATE_VFGONE n = 1 ∧ (t.getFunc n).mute = true ∧ (t.getFunc n).vfGone = true ∧
      (∀ k, n ≤ k → k < 32 * h + 32 → t.inst k = 0) ∧
      t.rd R.HPC_PSTAT_NUMVF h = min (n % 32 - 1) (s.rd R.HPC_PSTAT_NUMVF h) ∧
      (t.rd R.HPC_PSTAT_NUMVF h = 0 → t.rd R.HPC_PSTAT_VFEN h = 0))) ∧
    (s.legacy n = true → s.inst n = 1 → s.answers (.selfReset i) (fun t =>
      t.inst n = 2 ∧ t.rd R.VIM_FCTL_SELFRST n = 1 ∧ t.rd R.VIM_ISTATE_SELFRST n = 1)) ∧
    (s.legacy n = true → s.inst n ≠ 1 → s.answers (.selfReset i) (fun t => s.onlyRegs t [])) ∧
    (s.legacy n = false → s.answers (.selfReset i) (fun t =>
      t.rd R.VIM_CNT_VIOL = min 65535 (s.rd R.VIM_CNT_VIOL + 1) ∧ t.rd R.VIM_FVLAST_KIND n = 0x0B)) ∧
    (s.quiet n = false → s.answers (.instanceQuiet i) (fun t => s.onlyRegs t [])) ∧
    (s.quiet n = true → s.inst n = 2 → s.answers (.instanceQuiet i) (fun t => t.rd R.VIM_ISTATE_QDONE n = 1 ∧
      (¬again → t.inst n = 3) ∧ (again → t.inst n = 4 ∧ t.rd R.VIM_FCTL_SELFRST n = 0 ∧ t.rd R.VIM_IVIOL_COUNT n = 0))) ∧
    (s.quiet n = true → s.inst n = 0 → x.vfGone = true → s.answers (.instanceQuiet i) (fun t => t.inst n = 0 ∧ t.getFunc n = {} ∧
      ∀ f ∈ [R.VIM_ICAIRN_BASE, R.VIM_ICAIRN_LIMIT, R.VIM_IFLOW_BASE, R.VIM_IFLOW_LIMIT, R.VIM_IPOOL_BASE, R.VIM_IPOOL_LIMIT,
        R.VIM_IDMA_CHAN], t.rd f n = f.rst % f.span)) ∧
    (s.quiet n = true → s.inst n = 2 → (∀ e ∈ s.cmds.cmd, e.2.wait ≠ .quiesce n) → ¬again →
      s.answers (.instanceQuiet i) (fun t => t.inst n = 3 ∧ t.rd R.VIM_ISTATE_QDONE n = 1 ∧
        s.onlyRegs t ([R.VIM_ISTATE_STATE, R.VIM_FSTAT_STATE, R.VIM_FSTAT_READY, R.VIM_ISTATE_QDONE].map (fun f => f.key n) ++
          [R.VIM_ATTN_ATTN.key h]))) ∧
    (s.inst n = 4 → (∀ c ∈ s.wqOf n, s.wqState c = 0) → s.answers (.instanceResetComplete i) (fun t =>
      t.inst n = 1 ∧ t.rd R.VIM_FSTAT_READY n = 1 ∧ t.getFunc n = { x with mute := false, removing := false } ∧
      (x.removing = true → ∀ f ∈ [R.VIM_ICAIRN_BASE, R.VIM_ICAIRN_LIMIT, R.VIM_IFLOW_BASE, R.VIM_IFLOW_LIMIT, R.VIM_IPOOL_BASE,
        R.VIM_IPOOL_LIMIT, R.VIM_IDMA_CHAN], t.rd f n = f.rst % f.span))) ∧
    (s.inst n = 4 → (∀ c ∈ s.wqOf n, s.wqState c = 0) → x.removing = false → (∀ e ∈ s.cmds.cmd, e.2.wait ≠ .reset n) →
      s.answers (.instanceResetComplete i) (fun t =>
      t.inst n = 1 ∧ t.getFunc n = { x with mute := false } ∧ (∀ k, k ≠ n → t.getFunc k = s.getFunc k) ∧
      t.still = { s with func := t.func }.still ∧
      s.regsKept t ([R.VIM_ISTATE_STATE, R.VIM_FSTAT_STATE, R.VIM_FSTAT_READY].map (fun f => f.key n)))) ∧
    ((kind, fb, fl, b, l) ∈ [(.cairn, R.VIM_ICAIRN_BASE, R.VIM_ICAIRN_LIMIT, bits val 15 0, bits val 31 16),
        (.flow, R.VIM_IFLOW_BASE, R.VIM_IFLOW_LIMIT, bits val 11 0, bits val 27 16),
        (.pool, R.VIM_IPOOL_BASE, R.VIM_IPOOL_LIMIT, bits val 15 0, bits val 31 16)] →
      s.reaches fn.toNat (fb.off n) → s.answers (.ownershipRangeWrite fn i kind val) (fun t =>
        ((∃ k, k < 128 ∧ k ≠ n ∧ b ≤ l ∧ s.rd fb k ≤ s.rd fl k ∧ s.rd fb k ≤ l ∧ b ≤ s.rd fl k) →
          t.rd R.VIM_STAT_OVLERR = 1 ∧ s.onlyRegs t [R.VIM_STAT_OVLERR.key]) ∧
        (¬(∃ k, k < 128 ∧ k ≠ n ∧ b ≤ l ∧ s.rd fb k ≤ s.rd fl k ∧ s.rd fb k ≤ l ∧ b ≤ s.rd fl k) →
          t.rd fb n = b ∧ t.rd fl n = l ∧ s.onlyRegs t [fb.key n, fl.key n]))) ∧
    (s.reaches fn.toNat (R.VIM_ISTATE_LEGACY.off n) →
      (s.inst n = 0 ∨ s.inst n = 3 → s.answers (.legacyWrite fn i v) (fun t => t.rd R.VIM_ISTATE_LEGACY n = b2n v ∧
        s.onlyRegs t [R.VIM_ISTATE_LEGACY.key n, R.VIM_FSTAT_LEGACY.key n])) ∧
      (s.inst n ≠ 0 → s.inst n ≠ 3 → s.answers (.legacyWrite fn i v) (fun t => s.onlyRegs t [])))

/-- Host ports: the link, retraining, ATS invalidation, D3hot, and reads of host memory that fail, time out or belong to a function
that was reset (R359, R360, R363, R379, R385, R388, R429, R604, R610). -/
def Obligations.HostPortsAndReads : Prop :=
  ∀ (s : State) (fn i : InstNo) (h : HostNo) (width speed : BitVec 3) (page : BitVec 52) (tag c : Nat) (q : HostRead) (data : List Word)
    (st : CplStatus) (ep enter : Bool) (k : Nat) (m : Cmd),
    let n := h.toNat
    let l := (smGet s.xlat [] (i.toNat / 32)).filter (fun y => !(y.fn == i.toNat && y.page == page.toNat))
    let more (f : Field) : Nat := min (f.span - 1) (s.rd f n + 1)
    let failed (t : State) : Prop :=
      t.wqState c = 4 ∧ t.rd R.WQ_STAT_QERR = 1 ∧ (∀ r ∈ (t.getWq c).reads, r.drop = true) ∧ (t.getWq c).lines = []
    s.phase = .running →
    s.answers (.hostPortLinkUp h width speed) (fun t =>
      t.rd R.HPC_PSTAT_DLUP n = 1 ∧ t.rd R.HPC_PSTAT_WIDTH n = min width.toNat (s.maxWidth n) ∧
      t.rd R.HPC_PSTAT_SPEED n = min speed.toNat (s.maxSpeed n) ∧
      s.onlyRegs t [R.HPC_PSTAT_DLUP.key n, R.HPC_PSTAT_WIDTH.key n, R.HPC_PSTAT_SPEED.key n]) ∧
    (s.inst (32 * n) = 0 → s.answers (.hostLinkReset h) (fun t =>
      t.rd R.HPC_PSTAT_DLUP n = 0 ∧ t.rd R.HPC_PSTAT_WIDTH n = 0 ∧ t.rd R.HPC_PSTAT_SPEED n = 0 ∧
      s.onlyRegs t [R.HPC_PSTAT_DLUP.key n, R.HPC_PSTAT_WIDTH.key n, R.HPC_PSTAT_SPEED.key n])) ∧
    (s.inst (32 * n) ≠ 0 → s.answers (.hostLinkReset h) (fun t =>
      t.rd R.HPC_PSTAT_DLUP n = 0 ∧ t.rd R.HPC_PSTAT_WIDTH n = 0 ∧ t.rd R.HPC_PSTAT_SPEED n = 0 ∧
      (32 * n = s.mgr → t.inst (32 * n) = s.inst (32 * n)) ∧
      (32 * n ≠ s.mgr → t.inst (32 * n) = (if s.inst (32 * n) = 1 then 2 else s.inst (32 * n)) ∧
        t.rd R.VIM_ISTATE_FLR (32 * n) = 1 ∧ t.rd R.HPC_PSTAT_VFEN n = 0))) ∧
    (s.reaches fn.toNat (R.HPC_PCTL_RETRAIN.off n) → s.answers (.pcieRetrain fn h) (fun t =>
      t.rd R.HPC_PCTL_RETRAIN n = 0 ∧ s.puts t [.pcieTrain n] ∧ s.onlyRegs t [R.HPC_PCTL_RETRAIN.key n])) ∧
    s.answers (.atsInvalidation i page) (fun t => s.puts t [.atsDone i.toNat page] ∧ smGet t.xlat [] (i.toNat / 32) = l ∧
      (∀ k, k ≠ i.toNat / 32 → smGet t.xlat [] k = smGet s.xlat [] k) ∧ t.still = { s with xlat := t.xlat }.still ∧ s.regsKept t []) ∧
    s.answers (.d3hotTransition i enter) (fun t =>
      t.getFunc i.toNat = { s.getFunc i.toNat with d3hot := enter } ∧ (∀ k, k ≠ i.toNat → t.getFunc k = s.getFunc k) ∧
      t.still = { s with func := t.func }.still ∧ s.regsKept t []) ∧
    (smFind s.hostReads (n * 1024 + tag) = none →
      s.answers (.hostReadCompletion h tag st data ep) (fun t => (ep = true → t.rd R.HPC_ERR_POISONRX n = 1 ∧ s.puts t [.aerPoison n]) ∧
        s.onlyRegs t (if ep then [R.HPC_ERR_POISONRX.key n, R.HPC_CNT0_POISONRX.key n] else [])) ∧
      s.answers (.completionTimeout h tag) (fun t => s.onlyRegs t [])) ∧
    (smFind s.hostReads (n * 1024 + tag) = some q → tag < 1024 → q.who = .wq c → c < 2048 → s.wqState c = 1 ∨ s.wqState c = 2 →
      (q.flr = false →
        s.answers (.hostReadCompletion h tag .ur data false) (fun t => t.rd R.HPC_ERR_UR n = 1 ∧ failed t) ∧
        s.answers (.hostReadCompletion h tag .ca data false) (fun t => t.rd R.HPC_ERR_CA n = 1 ∧ failed t) ∧
        s.answers (.hostReadCompletion h tag .noAccess data false) (fun t =>
          t.rd R.HPC_ERR_ATSFAIL n = 1 ∧ t.rd R.HPC_ERR_UR n = 1 ∧ failed t) ∧
        s.answers (.completionTimeout h tag) (fun t =>
          t.rd R.HPC_ERR_CTO n = 1 ∧ t.rd R.HPC_CNT1_CTO n = more R.HPC_CNT1_CTO ∧ failed t)) ∧
      (q.flr = true →
        s.answers (.hostReadCompletion h tag st data false) (fun t =>
          t.rd R.HPC_CNT1_DROPCPL n = more R.HPC_CNT1_DROPCPL ∧
          s.queueOnly t c { s.getWq c with reads := (s.getWq c).reads.filter (fun r => decide (r.tag ≠ tag)) }
            [R.HPC_CNT1_DROPCPL.key n]) ∧
        s.answers (.completionTimeout h tag) (fun t => s.onlyRegs t []))) ∧
    (smFind s.hostReads (n * 1024 + tag) = some q → tag < 1024 → q.flr = false → q.who = .cmd k → s.getCmd k = some m →
      m.wait = .hostRead → m.tag = tag → k < 5 → m.ctx < 128 →
      ∀ z ∈ [(Instr.hostReadCompletion h tag .ur data false, 1), (.hostReadCompletion h tag .ca data false, 2),
          (.completionTimeout h tag, 3)], s.answers z.1 (fun t => s.replied t k m [] stHOST_FAULT z.2 []))

/-! ## DMA -/

/-- The control of a DMA channel: START, KICK, STOP, ABORT, the poll, EN and RESTART (R509, R510, R515, R519, R523). -/
def Obligations.DmaChannelControl : Prop :=
  ∀ (s : State) (fn : InstNo) (c : ChanNo) (en : Bool),
    let n := c.toNat
    let x := s.getChan n
    let st := s.chanState n
    let key := R.DMA_CSTAT_STATE.key n
    let goesTo (t : State) (v : Nat) (y : Chan) : Prop := t.chanState n = v ∧ s.chanOnly t n y [key]
    s.phase = .running →
    (s.ownsChan fn.toNat n = true →
      (s.reaches fn.toNat (R.DMA_CCTL_START.off n) →
        (s.rd R.DMA_STAT_HALT = 0 → st = 0 ∨ st = 5 → s.answers (.dmaStart fn c) (fun t => goesTo t 1 {})) ∧
        (s.rd R.DMA_STAT_HALT = 1 → s.answers (.dmaStart fn c) (fun t =>
          t.rd R.DMA_CSTAT_SREFUSE n = 1 ∧ s.onlyRegs t [R.DMA_CSTAT_SREFUSE.key n]))) ∧
      (s.reaches fn.toNat (R.DMA_CCTL_KICK.off n) →
        (st = 2 → s.answers (.dmaKick fn c) (fun t => goesTo t 1 x)) ∧
        (st ≠ 2 → s.answers (.dmaKick fn c) (fun t => s.onlyRegs t []))) ∧
      (s.reaches fn.toNat (R.DMA_CCTL_STOP.off n) →
        (st = 2 ∨ (st = 1 ∧ x.desc = none) → s.answers (.dmaStop fn c) (fun t => goesTo t 0 x)) ∧
        (st = 3 ∨ st = 4 ∨ (st = 1 ∧ x.desc ≠ none) → s.answers (.dmaStop fn c) (fun t =>
          s.chanOnly t n { x with stop := true } []))) ∧
      (s.reaches fn.toNat (R.DMA_CCTL_ABORT.off n) → s.answers (.dmaAbort fn c) (fun t => goesTo t 0 {}))) ∧
    (s.dmaGo = true → st = 2 → 0 < s.rd R.DMA_CCFG_POLL n → x.idleAt + 100 * s.rd R.DMA_CCFG_POLL n ≤ s.ns.toNat →
      s.answers (.dmaPollExpiry c) (fun t => goesTo t 1 x)) ∧
    (s.dmaGo = false ∨ s.ns.toNat < x.idleAt + 100 * s.rd R.DMA_CCFG_POLL n → s.answers (.dmaPollExpiry c) (fun t => s.onlyRegs t [])) ∧
    (s.reaches fn.toNat R.DMA_CTL_EN.off → s.answers (.dmaEnableWrite fn en) (fun t =>
      t.rd R.DMA_CTL_EN = b2n en ∧ s.onlyRegs t [R.DMA_CTL_EN.key])) ∧
    (fn.toNat = s.mgr → s.rd R.DMA_STAT_HALT = 1 → s.answers (.dmaRestart fn) (fun t =>
      t.rd R.DMA_STAT_HALT = 0 ∧ t.rd R.DMA_ERR0_VALID = 0 ∧
      (st = 4 → x.stop = false → t.chanState n = (if x.met = true ∧ x.was = 3 then 1 else x.was % 8) ∧
        (x.met = false → t.getChan n = x) ∧
        (x.met = true → s.rd R.DMA_CCTL_SKIP n = 0 → t.getChan n = { x with met := false, rdN := 0, wrN := 0, buf := [], reads := [] }) ∧
        (x.met = true → s.rd R.DMA_CCTL_SKIP n = 1 → x.desc ≠ none →
          t.getChan n = { x with met := false, skip := true, buf := [], reads := [] } ∧ t.rd R.DMA_CCTL_SKIP n = 0)) ∧
      (st ≠ 4 → x.stop = false → t.chanState n = st ∧ t.getChan n = x) ∧ t.still = { s with dma := t.dma }.still))

/-- A DMA channel reads its descriptor, moves beats from and to device memory, and completes with OWN = 0, DONE and the next index, at once
or when its pulse is accepted; a descriptor that cannot be read is a bus error (R500, R501, R504, R506, R510–R514, R517, R518). -/
def Obligations.DmaDescriptorsAndBeats : Prop :=
  ∀ (s : State) (c : ChanNo) (d : List Word) (sa cause b : Nat) (i : Instr),
    let n := c.toNat
    let x := s.getChan n
    let m : DmaDesc := d
    let a := s.chanDescAddr n
    let key := R.DMA_CSTAT_STATE.key n
    let own := bits (d.getD 0 0) 31 31
    let reads := s.chanState n = 1 ∧ x.desc = none ∧ s.instStopped (s.chanOwner n) = false
    let stored := s.dmaFailure a 32 = none ∧ meets a 32 0x1020700000 0x1020800000 = false ∧ d.length = 8 ∧
      ∀ k, k < 8 → ∃ b, s.globalSa (a + 4 * k) = some b ∧ s.clean b ∧ s.rawWord b = d.getD k 0
    let from_ := nextRead (s.mrrs (s.chanOwner n)) m x
    let next := (s.rd R.DMA_CIDX_IDX n + 1) % 2 ^ s.rd R.DMA_CCFG_LOG2N n % 2 ^ 16
    let back := a + 32 ≤ 0x1000000000 ∧ s.globalSa a = some sa ∧ s.dmaFailure a 4 = none ∧ ∀ k, k < 16 → s.clean (sa / 64 * 64 + 4 * k)
    let done := setBits (d.getD 0 0) 31 31 0
    let written (t : State) : Prop :=
      t.rawWord sa = (if x.skip then setBits done 30 30 1 else done) ∧ t.rd R.DMA_CIDX_IDX n = next ∧
      t.rd R.DMA_CCNT_DONE n = (s.rd R.DMA_CCNT_DONE n + 1) % 2 ^ 16 ∧ t.chanState n = (if x.stop then 0 else 1) ∧ t.getChan n = {}
    let ends := x.desc = some d ∧ ((i = .dmaDescriptorComplete c ∧ s.chanState n = 1 ∧ (x.skip = true ∨ x.wrN = m.len)) ∨
      (i = .dmaPulseOffer c ∧ s.chanState n = 3))
    s.phase = .running → s.dmaGo = true →
    (reads → stored →
      (own = 0 → s.answers (.dmaDescriptorRead c) (fun t =>
        t.chanState n = 2 ∧ s.chanOnly t n { x with idleAt := s.ns.toNat } [key])) ∧
      (own ≠ 0 → m.malformed = true → s.answers (.dmaDescriptorRead c) (fun t =>
        t.chanState n = 5 ∧ t.rd R.DMA_CSTAT_MALF n = 1 ∧ s.chanOnly t n x [key, R.DMA_CSTAT_MALF.key n])) ∧
      (own ≠ 0 → m.malformed = false → s.dmaSpoof n m ≠ none → s.answers (.dmaDescriptorRead c) (fun t =>
        t.chanState n = 5 ∧ t.rd R.DMA_CSTAT_SPOOF n = 1 ∧ t.rd R.VIM_CNT_VIOL = min 65535 (s.rd R.VIM_CNT_VIOL + 1))) ∧
      (own ≠ 0 → m.malformed = false → s.dmaSpoof n m = none → s.answers (.dmaDescriptorRead c) (fun t =>
        s.chanOnly t n { x with desc := some d, rdN := 0, wrN := 0, buf := [], reads := [], skip := false } []))) ∧
    (reads → s.dmaFailure a 32 = some (cause, b) → s.answers (.dmaDescriptorRead c) (fun t =>
      t.rd R.DMA_STAT_HALT = 1 ∧ t.rd R.DMA_ERR0_VALID = 1 ∧ t.rd R.DMA_ERR0_CAUSE = cause ∧ t.rd R.DMA_ERR0_CHAN = n ∧
      t.rd R.DMA_CSTAT_BUSERR n = 1 ∧ t.chanState n = 4 ∧ t.getChan n = { x with met := true, was := 1 })) ∧
    (x.desc = some d → s.pickChan s.dma.rTurn ((List.range 16).filter s.mayRead) = some n → (∀ k, k < 16 → s.mayWrite k = false) →
      m.shost = false → s.dmaFailure from_.1 from_.2 = none → meets from_.1 from_.2 0x1020700000 0x1020800000 = false →
      s.answers .dmaBeatArbitration (fun t =>
        t.getChan n = { x with rdN := x.rdN + from_.2, buf := x.buf ++ (s.readMarked from_.1 from_.2).1 } ∧
        (∀ k, k ≠ n → t.getChan k = s.getChan k) ∧ t.mem = (s.readMarked from_.1 from_.2).2.mem)) ∧
    (x.desc = some d → s.pickChan s.dma.wTurn ((List.range 16).filter s.mayWrite) = some n → (∀ k, k < 16 → s.mayRead k = false) →
      x.rdN = m.len → m.dhost = false → m.dfix = false → m.swap = 0 → m.dst % 64 = 0 → x.wrN % 64 = 0 → x.wrN + 64 ≤ m.len →
      m.dst + x.wrN + 64 ≤ 0x1000000000 →
      (∀ b, b < 64 → s.globalSa (m.dst + x.wrN + b) = some (sa + b)) → (∀ k, k < 16 → s.clean (sa + 4 * k)) →
      (∀ k, k < 64 → (x.buf.getD k (0, false)).2 = false) → s.answers .dmaBeatArbitration (fun t =>
        t.getChan n = { x with wrN := x.wrN + 64, buf := x.buf.drop 64 } ∧ (∀ k, k ≠ n → t.getChan k = s.getChan k) ∧
        ∀ b, t.byteAt b = if sa ≤ b ∧ b < sa + 64 then (x.buf.getD (b - sa) (0, false)).1 else s.byteAt b)) ∧
    (ends → back →
      (m.ptgt = 0 → s.answers i (fun t => written t ∧
        (∀ b, ¬(sa ≤ b ∧ b < sa + 4) → t.byteAt b = s.byteAt b) ∧ (∀ k, k ≠ n → t.getChan k = s.getChan k) ∧
        t.still = { s with dma := t.dma, mem := t.mem }.still ∧
        s.regsKept t [key, R.DMA_CIDX_IDX.key n, R.DMA_CCNT_DONE.key n])) ∧
      (m.ptgt = 2 → s.answers i (fun t => written t ∧
        (m.pchan ≠ n → s.chanState m.pchan = 1 ∨ s.chanState m.pchan = 2 → t.chanState m.pchan = 1) ∧
        (m.pchan ≠ n → s.chanState m.pchan ≠ 1 → s.chanState m.pchan ≠ 2 →
          t.rd R.DMA_CNT0_PULSEDROP = min 65535 (s.rd R.DMA_CNT0_PULSEDROP + 1)))) ∧
      (m.ptgt = 1 → s.outranked (.channel n) m.pcairn m.pslot = false → s.slotOpen m.pcairn m.pslot → s.answers i (fun t => written t ∧
        t.rawWord (s.slotPlace m.pcairn m.pslot) = d.getD 7 0 ∧
        t.rawWord (s.slotPlace m.pcairn m.pslot + 4) = w32 (4 * 2 ^ 28 + n * 65536 + s.rd R.DMA_CIDX_IDX n) ∧
        t.cCnt m.pcairn m.pslot = s.cCnt m.pcairn m.pslot + 1)) ∧
      (m.ptgt = 1 → s.outranked (.channel n) m.pcairn m.pslot = true → s.drops m.pcairn m.pslot = false → s.answers i (fun t =>
        t.chanState n = 3 ∧ s.chanOnly t n x [key] ∧ t.mem = s.mem)))

/-! ## Event controller -/

/-- Enabling, routes, the timers of a vector, the end of a mask, and the fault log (R528, R530–R532, R535, R541–R544). -/
def Obligations.EventsAndFaultRecords : Prop :=
  ∀ (s : State) (fn : InstNo) (src : BitVec 11) (val : Word) (i : InstNo) (b : BitVec 6) (v : VecNo) (rep : Nat) (h : HeldRep) (n : Byte),
    let k := src.toNat
    let e := vecNum v
    let x := s.getVec e
    let steady := s.rd R.EVC_CTL_EN = 1 ∧ s.evc.active = s.standing
    let m := i.toNat * 64 + b.toNat
    let message (u : Nat) : Output :=
      if u < 8192 then .msix (u / 64) (s.msixWord u 1 ++ s.msixWord u 0 : BitVec 64) (s.msixWord u 2) else .coreIrq (u - 8192)
    let hd := s.rd R.EVC_FHEAD_HEAD
    let nxt := (hd + 1) % 256
    let r := smGet s.evc.recs {} n.toNat
    let due := (s.evc.held.filter (fun e => decide (s.evc.turn < e.1)) ++ s.evc.held.filter (fun e => decide (e.1 ≤ s.evc.turn))).take 16
    let sum := r.count.toNat + h.count
    s.phase = .running →
    (s.reaches fn.toNat R.EVC_CTL_EN.off → s.answers (.evcEnable fn) (fun t =>
      t.rd R.EVC_CTL_EN = 1 ∧ s.onlyRegs t [R.EVC_CTL_EN.key])) ∧
    (fn.toNat = s.mgr → k < 1280 → bits val 31 30 ≠ 2 → s.rd R.EVC_ROUTE_TYPE k ≠ 2 → s.answers (.eventRouteWrite fn src val) (fun t =>
      t.rd R.EVC_ROUTE_TYPE k = bits val 31 30 ∧ t.rd R.EVC_ROUTE_FPIN k = bits val 29 29 ∧ t.rd R.EVC_ROUTE_INST k = bits val 12 6 ∧
      t.rd R.EVC_ROUTE_VEC k = bits val 5 0 ∧
      s.onlyRegs t ([R.EVC_ROUTE_TYPE, R.EVC_ROUTE_FPIN, R.EVC_ROUTE_INST, R.EVC_ROUTE_VEC].map (fun f => f.key k)))) ∧
    (fn.toNat = s.mgr → k < 1280 → (bits val 31 30 = 2 ∨ s.rd R.EVC_ROUTE_TYPE k = 2) → s.answers (.eventRouteWrite fn src val) (fun t =>
      s.onlyRegs t [])) ∧
    (steady → x.st = .collecting → x.since + s.ctime e ≤ s.ns.toNat → s.answers (.coalesceTimerExpiry v) (fun t =>
      t.getVec e = { st := .fired, cnt := 0, since := s.ns.toNat } ∧
      (e < 8192 → s.vecMasked e = true → e ∈ t.pba) ∧
      (¬(e < 8192 ∧ s.vecMasked e = true) → s.puts t [message e]) ∧ s.onlyRegs t [])) ∧
    (steady → x.st = .fired → s.rpt e ≠ 0 → x.since + s.rpt e ≤ s.ns.toNat → s.answers (.repeatTimerExpiry v) (fun t =>
      t.getVec e = { x with since := s.ns.toNat } ∧ t.rd R.EVC_CNT_REPEAT = (s.rd R.EVC_CNT_REPEAT + 1) % 2 ^ 16 ∧
      (¬(e < 8192 ∧ s.vecMasked e = true) → s.puts t [message e]) ∧ s.onlyRegs t [])) ∧
    s.answers (.msixUnmask i b) (fun t =>
      (t.msixWord m 3).getLsbD 0 = false ∧ t.getFunc i.toNat = { s.getFunc i.toNat with msixEn := true, fMask := false } ∧
      (∀ u, u ≠ i.toNat → t.getFunc u = s.getFunc u) ∧ (∀ u, u ≠ 4 * m + 3 → smFind t.msix u = smFind s.msix u) ∧
      t.still = { s with msix := t.msix, func := t.func }.still ∧ s.regsKept t []) ∧
    (steady → s.pba = [m] → (s.getFunc i.toNat).d3hot = false → s.answers (.msixUnmask i b) (fun t =>
      s.puts t [message m] ∧ t.pba = [] ∧ t.getVec m = { s.getVec m with since := s.ns.toNat })) ∧
    (s.rd R.EVC_CTL_EN = 0 → s.evc.vec = [] → s.pba = [m] → (∃ u ∈ s.standing, u % 16384 = m) → s.answers (.msixUnmask i b) (fun t =>
      t.pba = [m] ∧ (t.msixWord m 3).getLsbD 0 = false ∧ t.still = { s with msix := t.msix, func := t.func }.still ∧ s.regsKept t [])) ∧
    (s.rd R.EVC_FCFG_FEN = 1 → s.evc.held = [(rep, h)] → s.openRecs = [] → nxt ≠ s.rd R.EVC_FTAIL_TAIL →
      s.answers .faultReportTake (fun t =>
        smGet t.evc.recs {} hd = { valid := true, isOpen := true, ovf := false, cause := h.cause, domain := h.domain,
                                   count := BitVec.ofNat 16 h.count, firstRep := BitVec.ofNat 16 rep, lastRep := BitVec.ofNat 16 rep,
                                   first := s.ns, last := s.ns } ∧
        (∀ u, u ≠ hd → smGet t.evc.recs {} u = smGet s.evc.recs {} u) ∧ t.evc.held = [] ∧ t.rd R.EVC_FHEAD_HEAD = nxt ∧
        t.rd R.EVC_FSTAT_NEWREC = 1 ∧ s.onlyRegs t [R.EVC_FSTAT_OPEN.key, R.EVC_FHEAD_HEAD.key, R.EVC_FSTAT_NEWREC.key])) ∧
    (s.rd R.EVC_FCFG_FEN = 1 → s.answers .faultReportTake (fun t =>
      (∀ e ∈ due, smFind t.evc.held e.1 = none) ∧
      s.onlyRegs t ([R.EVC_FSTAT_OPEN, R.EVC_FSTAT_NEWREC, R.EVC_FSTAT_LOGFULL, R.EVC_FSTAT_NOMERGE, R.EVC_FHEAD_HEAD, R.EVC_FCNT0_FLOST,
        R.EVC_FCNT1_NOMERGE].map (fun f => f.key)))) ∧
    (s.rd R.EVC_FCFG_FEN = 1 → s.evc.held = [(rep, h)] → (∀ u ∈ s.openRecs, s.ns.toNat < (smGet s.evc.recs {} u).first.toNat + s.mergeWin) →
      s.evc.recs.find? (fun e => e.2.isOpen && e.2.domain == h.domain && e.2.cause == h.cause) = some (n.toNat, r) →
      s.answers .faultReportTake (fun t =>
        smGet t.evc.recs {} n.toNat = { r with count := BitVec.ofNat 16 (min 65535 sum), ovf := r.ovf || decide (65535 < sum), last := s.ns,
                                               lastRep := BitVec.ofNat 16 rep } ∧
        (∀ u, u ≠ n.toNat → smGet t.evc.recs {} u = smGet s.evc.recs {} u) ∧ t.evc.held = [] ∧ s.onlyRegs t [R.EVC_FSTAT_OPEN.key])) ∧
    (r.isOpen = true → r.first.toNat + s.mergeWin ≤ s.ns.toNat → s.answers (.faultRecordClose n) (fun t =>
      smGet t.evc.recs {} n.toNat = { r with isOpen := false } ∧ (∀ u, u ≠ n.toNat → smGet t.evc.recs {} u = smGet s.evc.recs {} u) ∧
      s.onlyRegs t [R.EVC_FSTAT_OPEN.key])) ∧
    (r.isOpen = false ∨ s.ns.toNat < r.first.toNat + s.mergeWin → s.answers (.faultRecordClose n) (fun t => s.onlyRegs t [])) ∧
    (s.readable fn.toNat (0x32000 + n.toNat * 32) → s.answers (.faultRecordRead fn n) (fun t =>
      s.puts t [.readData fn.toNat (r.words.getD 0 0) false] ∧
      (∀ j, 0 < j → j < 8 → smFind t.latch (fn.toNat * 2 ^ 26 + (0x32000 + n.toNat * 32 + 4 * j)) = some (r.words.getD j 0)) ∧
      t.still = { s with latch := t.latch }.still ∧ s.regsKept t []))

/-! ## Commands -/

/-- A core takes a staged command and checks it; a wait expires; and the commands that only report are answered with what they
report (R437, R438, R446–R451, R454–R456). -/
def Obligations.CommandsTakenAndAnswered : Prop :=
  ∀ (s : State) (k : CoreNo) (c : Cmd) (n : Nat) (j : WJob) (i : Nat) (may : Bool) (masks : List Word) (sa : Nat),
    let q := k.val
    let fields (r : RegD) (a b : Nat) : Word := w32 (s.regWord r.fields a b)
    let x := s.getWq n
    let cmd : Cmd := { ctx := n, idx := j.first, words := (List.range 16).map (fun w => s.rawWord (slotSa n j.slot + 4 * w)), wait := .toAct }
    let free := s.rd R.CMD_STAT_FWRDY = 1 ∧ s.rd R.CMD_CTL_HOLD = 0 ∧ s.getCmd q = none ∧ s.rd R.HLT_CSLOT_STATE q = 0
    let staged := free ∧ s.nextCtx = some n ∧ n < 128 ∧ x.jobs.find? (fun j => j.st == .ready) = some j ∧
      ∀ w, w < 16 → s.clean (slotSa n j.slot + 4 * w)
    let fits := cmdReserved cmd masks = none ∧ s.cmdRange cmd = none
    s.phase = .running →
    (staged →
      (opRow cmd = none → s.answers (.commandTake k) (fun t => s.replied t q cmd [] stUNKNOWN 0 [])) ∧
      (opRow cmd = some (may, masks) →
        (∀ w, cmdReserved cmd masks = some w → s.cmdRange cmd = none → s.answers (.commandTake k) (fun t =>
          s.replied t q cmd [] stMALFORMED w [])) ∧
        (∀ w, cmdReserved cmd masks = none → s.cmdRange cmd = some w → s.answers (.commandTake k) (fun t =>
          s.replied t q cmd [] stMALFORMED w [])) ∧
        (fits → may = false → n ≠ s.mgr → s.answers (.commandTake k) (fun t => s.replied t q cmd [] stDENIED 0 [])) ∧
        (fits → may = true ∨ n = s.mgr → cmd.f 2 6 0 ≠ n → s.answers (.commandTake k) (fun t => s.replied t q cmd [] stSPOOF 0x09 [])) ∧
        (fits → may = true ∨ n = s.mgr → cmd.f 2 6 0 = n → (∃ r ∈ s.cmdNames n cmd, r.2 = false) → s.answers (.commandTake k) (fun t =>
          s.replied t q cmd [] stSPOOF 0x09 [])) ∧
        (fits → may = true ∨ n = s.mgr → cmd.f 2 6 0 = n → (∀ r ∈ s.cmdNames n cmd, r.2 = true) → s.answers (.commandTake k) (fun t =>
          t.getCmd q = some cmd ∧ nbit (t.rd R.CMD_STAT_BUSY) q = true ∧
          t.getWq n = { x with jobs := x.jobs.map (fun r => if r.first = j.first then { r with st := .delivered } else r) } ∧
          (∀ d, d ≠ n → t.getWq d = s.getWq d) ∧
          t.still = { s with wq := t.wq, cmds := { s.cmds with order := dropFirst s.cmds.order n } }.still ∧
          s.regsKept t [R.CMD_STAT_BUSY.key])))) ∧
    (s.rd R.CMD_STAT_FWRDY = 0 ∨ s.rd R.CMD_CTL_HOLD = 1 ∨ s.getCmd q ≠ none ∨ s.rd R.HLT_CSLOT_STATE q ≠ 0 ∨ s.nextCtx = none →
      s.answers (.commandTake k) (fun t => s.onlyRegs t [])) ∧
    (s.getCmd q = some c → c.ctx < 128 → c.wait = .quiesce i → s.answers (.commandWaitExpiry k) (fun t =>
      s.replyOnly t q c [] stTIMEOUT 0 [w32 (s.inst i)] [])) ∧
    (s.getCmd q = some c → c.ctx < 128 → c.wait = .enum i → (s.getPort i).enum = none → s.answers (.commandWaitExpiry k) (fun t =>
      s.replyOnly t q c [] stOK 0 [] [])) ∧
    (∀ e, s.getCmd q = some c → c.ctx < 128 → c.wait = .enum i → (s.getPort i).enum = some e → e.core = some q → e.step = 1 →
      s.answers (.commandWaitExpiry k) (fun t => s.replied t q c [] stOK 0 [] ∧ (t.getPort i).enum = some { e with core := none })) ∧
    (s.getCmd q = none → s.answers (.commandWaitExpiry k) (fun t => s.onlyRegs t [])) ∧
    s.tells (.identify k) q 0x0102 c
      [packW [(0x4610, 16), (s.rd R.GLB_ID_STEP, 8)], s.boot.version, packW [(s.rd R.GLB_STRAP_MGR_PORT, 0), (b2n (c.ctx == s.mgr), 2)],
       w32 (s.rd R.HLT_ID0_LOT_LO), packW [(s.rd R.HLT_ID1_LOT_HI, 0), (s.rd R.HLT_ID1_WAFER, 16)],
       packW [(s.rd R.HLT_ID2_DIEX, 0), (s.rd R.HLT_ID2_DIEY, 8)]] ∧
    s.tells (.nopCmd k) q 0x0103 c [] ∧
    s.tells (.instanceStatus k) q 0x0205 c
      [fields R.VIM_ISTATE (c.f 3 6 0) 0, fields R.VIM_IVIOL (c.f 3 6 0) 0, w32 (s.liveCairns (c.f 3 6 0)).length,
       w32 (((s.wqOf (c.f 3 6 0)).filter (fun d => decide (128 ≤ d))).map (fun d =>
         ((s.getWq d).jobs.filter (fun r => r.st != .delivered)).length)).sum] ∧
    (s.rd R.EWZ_ADDRTAB0_VALID (c.f 3 3 0) (c.f 3 10 4) = 1 → s.tells (.deviceInfo k) q 0x0306 c
      ((List.range 8).map (fun w => (smGet (s.getPort (c.f 3 3 0)).ident [] (c.f 3 10 4)).getD w 0) ++
        [fields R.EWZ_ADDRTAB0 (c.f 3 3 0) (c.f 3 10 4), fields R.EWZ_ADDRTAB1 (c.f 3 3 0) (c.f 3 10 4)])) ∧
    (s.rd R.EWZ_ADDRTAB0_VALID (c.f 3 3 0) (c.f 3 10 4) = 0 → s.refuses (.deviceInfo k) q 0x0306 c stNOT_FOUND 0) ∧
    s.tells (.schedStatus k) q 0x0405 c
      ([R.SCH_PSTAT, R.SCH_PSUM, R.SCH_LASTGRD, R.SCH_RFXSTAT, R.PTU_PFNUM, R.PTU_PSTAT].map (fun r => fields r (c.f 3 3 0) 0)) ∧
    s.tells (.engineStatus k) q 0x0506 c
      ([R.ENG_STAT, R.ENG_XSTAT, R.ENG_XCAIRN, R.ENG_XADDR, R.ENG_ESTAT].map (fun r => fields r (ropeOf (c.f 3 9 0)) (slotOf (c.f 3 9 0)))) ∧
    s.tells (.flowStatus k) q 0x0507 c [fields R.TSC_FLOW (c.f 3 11 0) 0] ∧
    s.tells (.timeRead k) q 0x0601 c [s.nsLo, w32 (s.ns.toNat / 2 ^ 32), w32 (s.rd R.PTU_TIMEFR_FRAC)] ∧
    s.tells (.trackRead k) q 0x0602 c
      ([R.PTU_TRKPOSF, R.PTU_TRKPOSH, R.PTU_TRKVEL, R.PTU_TRKSTAT].map (fun r => fields r (c.f 3 3 0) 0)) ∧
    s.tells (.wakeRecord k) q 0x0803 c [fields R.PWR_WAKE0 0 0, fields R.PWR_WAKE1 0 0] ∧
    s.tells (.healthStatus k) q 0x0903 c
      ([R.HLT_STAT_RESLEFT, R.MEM_FUSE_LEFT, R.HLT_GBAND_STEP, R.HLT_STAT_DEAD, R.HLT_CNT0_ZOMBIE].map (fun f => w32 (s.rd f))) ∧
    (let seq := smGet s.cmds.seq 0 c.ctx + 1
     let s1 : State := { s with cmds := { s.cmds with seq := smIns s.cmds.seq c.ctx seq } }
     let r := s1.sumReport c.ctx seq
     s.commanded q 0x0101 c →
      ((c.w 5).toNat < 4 * r.length → s.answers (.summary k) (fun t =>
        s1.replyOnly t q c [] stTOO_SMALL 0 [0, w32 (4 * r.length)] [])) ∧
      (4 * r.length ≤ (c.w 5).toNat → s.answers (.summary k) (fun t =>
        s1.replyOnly t q c (s.cmdPut c c.haddr (wordsBytes r)) stOK 0 [w32 (4 * r.length), w32 (4 * r.length), w32 seq] []))) ∧
    (s.commanded q 0x0104 c → s.answers (.fwlogRead k) (fun t => ∃ (data : List Byte) (lost : Word),
      data.length ≤ (c.w 5).toNat ∧ s.replyOnly t q c (s.cmdPut c c.haddr data) stOK 0 [w32 data.length, lost] [])) ∧
    (s.commanded q 0x0A01 c → s.answers (.echoDma k) (fun t =>
      s.replyOnly t q c (s.cmdPut c c.haddr ((List.range ((c.w 5).toNat / 4)).flatMap (fun _ => wordBytes (c.w 6)))) stOK 0 [c.w 5] [])) ∧
    (s.globalSa c.haddr = some sa →
      ¬(0x1010000000 ≤ c.haddr ∧ c.haddr < 0x1014000000 ∧ s.swapping ((c.haddr - 0x1010000000) / 0x10000) = true) →
      s.commanded q 0x0A02 c → s.answers (.poisonInject k) (fun t => s.replied t q c [] stOK 0 [] ∧
        t.poison = setAdd s.poison (sa / 4) ∧ t.mem = s.mem ∧ t.upset = s.upset ∧ t.rd R.MEM_USTAT_POIS (unitOf sa) = 1)) ∧
    (s.globalSa c.haddr = none → s.refuses (.poisonInject k) q 0x0A02 c stNOT_READY 0)

/-- The commands on instances, root ports, devices and lists: what each changes, and when it is refused or waits (R447–R449).  Those on
an instance come from the manager's own, another one. -/
def Obligations.CommandsOnInstancesPortsAndLists : Prop :=
  ∀ (s : State) (k : CoreNo) (c : Cmd) (b : Nat),
    let q := k.val
    let i := c.f 3 6 0
    let p := c.f 3 3 0
    let a := c.f 3 10 4
    let d := c.f 3 22 6 * 64
    let lp := c.f 5 3 0
    let kind := c.f 4 31 30
    let link : Field × Field × Nat := if kind = 1 then (R.SCH_BULKHEAD_EMPTY, R.SCH_BULKHEAD_HEAD, 0) else
      (R.SCH_ANCHOR_EMPTY, R.SCH_ANCHOR_HEAD, c.f 5 8 4)
    let idle (x : Nat) : Prop := (s.getPort x).xfers = [] ∧ (s.getPort x).pairs = [] ∧ (s.getPort x).cur = none ∧ (s.getPort x).cur0 = none ∧
      s.rd R.SCH_CANCEL_GO x = 0
    let slot := ((List.range 64).find? (fun n => !s.lostValid p n)).getD ((s.getPort p).lostAge.headD 0)
    let hears (t : State) (h hp step : Nat) (own : Option Nat) : Prop := t.waits q c (.enum p) ∧
      ∃ e, (t.getPort p).enum = some e ∧ e.core = some q ∧ e.hub = h ∧ e.hport = hp ∧ e.own = own ∧ e.step = step
    let word (w : Word) (e : Bool) (n : Nat) : Word := setBits (setBits w 31 31 (b2n e)) 22 6 n
    let first := saList (c.f 3 22 2 * 4)
    let len := c.f 3 27 24
    (s.inst i = 3 → s.tells (.instanceQuiesce k) q 0x0201 c [3]) ∧
    (s.inst i = 0 ∨ s.inst i = 4 → s.refuses (.instanceQuiesce k) q 0x0201 c stBAD_STATE (s.inst i)) ∧
    (s.inst i = 1 → c.ctx ≠ i → s.commanded q 0x0201 c → s.answers (.instanceQuiesce k) (fun t =>
      t.inst i = 2 ∧ t.rd R.VIM_FSTAT_STATE i = 2 ∧ t.rd R.VIM_FSTAT_READY i = 0 ∧
      (∀ n ∈ s.wqOf i, (t.getWq n).jobs = (s.getWq n).jobs.filter (fun j => j.st == .delivered)) ∧
      (c.w 4 = 0 → s.replied t q c [] stOK 0 [2]) ∧ (c.w 4 ≠ 0 → t.waits q c (.quiesce i)))) ∧
    (s.inst i = 2 → (c.w 4 = 0 → s.tells (.instanceQuiesce k) q 0x0201 c [2]) ∧
      (c.w 4 ≠ 0 → s.commanded q 0x0201 c → s.answers (.instanceQuiesce k) (fun t => t.waits q c (.quiesce i) ∧ s.onlyRegs t []))) ∧
    (s.inst i = 3 → c.ctx ≠ i → (∀ n ∈ s.wqOf i, s.wqf R.WQ_FCTL_PMODE n ≠ 1) → s.commanded q 0x0202 c →
      s.answers (.instanceResume k) (fun t => t.inst i = 1 ∧ t.rd R.VIM_FSTAT_READY i = 1 ∧ s.replied t q c [] stOK 0 [1] ∧
        (∀ n ∈ s.wqOf i, t.getWq n = { s.getWq n with stopped := false }) ∧ t.still = { s with wq := t.wq }.still ∧
        s.regsKept t (replyKeys c ++ [R.VIM_ISTATE_STATE.key i, R.VIM_FSTAT_STATE.key i, R.VIM_FSTAT_READY.key i]))) ∧
    (s.inst i = 3 → c.ctx ≠ i → s.legacy i = false → s.commanded q 0x0202 c → s.answers (.instanceResume k) (fun t =>
      t.inst i = 1 ∧ t.rd R.VIM_FSTAT_READY i = 1 ∧ t.getCmd q = none ∧ ∀ n ∈ s.wqOf i, (t.getWq n).stopped = false)) ∧
    (s.inst i ≠ 3 → s.refuses (.instanceResume k) q 0x0202 c stBAD_STATE (s.inst i) ∧
      s.refuses (.instanceReset k) q 0x0203 c stNOT_QUIESCED (s.inst i) ∧
      s.refuses (.instanceRemove k) q 0x0204 c stNOT_QUIESCED (s.inst i)) ∧
    (s.inst i = 3 → c.ctx ≠ i → (s.commanded q 0x0203 c → s.answers (.instanceReset k) (fun t =>
        t.inst i = 4 ∧ t.rd R.VIM_IVIOL_COUNT i = 0 ∧ t.rd R.VIM_FCTL_SELFRST i = 0 ∧ t.waits q c (.reset i))) ∧
      (s.commanded q 0x0204 c → s.answers (.instanceRemove k) (fun t =>
        t.inst i = 4 ∧ (t.getFunc i).removing = true ∧ t.waits q c (.reset i)))) ∧
    (s.rests p → s.commanded q 0x0301 c →
      (a = 0 → s.lstate p = lDISABLED → s.answers (.portEnable k) (fun t =>
        t.rd R.EWZ_CTL_EN p = 1 ∧ t.lstate p = lDISC ∧ hears t 0 (c.f 3 14 11) 1 none)) ∧
      (a = 0 → s.lstate p ≠ lDISABLED → s.lstate p ≠ lL0 → s.answers (.portEnable k) (fun t =>
        t.rd R.EWZ_CTL_EN p = 1 ∧ t.lstate p = s.lstate p ∧ hears t 0 (c.f 3 14 11) 1 none)) ∧
      (a = 0 → s.lstate p = lL0 → idle p → s.answers (.portEnable k) (fun t =>
        t.rd R.EWZ_CTL_EN p = 1 ∧ t.lstate p = lL0 ∧ t.rd R.EWZ_ENUM_DEFOPEN p = 1 ∧ hears t 0 (c.f 3 14 11) 3 none)) ∧
      (a ≠ 0 → s.hubPortOk c = true → s.linkUp p = true → s.answers (.portEnable k) (fun t =>
        hears t a (c.f 3 14 11) 1 none ∧ ∃ j, (t.getPort p).fw = [j] ∧ j.client = .enum ∧ j.addr = a ∧
          j.w0 = w32 (0x10 * 2 ^ 24 + 2 ^ 16) ∧ j.w1 = w32 (c.f 3 14 11 * 2 ^ 16 + 8)))) ∧
    (a = 0 → s.commanded q 0x0302 c →
      (s.lstate p = lDISABLED → s.answers (.portDisable k) (fun t =>
        t.rd R.EWZ_CTL_EN p = 0 ∧ s.replyOnly t q c [] stOK 0 [] [R.EWZ_CTL_EN.key p])) ∧
      (s.attached p = false → (s.getPort p).pass = [] → s.answers (.portDisable k) (fun t =>
        t.rd R.EWZ_CTL_EN p = 0 ∧ t.lstate p = lDISABLED ∧ s.replied t q c [] stOK 0 [])) ∧
      (s.attached p = true → idle p → (s.getPort p).fw = [] → (s.getPort p).enum = none → s.answers (.portDisable k) (fun t =>
        t.rd R.EWZ_CTL_EN p = 0 ∧ t.lstate p = lDISABLED ∧ t.rd R.EWZ_EVT_DETACH p = 1 ∧ (t.getPort p).pass = [] ∧ t.getCmd q = none))) ∧
    (a ≠ 0 → s.hubPortOk c = true → s.below p a (c.f 3 14 11) = [] → s.rests p → s.linkUp p = true → s.commanded q 0x0302 c →
      s.answers (.portDisable k) (fun t => t.getCmd q = none ∧ ∃ j, (t.getPort p).fw = [j] ∧ j.client = .parent ∧ j.addr = a ∧
        j.w0 = w32 (0x12 * 2 ^ 24 + 2 ^ 16) ∧ j.w1 = w32 (c.f 3 14 11 * 2 ^ 16))) ∧
    (a ≠ 0 → s.hubPortOk c = false → s.refuses (.portEnable k) q 0x0301 c stNOT_FOUND 0 ∧
      s.refuses (.portDisable k) q 0x0302 c stNOT_FOUND 0) ∧
    (s.rd R.EWZ_ADDRTAB0_VALID p a = 1 → s.rests p → s.commanded q 0x0303 c →
      (s.parent p a = 0 → s.lstate p ≠ lL0 → s.answers (.portReset k) (fun t =>
        hears t 0 (s.rd R.EWZ_ADDRTAB0_PPORT p a) 1 (some a))) ∧
      (s.parent p a = 0 → s.lstate p = lL0 → idle p → s.answers (.portReset k) (fun t =>
        t.rd R.EWZ_ENUM_DEFOPEN p = 1 ∧ hears t 0 (s.rd R.EWZ_ADDRTAB0_PPORT p a) 3 (some a))) ∧
      (s.parent p a ≠ 0 → s.present p (s.parent p a) = true → s.linkUp p = true → s.answers (.portReset k) (fun t =>
        hears t (s.parent p a) (s.rd R.EWZ_ADDRTAB0_PPORT p a) 1 (some a) ∧ (t.getPort p).fw ≠ [])) ∧
      (s.parent p a ≠ 0 → s.present p (s.parent p a) = false → s.answers (.portReset k) (fun t =>
        s.replied t q c [] stDEVICE_ERR 1 [] ∧ t.rd R.CMD_EVT_ENUMFAIL = 1 ∧ (t.getPort p).enum = none))) ∧
    (s.rd R.EWZ_ADDRTAB0_VALID p a = 0 → s.refuses (.portReset k) q 0x0303 c stNOT_FOUND 0 ∧
      s.refuses (.deviceLost k) q 0x0304 c stNOT_FOUND 0) ∧
    (s.rd R.EWZ_ADDRTAB0_VALID p a = 1 → s.rests p → s.commanded q 0x0304 c →
      (s.rd R.EWZ_ADDRTAB0_LOST p a = 1 → s.answers (.deviceLost k) (fun t =>
        s.replyOnly t q c [] stOK 0 [w32 ((s.lostFind p a (s.rd R.EWZ_ADDRTAB0_GEN p a)).getD 0xFFFFFFFF)] [])) ∧
      (s.rd R.EWZ_ADDRTAB0_LOST p a = 0 → idle p → slot < 64 → s.answers (.deviceLost k) (fun t =>
          t.rd R.EWZ_ADDRTAB0_LOST p a = 1 ∧ t.getCmd q = none ∧ t.lostValid p slot = true ∧ t.rd R.EWZ_LOST5_ADDR p slot = a ∧
          t.rd R.EWZ_LOST5_GEN p slot = s.rd R.EWZ_ADDRTAB0_GEN p a))) ∧
    (s.present p a = false → s.refuses (.pipeClear k) q 0x0305 c stNOT_FOUND 0) ∧
    (s.present p a = true → s.rests p → s.linkUp p = true → s.commanded q 0x0305 c → s.answers (.pipeClear k) (fun t =>
      t.waits q c (.clear p) ∧ ∃ j, (t.getPort p).fw = [j] ∧ j.client = .clear q ∧
        j.isClear = true ∧ j.addr = a ∧ j.gen = s.rd R.EWZ_ADDRTAB0_GEN p a ∧ j.dirIn = (c.f 3 11 11 == 1) ∧ j.ep = c.f 3 15 12)) ∧
    (c.f 3 22 2 * 4 + 4 * len ≤ 0x700000 → (∀ m n, m < len → n < 16 → s.clean ((first + 4 * m) / 64 * 64 + 4 * n)) → s.commanded q 0x0401 c →
      s.answers (.listWrite k) (fun t => s.replied t q c [] stOK 0 [] ∧ t.still = { s with wq := t.wq, mem := t.mem }.still ∧
        s.regsKept t (replyKeys c) ∧ (∀ m, m < len → t.rawWord (first + 4 * m) = c.w (4 + m)) ∧
        ∀ n, ¬(first ≤ n ∧ n < first + 4 * len) → t.byteAt n = s.byteAt n)) ∧
    (kind = 1 ∨ kind = 3 → s.descClean d → s.commanded q 0x0402 c → s.answers (.descLink k) (fun t =>
      t.rawWord (saList d) = word (s.rawWord (saList d)) (s.on link.1 lp link.2.2) (s.rd link.2.1 lp link.2.2) ∧
      t.rd link.1 lp link.2.2 = 0 ∧ t.rd link.2.1 lp link.2.2 = d / 64 ∧ s.replied t q c [] stOK 0 [] ∧
      ∀ n, ¬(saList d ≤ n ∧ n < saList d + 4) → t.byteAt n = s.byteAt n)) ∧
    (s.linkOf c = .after b ∨ s.linkOf c = .frame b → b % 4 = 0 → (b < d ∨ d + 4 ≤ b) → s.descClean d →
      (∀ n, n < 16 → s.clean (saList b / 64 * 64 + 4 * n)) → s.commanded q 0x0402 c → s.answers (.descLink k) (fun t =>
        let w := s.rawWord (saList b)
        t.rawWord (saList d) = word (s.rawWord (saList d)) (w.getLsbD 31) (bits w 22 6) ∧
        t.rawWord (saList b) = word w false (d / 64) ∧ s.replied t q c [] stOK 0 [] ∧
        ∀ n, ¬(saList d ≤ n ∧ n < saList d + 4) → ¬(saList b ≤ n ∧ n < saList b + 4) → t.byteAt n = s.byteAt n)) ∧
    (kind = 1 ∨ kind = 3 → s.rd link.1 lp link.2.2 ≠ 0 ∨ s.rd link.2.1 lp link.2.2 ≠ d / 64 →
      s.refuses (.descUnlink k) q 0x0403 c stNOT_FOUND 0) ∧
    (kind = 1 ∨ kind = 3 → s.rd link.1 lp link.2.2 = 0 → s.rd link.2.1 lp link.2.2 = d / 64 → s.descClean d → s.commanded q 0x0403 c →
      s.answers (.descUnlink k) (fun t =>
        let w := s.rawWord (saList d)
        t.rd link.1 lp link.2.2 = b2n (w.getLsbD 31) ∧ t.rd link.2.1 lp link.2.2 = bits w 22 6 ∧ t.rd R.SCH_CTL_LISTSYNC lp = 1 ∧
        (t.getWalk lp).sync = s.heldAll lp ∧ t.waits q c (.unlink lp) ∧ t.mem = s.mem ∧
        s.regsKept t [link.1.key lp link.2.2, link.2.1.key lp link.2.2, R.SCH_CTL_LISTSYNC.key lp])) ∧
    (s.linkOf c = .after b ∨ s.linkOf c = .frame b → b % 4 = 0 → s.clean (saList b) →
      ((s.rawWord (saList b)).getLsbD 31 = true ∨ bits (s.rawWord (saList b)) 22 6 ≠ d / 64 → s.refuses (.descUnlink k) q 0x0403 c stNOT_FOUND 0) ∧
      ((s.rawWord (saList b)).getLsbD 31 = false → bits (s.rawWord (saList b)) 22 6 = d / 64 → s.clean (saList d) →
        (∀ n, n < 16 → s.clean (saList b / 64 * 64 + 4 * n)) → s.commanded q 0x0403 c → s.answers (.descUnlink k) (fun t =>
          let w := s.rawWord (saList d)
          t.rawWord (saList b) = word (s.rawWord (saList b)) (w.getLsbD 31) (bits w 22 6) ∧
          (kind = 0 → t.waits q c (.unlink 16) ∧ ∀ x, x < 16 → t.rd R.SCH_CTL_LISTSYNC x = 1) ∧
          (kind ≠ 0 → t.waits q c (.unlink lp) ∧ t.rd R.SCH_CTL_LISTSYNC lp = 1) ∧
          ∀ n, ¬(saList b ≤ n ∧ n < saList b + 4) → t.byteAt n = s.byteAt n))) ∧
    (let cp := c.f 4 3 0
     (∀ e ∈ s.cmds.cmd, e.2.wait ≠ .cancel cp) → s.commanded q 0x0404 c →
      (∀ x, (s.getPort cp).cur = some x → x.desc = d → x.kind = .out ∨ x.kind = .probe ∨ x.kind = .inn → s.answers (.descCancel k) (fun t =>
        t.waits q c (.cancel cp) ∧ t.rd R.SCH_CANCEL_RESULT cp = 0 ∧ t.rd R.SCH_CANCEL_GO cp = 1 ∧ t.rd R.SCH_CANCEL_ADDR cp = d / 64 ∧
        s.onlyRegs t [R.SCH_CANCEL_RESULT.key cp, R.SCH_CANCEL_GO.key cp, R.SCH_CANCEL_ADDR.key cp])) ∧
      ((s.getPort cp).cur = none → (s.getPort cp).cur0 = none → (s.getPort cp).pairs = [] →
        (Desc.active (s.peekDesc d) = false → s.answers (.descCancel k) (fun t =>
          t.rd R.SCH_CANCEL_RESULT cp = 2 ∧ t.rd R.SCH_CANCEL_GO cp = 0 ∧ t.rd R.SCH_CANCEL_ADDR cp = d / 64 ∧
          s.replyOnly t q c [] stOK 0 [2] [R.SCH_CANCEL_RESULT.key cp, R.SCH_CANCEL_GO.key cp, R.SCH_CANCEL_ADDR.key cp])) ∧
        (Desc.active (s.peekDesc d) = true → Desc.cop (s.peekDesc d) = false → s.descClean d → s.answers (.descCancel k) (fun t =>
          t.rd R.SCH_CANCEL_RESULT cp = 1 ∧ t.rd R.SCH_CANCEL_GO cp = 0 ∧ t.getCmd q = none ∧ t.xfer cp d = none ∧
          bits (t.rawWord (saList d + 36)) 31 24 = dCANCELLED ∧ (t.rawWord (saList d + 4)).getLsbD 31 = false ∧
          ∀ n, ¬(saList d ≤ n ∧ n < saList d + 64) → t.byteAt n = s.byteAt n))))

/-- The commands on cairns, engines, memory maintenance, clocks, power limits and health: what each changes, and when it is refused or
waits (R450, R452–R455, R458, R459). -/
def Obligations.CommandsOnCairnsMaintenanceAndHealth : Prop :=
  ∀ (s : State) (k : CoreNo) (c : Cmd) (b : Nat) (res : MaintRes) (tok : Token),
    let q := k.val
    let x := c.f 3 15 0
    let stands := s.cst x = 0 ∨ s.cst x = 7 ∨ s.cst x = 8
    let empty := s.cw x 5 = 0 ∧ smGet s.heldJobs [] x = []
    let w0 := c.f 3 19 16
    let n := c.f 3 23 20 + 1
    let e := c.f 3 9 0
    let r := ropeOf e
    let hostAt := (c.w 5).toNat * 2 ^ 32 + (c.w 4).toNat
    let g := c.f 3 7 0
    let ch := g - 0x22
    let col := c.f 3 9 9 == 1
    let starts (i : Instr) (op act : Nat) (m : List Nat) : Prop := s.commanded q op c →
      (∀ a, s.tokenBusy g = some a → s.answers i (fun t => s.replyOnly t q c [] stBUSY (g * 256 + a) [] [])) ∧
      (s.tokenBusy g = none → s.answers i (fun t =>
        smFind t.cmds.token g = some ⟨act, c.ctx, s.ns, c.f 3 8 8 == 1, [c.w 3, c.w 4, c.w 5, c.w 6]⟩ ∧
        (∀ h, h ≠ g → smFind t.cmds.token h = smFind s.cmds.token h) ∧ (g < 32 → nbit (t.rd R.CMD_TOKEN0_ROPES) g = true) ∧
        (32 ≤ g → g < 36 → nbit (t.rd R.CMD_TOKEN1_OTHER) (g - 32) = true) ∧
        t.still = { s with wq := t.wq, cmds := { s.cmds with token := t.cmds.token } }.still ∧
        s.regsKept t (replyKeys c ++ [R.CMD_TOKEN0_ROPES.key, R.CMD_TOKEN1_OTHER.key] ++ m) ∧
        (c.f 3 8 8 = 1 → s.replied t q c [] stOK 0 []) ∧ (c.f 3 8 8 = 0 → t.waits q c (.maint g))))
    let dom := c.f 3 3 0
    let src := c.f 3 11 8
    let limit : Field × Nat := if c.f 3 1 0 = 0 then (R.PWR_RCTL_LIMIT, c.f 3 12 8) else
      if c.f 3 1 0 = 1 then (R.PWR_PCTL_LIMIT, c.f 3 12 8) else (R.PWR_DCTL_LIMIT, 0)
    let rr := c.f 3 4 0
    let rp := c.f 3 10 5
    let ps := s.rd R.HLT_PSLOT_PSTATE (physIdx rr rp)
    (s.cairnClean x →
      (stands → empty → s.cairnMalformed x = false → s.cairnSpoof x = none → (s.cTmode x = true → s.tmrCount < 16384) →
        s.commanded q 0x0501 c → s.answers (.cairnActivate k) (fun t => t.cst x = 1 ∧ t.cw x 13 = 0 ∧ (s.cTmode x = true → x ∈ t.tsc.tmrP) ∧
          s.replied t q c [] stOK 0 [])) ∧
      (stands → s.cairnMalformed x = false → s.cairnSpoof x = none → s.cTmode x = true → 16384 ≤ s.tmrCount → s.commanded q 0x0501 c →
        s.answers (.cairnActivate k) (fun t => s.replyOnly t q c [] stTIMERFULL 0 [] [])) ∧
      (∀ m, stands → s.cairnMalformed x = false → s.cairnSpoof x = some m → s.commanded q 0x0501 c →
        s.answers (.cairnActivate k) (fun t => s.replied t q c [] stSPOOF m.1 [])) ∧
      (stands → s.cairnMalformed x = true → s.commanded q 0x0501 c → s.answers (.cairnActivate k) (fun t =>
        ∃ w, w < 16 ∧ s.replyOnly t q c [] stMALFORMED (0x10 + w) [] [])) ∧
      (¬stands → s.refuses (.cairnActivate k) q 0x0501 c stBAD_STATE (s.cst x)) ∧
      (s.cst x ≠ 0 → s.cst x ≠ 4 → s.cst x ≠ 5 → s.commanded q 0x0502 c → s.answers (.cairnDeactivate k) (fun t =>
        t.cst x = 0 ∧ bits (t.cw x 12) 31 24 = 0x82 ∧ t.getCmd q = none ∧ (empty → s.replied t q c [] stOK 0 []))) ∧
      (s.cst x = 0 ∨ s.cst x = 4 ∨ s.cst x = 5 → s.refuses (.cairnDeactivate k) q 0x0502 c stBAD_STATE (s.cst x)) ∧
      (stands → w0 + n ≤ 16 → s.commanded q 0x0503 c → s.answers (.cairnWrite k) (fun t =>
        (∀ m, m < n → t.cw x (w0 + m) = (c.w (4 + m) &&& ~~~(cairnHw (w0 + m))) ||| (s.cw x (w0 + m) &&& cairnHw (w0 + m))) ∧
        (∀ a, ¬(saCairn x w0 ≤ a ∧ a < saCairn x (w0 + n)) → t.byteAt a = s.byteAt a) ∧ s.replied t q c [] stOK 0 [] ∧
        t.still = { s with wq := t.wq, mem := t.mem }.still ∧ s.regsKept t (replyKeys c))) ∧
      (w0 + n ≤ 16 → s.tells (.cairnRead k) q 0x0504 c ((List.range n).map (fun m => s.cw x (w0 + m))))) ∧
    (¬stands → s.refuses (.cairnWrite k) q 0x0503 c stBAD_STATE (s.cst x)) ∧
    (s.commanded q 0x0505 c → s.answers (.codeLoad k) (fun t =>
      t.erd R.ENG_CTL_CLOAD e = 1 ∧ (t.getEng e).pref = none ∧ ((s.getEng e).thr ≠ none → t.waits q c (.code e)) ∧
      ((s.getEng e).thr = none → 256 ≤ s.readsAt (c.ctx / 32) → t.waits q c (.code e)) ∧
      ((s.getEng e).thr = none → c.pos = 0 → s.readsAt (c.ctx / 32) < 256 → (∀ r ∈ s.cmds.cmd, ∀ d, r.2.wait ≠ .code d) →
        ∃ tag, t.getCmd q = some { c with wait := .hostRead, tag := tag } ∧ Output.hostRead c.ctx (s.wqPasid c.ctx) tag hostAt
          (min (min (c.w 6).toNat (4096 - hostAt % 4096)) (s.mrrs c.ctx) / 4) ∈ t.out))) ∧
    starts (.scrubRange k) 0x0701 1 [] ∧ starts (.checkerTest k) 0x0703 3 [] ∧
    (s.tokenBusy g ≠ none ∨ s.canRepair g (c.w 4).toNat col = true → starts (.memRepair k) 0x0702 2 []) ∧
    (s.tokenBusy g = none → s.canRepair g (c.w 4).toNat col = false → s.refuses (.memRepair k) q 0x0702 c stNO_RESERVE 0) ∧
    (s.tokenBusy g ≠ none ∨ s.rd R.MEM_DDRCFG_EN ch = 1 → starts (.ddrRetrain k) 0x0704 4 [R.MEM_DDRSTAT_RETRAIN.key ch]) ∧
    (s.tokenBusy g = none → s.rd R.MEM_DDRCFG_EN ch = 1 → s.commanded q 0x0704 c → s.answers (.ddrRetrain k) (fun t =>
      t.rd R.MEM_DDRSTAT_RETRAIN ch = 1)) ∧
    (s.tokenBusy g = none → s.rd R.MEM_DDRCFG_EN ch = 0 → s.refuses (.ddrRetrain k) q 0x0704 c stNOT_READY 0) ∧
    (smFind s.cmds.token g = some tok → s.refuses (.maintResult k) q 0x0705 c stBUSY (g * 256 + tok.act)) ∧
    (smFind s.cmds.token g = none → smFind s.cmds.result g = some res → s.commanded q 0x0705 c → s.answers (.maintResult k) (fun t =>
      s.replyOnly t q c [] res.status res.second res.words [])) ∧
    (smFind s.cmds.token g = none → smFind s.cmds.result g = none → s.refuses (.maintResult k) q 0x0705 c stNOT_FOUND 0) ∧
    (s.commanded q 0x0801 c →
      (s.srcAllowed dom src = true → s.srcReady dom src = true → s.rd R.CLK_DSEL_SWPEND dom = 0 → src ≠ s.rd R.CLK_DSEL_CUR dom →
        s.answers (.clockSwitch k) (fun t => t.rd R.CLK_DSEL_SRC dom = src ∧ t.rd R.CLK_DSEL_SWPEND dom = 1 ∧
          t.rd R.CLK_DSEL_CUR dom = s.rd R.CLK_DSEL_CUR dom ∧ t.rd R.CLK_CNT_SWITCH = (s.rd R.CLK_CNT_SWITCH + 1) % 2 ^ 16 ∧
          s.replied t q c [] stOK 0 [w32 (s.rd R.CLK_DSEL_CUR dom)])) ∧
      (s.srcAllowed dom src = true → s.srcReady dom src = true → s.rd R.CLK_DSEL_SWPEND dom = 0 → src = s.rd R.CLK_DSEL_CUR dom →
        s.answers (.clockSwitch k) (fun t => t.rd R.CLK_DSEL_SRC dom = src ∧
          s.replyOnly t q c [] stOK 0 [w32 src] [R.CLK_DSEL_SRC.key dom])) ∧
      (s.srcAllowed dom src = false ∨ (s.srcReady dom src = true ∧ s.rd R.CLK_DSEL_SWPEND dom = 1) →
        s.answers (.clockSwitch k) (fun t => t.rd R.CLK_EVT_SWREF = 1 ∧ s.replyOnly t q c [] stBAD_STATE 1 [] [R.CLK_EVT_SWREF.key])) ∧
      (s.srcAllowed dom src = true → s.srcReady dom src = false → s.answers (.clockSwitch k) (fun t =>
        t.rd R.CLK_EVT_SWREF = 1 ∧ s.replyOnly t q c [] stNOT_READY src [] [R.CLK_EVT_SWREF.key]))) ∧
    (c.w 4 < 8 → s.commanded q 0x0802 c → s.answers (.powerSet k) (fun t => t.rd limit.1 limit.2 = (c.w 4).toNat ∧
      s.replyOnly t q c [] stOK 0 [w32 (s.rd limit.1 limit.2)] [limit.1.key limit.2])) ∧
    (s.swapping e = true → s.refuses (.engineRetire k) q 0x0901 c stBUSY (r * 256 + 5)) ∧
    (s.swapping e = false → s.hasReserve r = false → s.refuses (.engineRetire k) q 0x0901 c stNO_RESERVE 0) ∧
    (s.swapping e = false → s.hasReserve r = true → s.physOf e ≠ none →
      s.commanded q 0x0901 c → s.answers (.engineRetire k) (fun t =>
        t.rd R.HLT_PSLOT_PSTATE (physIdx r (s.erd R.ENG_STAT_PHYS e)) = 3 ∧
        smFind t.swap r = some ⟨slotOf e, 3, s.rd R.ENG_RSTAT_RESV r⟩ ∧ t.rd R.ENG_RSTAT_SWAP r = 1 ∧ t.rd R.HLT_SWAP_BUSY = 1 ∧
        (t.getEng e).thr = none ∧ (t.getEng e).pref = none ∧ t.waits q c (.retire r))) ∧
    (ps ≠ 2 → s.refuses (.reinstate k) q 0x0902 c stBAD_STATE ps) ∧
    (ps = 2 → s.rd R.ENG_RSTAT_RESV rr ≠ 0x3F → s.refuses (.reinstate k) q 0x0902 c stBAD_STATE 1) ∧
    (ps = 2 → s.rd R.ENG_RSTAT_RESV rr = 0x3F → s.fuse.left = 0 → s.refuses (.reinstate k) q 0x0902 c stNO_RESERVE 0) ∧
    (ps = 2 → s.rd R.ENG_RSTAT_RESV rr = 0x3F → s.fuse.left ≠ 0 → s.rd R.HLT_STAT_RESLEFT = b → b < 32 → s.commanded q 0x0902 c →
      s.answers (.reinstate k) (fun t => t.rd R.HLT_PSLOT_PSTATE (physIdx rr rp) = 1 ∧ t.rd R.ENG_RSTAT_RESV rr = rp ∧
        t.rd R.HLT_STAT_RESLEFT = b + 1 ∧ t.rd R.HLT_STAT_DEAD = s.rd R.HLT_STAT_DEAD - 1 ∧
        t.hlt = { s.hlt with fuseQ := s.hlt.fuseQ ++ [.reinstate (physIdx rr rp)] } ∧ s.replied t q c [] stOK 0 [w32 rp]))

/-! ## Memory maintenance, clocks, power and health -/

/-- A maintenance activity ends with its result and its token free; the health manager starts its own; a DDR channel is configured, trained
and tracked (R453, R458–R460, R473–R476, R486–R491). -/
def Obligations.MaintenanceAndDdrChannels : Prop :=
  ∀ (s : State) (gr : BitVec 6) (tok : Token) (ok : Bool) (info : Word) (fn : InstNo) (chan : Bool) (val : Word) (rank hot : Bool)
    (cnt : BitVec 16) (at_ word old : Nat) (m r : Nat),
    let g := gr.toNat
    let ch := b2n chan
    let k := 2 * ch + b2n rank
    let ended (t : State) (status : Nat) (ws : List Word) : Prop :=
      smFind t.cmds.token g = none ∧ smFind t.cmds.result g = some ⟨status, 0, ws⟩ ∧ (tok.deferred = true → t.rd R.CMD_EVT_MAINT = 1) ∧
      ∀ q c, tok.deferred = false → s.waiter (.maint g) = some q → s.getCmd q = some c → c.ctx < 128 → s.replied t q c [] status 0 ws
    let fails := bits info 5 0
    let off := (tok.args.getD 2 0).toNat * 2 ^ 32 + (tok.args.getD 1 0).toNat
    let len := (tok.args.getD 3 0).toNat
    let odd := (s.oddWords g).filter (fun e => decide (off ≤ e.1) && decide (e.1 < off + len))
    let macro_ := (tok.args.getD 1 0).toNat
    let col := bits (tok.args.getD 0 0) 9 9 == 1
    let gc := g - 0x22
    let pass := ok && s.dpllFits gc && s.on R.MEM_DDRCFG_EN gc
    let swapWaits := match smFind s.swap g with | some x => x.step = 3 | none => False
    let trained (t : State) (c : Nat) : Prop := t.rd R.MEM_DDRSTAT_TRAINED c = 1 ∧ t.rd R.MEM_DDRSIZE_SIZE c = s.ddrCap c % 64
    let untrained (t : State) (c : Nat) : Prop := t.rd R.MEM_DDRSTAT_TRFAIL c = 1 ∧ t.rd R.MEM_USTAT_FAIL (16 + c) = 1
    let cfg := s.reaches fn.toNat (R.MEM_DDRCFG_EN.off ch)
    let runs := s.rankRuns ch (b2n rank) = true
    s.phase = .running →
    (smFind s.cmds.token g = some tok →
      (tok.act = 1 →
        (odd = [] → s.answers (.maintActivityEnd gr ok info) (fun t =>
          ended t stOK [w32 (len / 4), 0, 0, 0xFFFFFFFF, 0xFFFFFFFF] ∧ t.mem = s.mem ∧ t.upset = s.upset ∧ t.poison = s.poison)) ∧
        (odd = [(at_, word)] → s.poisoned word = false → smGet s.upset 0 (word / 4) = 1 → s.answers (.maintActivityEnd gr ok info) (fun t =>
          ended t stOK [w32 (len / 4), 1, 0, 0xFFFFFFFF, 0xFFFFFFFF] ∧ smFind t.upset (word / 4) = none ∧ t.mem = s.mem ∧
          t.poison = s.poison)) ∧
        (odd = [(at_, word)] → s.poisoned word = false → smGet s.upset 0 (word / 4) = 2 → s.answers (.maintActivityEnd gr ok info) (fun t =>
          ended t stOK [w32 (len / 4), 0, 1, w32 at_, w32 (at_ / 2 ^ 32)] ∧ smFind t.upset (word / 4) = none ∧
          setHas t.poison (word / 4) = true ∧ t.mem = s.mem))) ∧
      (tok.act = 2 →
        (s.canRepair g macro_ col = true → s.answers (.maintActivityEnd gr ok info) (fun t =>
          ended t stOK [w32 (s.fieldLeft g - 1)] ∧ t.fieldLeft g = s.fieldLeft g - 1 ∧ t.rd R.MEM_FUSE_LEFT = s.rd R.MEM_FUSE_LEFT - 1 ∧
          smGet t.fuse.spare (0, 0) (g * 256 + macro_) =
            (let p := smGet s.fuse.spare (0, 0) (g * 256 + macro_); if col then (p.1, p.2 + 1) else (p.1 + 1, p.2)))) ∧
        (s.canRepair g macro_ col = false → s.answers (.maintActivityEnd gr ok info) (fun t => ended t stNO_RESERVE [] ∧ t.fuse = s.fuse))) ∧
      (tok.act = 3 → s.answers (.maintActivityEnd gr ok info) (fun t => ended t stOK [w32 (b2n (fails == 0)), w32 fails] ∧
        (g < 32 → nbit (t.rd R.MEM_CHKSTAT0_FAIL) g = (fails != 0)) ∧
        (32 ≤ g → g < 36 → nbit (t.rd R.MEM_CHKSTAT1_FAIL) (g - 32) = (fails != 0)) ∧
        (fails ≠ 0 → t.rd R.MEM_USTAT_FAIL (checkUnit g) = 1) ∧ t.mem = s.mem)) ∧
      (tok.act = 4 → g = 0x22 ∨ g = 0x23 → s.answers (.maintActivityEnd gr ok info) (fun t => ended t stOK [w32 (b2n pass)] ∧
        t.rd R.MEM_DDRSTAT_RETRAIN gc = 0 ∧ (pass = true → trained t gc ∧ t.rd R.MEM_DDRSTAT_DRIFT gc = 0) ∧
        (pass = false → untrained t gc))) ∧
      (tok.act = 6 → s.answers (.maintActivityEnd gr ok info) (fun t => smFind t.cmds.token g = none ∧ t.cmds.result = s.cmds.result ∧
        (tok.args = [] → 0 < s.fieldLeft g → t.fieldLeft g = s.fieldLeft g - 1)))) ∧
    (smFind s.cmds.token g = none → s.answers (.maintActivityEnd gr ok info) (fun t => s.onlyRegs t [])) ∧
    (smFind s.cmds.token g = none → ¬swapWaits →
      (s.cmds.healthWait.find? (fun e => e.1 == g) = some (g, m, r) → s.answers (.fieldRepair gr) (fun t =>
        smFind t.cmds.token g = some ⟨6, 0x7F, s.ns, false, [0, w32 m, w32 r]⟩ ∧
        t.cmds.healthWait = s.cmds.healthWait.erase (g, m, r))) ∧
      (s.cmds.healthWait.find? (fun e => e.1 == g) = none → s.rd R.CMD_STAT_FWRDY = 1 → 0 < s.boot.soft → g < 0x22 →
        s.answers (.fieldRepair gr) (fun t => smFind t.cmds.token g = some ⟨6, 0x7F, s.ns, false, []⟩ ∧ t.boot.soft = s.boot.soft - 1))) ∧
    (smFind s.cmds.token g ≠ none ∨ swapWaits → s.answers (.fieldRepair gr) (fun t => s.onlyRegs t [])) ∧
    (cfg → s.rd R.MEM_DDRCFG_EN ch = 0 → bits val 10 8 ≤ 3 → s.answers (.ddrChannelEnable fn chan val) (fun t =>
      t.rd R.MEM_DDRCFG_SPEED ch = bits val 13 12 ∧ t.rd R.MEM_DDRCFG_DENS ch = bits val 10 8 ∧ t.rd R.MEM_DDRCFG_WIDTH ch = bits val 5 5 ∧
      t.rd R.MEM_DDRCFG_RANKS ch = bits val 4 4 ∧ t.rd R.MEM_DDRCFG_EN ch = bits val 0 0 ∧ (bits val 0 0 = 1 → ch ∈ t.ddr.train) ∧
      (bits val 0 0 = 1 → s.rd R.MEM_DDRCFG_EN (1 - ch) = 0 → t.rd R.CLK_PLLCTL_N 3 = dpllN (bits val 13 12)))) ∧
    (cfg → s.rd R.MEM_DDRCFG_EN ch = 1 → bits val 0 0 = 0 → s.answers (.ddrChannelEnable fn chan val) (fun t =>
      t.rd R.MEM_DDRCFG_EN ch = 0 ∧ t.rd R.MEM_DDRSTAT_TRAINED ch = 0 ∧ t.rd R.MEM_DDRSIZE_SIZE ch = 0)) ∧
    (cfg → (s.rd R.MEM_DDRCFG_EN ch = 1 ∧ bits val 0 0 = 1) ∨ (s.rd R.MEM_DDRCFG_EN ch = 0 ∧ 3 < bits val 10 8) →
      s.answers (.ddrChannelEnable fn chan val) (fun t => s.onlyRegs t [])) ∧
    (ch ∈ s.ddr.train → s.answers (.ddrTrainingComplete chan ok) (fun t => ch ∉ t.ddr.train ∧
      (ok = true → s.dpllFits ch = true → trained t ch) ∧ (ok = false ∨ s.dpllFits ch = false → untrained t ch))) ∧
    (ch ∉ s.ddr.train → s.answers (.ddrTrainingComplete chan ok) (fun t => s.onlyRegs t [])) ∧
    (runs → s.answers (.ddrRefresh chan rank hot) (fun t =>
        (k ∈ t.ddr.hot ↔ hot = true) ∧ t.rd R.MEM_DDRSTAT_HOT ch = b2n (t.ddr.hot.any (fun e => e / 2 == ch)) ∧
        t.still = { s with ddr := t.ddr }.still ∧ s.regsKept t [R.MEM_DDRSTAT_HOT.key ch]) ∧
      s.answers (.zqCalibration chan rank) (fun t => t.rd R.MEM_DDRCNT_ZQ ch = (s.rd R.MEM_DDRCNT_ZQ ch + 1) % 2 ^ 16 ∧
        s.onlyRegs t [R.MEM_DDRCNT_ZQ.key ch]) ∧
      (smFind s.ddr.osc k = none → s.answers (.dqsOscillatorRead chan rank cnt) (fun t =>
        smFind t.ddr.osc k = some cnt.toNat ∧ t.rd R.MEM_DDRCNT_TRACK ch = (s.rd R.MEM_DDRCNT_TRACK ch + 1) % 2 ^ 16)) ∧
      (smFind s.ddr.osc k = some old →
        let th := s.rd R.MEM_DDRTRK_DTH ch
        (old + th < cnt.toNat ∨ cnt.toNat + th < old → s.answers (.dqsOscillatorRead chan rank cnt) (fun t =>
          t.rd R.MEM_DDRSTAT_DRIFT ch = 1 ∧ t.rd R.MEM_USTAT_THR (16 + ch) = 1 ∧
          s.onlyRegs t [R.MEM_DDRCNT_TRACK.key ch, R.MEM_DDRSTAT_DRIFT.key ch, R.MEM_USTAT_THR.key (16 + ch)])) ∧
        (cnt.toNat ≤ old + th → old ≤ cnt.toNat + th → s.answers (.dqsOscillatorRead chan rank cnt) (fun t =>
          t.rd R.MEM_DDRCNT_TRACK ch = (s.rd R.MEM_DDRCNT_TRACK ch + 1) % 2 ^ 16 ∧ s.onlyRegs t [R.MEM_DDRCNT_TRACK.key ch])))) ∧
    (¬runs → s.answers (.ddrRefresh chan rank hot) (fun t => s.onlyRegs t []) ∧
      s.answers (.zqCalibration chan rank) (fun t => s.onlyRegs t []) ∧
      s.answers (.dqsOscillatorRead chan rank cnt) (fun t => s.onlyRegs t []))

/-- The PLLs, the reference, and the switch of a domain's source: what each accepts, refuses and shows (R548, R551, R555, R556, R590). -/
def Obligations.ClocksAndPlls : Prop :=
  ∀ (s : State) (fn : InstNo) (pl : BitVec 3) (val : Word) (dom so : BitVec 4) (lost : Bool) (missed : BitVec 8),
    let l := pl.toNat
    let en := bits val 31 31
    let old := s.rd R.CLK_PLLCTL_EN l
    let change := l < 2 ∧ (bits val 23 16 ≠ s.rd R.CLK_PLLCTL_N l ∨ bits val 1 0 ≠ s.rd R.CLK_PLLCTL_P l)
    let pllWr := s.reaches fn.toNat (R.CLK_PLLCTL_EN.off l)
    let suspected (t : State) : Prop := t.rd R.HLT_PLL_C0SUS = 1 ∧
      (s.rd R.HLT_CTL_AUTOPLL = 1 → s.rd R.CLK_PLLCTL_EN 1 = 0 →
        t.rd R.CLK_PLLCTL_EN 1 = 1 ∧ t.rd R.CLK_PLLCTL_N 1 = s.rd R.CLK_PLLCTL_N 0 ∧ t.rd R.CLK_PLLCTL_P 1 = s.rd R.CLK_PLLCTL_P 0 ∧
        t.hlt = { s.hlt with prep := true }) ∧
      (s.rd R.HLT_CTL_AUTOPLL = 0 ∨ s.rd R.CLK_PLLCTL_EN 1 = 1 → t.rd R.CLK_PLLCTL_EN 1 = s.rd R.CLK_PLLCTL_EN 1 ∧ t.hlt = s.hlt)
    let d := dom.toNat
    let src := so.toNat
    let has := d ≠ 7 ∧ d < 12
    let cur := s.rd R.CLK_DSEL_CUR d
    let want := s.rd R.CLK_DSEL_SRC d
    let may := s.srcAllowed d src = true ∧ s.srcReady d src = true ∧ s.rd R.CLK_DSEL_SWPEND d = 0
    let swWr := s.reaches fn.toNat (R.CLK_DSEL_SRC.off d)
    let goes := s.rd R.CLK_DSEL_SWPEND d = 1 ∧ (d = 0 → s.powerMoves = false)
    s.phase = .running →
    (pllWr →
      (¬change → en = old → s.answers (.pllControlWrite fn pl val) (fun t => s.onlyRegs t [])) ∧
      (change → old = 0 → en = 0 → s.answers (.pllControlWrite fn pl val) (fun t =>
        t.rd R.CLK_PLLCTL_N l = bits val 23 16 ∧ t.rd R.CLK_PLLCTL_P l = bits val 1 0 ∧
        s.onlyRegs t [R.CLK_PLLCTL_N.key l, R.CLK_PLLCTL_P.key l])) ∧
      (change → ¬(old = 0 ∧ en = 0) → s.answers (.pllControlWrite fn pl val) (fun t =>
        t.rd R.CLK_STAT_CFGERR = 1 ∧ t.rd R.CLK_PLLCTL_N l = s.rd R.CLK_PLLCTL_N l ∧ t.rd R.CLK_PLLCTL_P l = s.rd R.CLK_PLLCTL_P l)) ∧
      (en = 1 → old = 0 → s.answers (.pllControlWrite fn pl val) (fun t => t.rd R.CLK_PLLCTL_EN l = 1)) ∧
      (en = 0 → old = 1 → s.pllUsed l = false → s.answers (.pllControlWrite fn pl val) (fun t =>
        t.rd R.CLK_PLLCTL_EN l = 0 ∧ t.rd R.CLK_PLLSTAT_LOCK l = 0 ∧ t.rd R.CLK_PLLSTAT_READY l = 0)) ∧
      (en = 0 → old = 1 → s.pllUsed l = true → s.answers (.pllControlWrite fn pl val) (fun t =>
        t.rd R.CLK_PLLCTL_EN l = 1 ∧ t.rd R.CLK_STAT_CFGERR = 1 ∧ s.onlyRegs t [R.CLK_STAT_CFGERR.key]))) ∧
    (old = 1 → s.answers (.pllLock pl) (fun t => t.rd R.CLK_PLLSTAT_LOCK l = 1 ∧ s.onlyRegs t [R.CLK_PLLSTAT_LOCK.key l])) ∧
    (old = 0 → s.answers (.pllLock pl) (fun t => s.onlyRegs t [])) ∧
    (s.rd R.CLK_PLLSTAT_LOCK l = 1 →
      s.answers (.pllReady pl) (fun t => t.rd R.CLK_PLLSTAT_READY l = 1 ∧
        (l = 1 → s.hlt.prep = true → t.rd R.HLT_EVT_PLLRES = 1 ∧ t.hlt = { s.hlt with prep := false }) ∧
        (l ≠ 1 ∨ s.hlt.prep = false → s.onlyRegs t [R.CLK_PLLSTAT_READY.key l])) ∧
      s.answers (.pllLossOfLock pl) (fun t => t.rd R.CLK_PLLSTAT_LOCK l = 0 ∧ t.rd R.CLK_PLLSTAT_READY l = 0 ∧ t.rd R.CLK_EVT_LOL = 1 ∧
        t.rd R.CLK_CNT_LOL = min 65535 (s.rd R.CLK_CNT_LOL + 1) ∧ (l = 0 → suspected t) ∧
        (l ≠ 0 → s.onlyRegs t [R.CLK_PLLSTAT_LOCK.key l, R.CLK_PLLSTAT_READY.key l, R.CLK_EVT_LOL.key, R.CLK_CNT_LOL.key]))) ∧
    (s.rd R.CLK_PLLSTAT_LOCK l = 0 → s.answers (.pllReady pl) (fun t => s.onlyRegs t []) ∧
      s.answers (.pllLossOfLock pl) (fun t => s.onlyRegs t [])) ∧
    (s.rd R.CLK_PLLCTL_EN 0 = 1 → s.answers .cpll0Suspect suspected) ∧
    (s.rd R.CLK_PLLCTL_EN 0 = 0 → s.answers .cpll0Suspect (fun t => s.onlyRegs t [])) ∧
    s.answers .referenceOscillatorStop (fun t => t.rd R.CLK_STAT_OSCOK = 0 ∧ s.onlyRegs t [R.CLK_STAT_OSCOK.key]) ∧
    s.answers .referenceOscillatorRestart (fun t => t.rd R.CLK_STAT_OSCOK = 1 ∧ s.onlyRegs t [R.CLK_STAT_OSCOK.key]) ∧
    (swWr →
      (has → may → src ≠ cur → s.answers (.clockSourceSwitch fn dom so) (fun t =>
        t.rd R.CLK_DSEL_SRC d = src ∧ t.rd R.CLK_DSEL_SWPEND d = 1 ∧ t.rd R.CLK_DSEL_CUR d = cur ∧
        t.rd R.CLK_CNT_SWITCH = (s.rd R.CLK_CNT_SWITCH + 1) % 2 ^ 16)) ∧
      (has → may → src = cur → s.answers (.clockSourceSwitch fn dom so) (fun t =>
        t.rd R.CLK_DSEL_SRC d = src ∧ s.onlyRegs t [R.CLK_DSEL_SRC.key d])) ∧
      (has → ¬may → s.answers (.clockSourceSwitch fn dom so) (fun t =>
        t.rd R.CLK_EVT_SWREF = 1 ∧ s.onlyRegs t [R.CLK_EVT_SWREF.key])) ∧
      (¬has → s.answers (.clockSourceSwitch fn dom so) (fun t => s.onlyRegs t []))) ∧
    (goes → s.answers (.clockSwitchComplete dom lost missed) (fun t => t.rd R.CLK_DSEL_SWPEND d = 0 ∧
      (lost = false → s.srcReady d want = true → t.rd R.CLK_DSEL_CUR d = want) ∧
      (lost = true ∨ s.srcReady d want = false → t.rd R.CLK_EVT_SWREF = 1 ∧ t.rd R.CLK_DSEL_CUR d = cur) ∧
      (d = 3 → t.time = s.time + BitVec.ofNat 80 (missed.toNat * s.rd R.PTU_TINC_INC)) ∧
      (d ≠ 3 → s.onlyRegs t [R.CLK_DSEL_SWPEND.key d, R.CLK_DSEL_CUR.key d, R.CLK_EVT_SWREF.key]))) ∧
    (¬goes → s.answers (.clockSwitchComplete dom lost missed) (fun t => s.onlyRegs t []))

/-- The planner's evaluation of a rope and of a root port, the end of an exit and its wake record, entry into Off and the wake from it
(R557, R561–R565, R567, R568). -/
def Obligations.PowerPlannerAndOff : Prop :=
  ∀ (s : State) (rp : RopeNo) (pp : PortNo) (e : EngNo) (x : ExitRec) (t0 : Nat) (src : WakeSrc) (elapsed : BitVec 64) (b : BootInput),
    let r := rp.toNat
    let p := pp.toNat
    let n := e.toNat
    let st := s.rd R.PWR_RCTL_STATE r
    let lim := limitOf (s.rd R.PWR_RCTL_LIMIT r)
    let guard := s.rd R.PWR_GUARD_GUARD
    let soon (h : Option Nat) (k : Nat) : Bool := hLe h (k + guard)
    let pst := s.rd R.PWR_PCTL_STATE p
    let plim := limitOf (s.rd R.PWR_PCTL_LIMIT p)
    let pt := s.target (if s.rd R.PWR_PCTL_L2OK p = 1 then plim else min 2 plim) (s.portExit p 2) (s.portExit p 3) (s.portH p)
    let record (t : State) (kind frm cause index time : Nat) : Prop :=
      t.rd R.PWR_WAKE0_VALID = 1 ∧ t.rd R.PWR_WAKE0_KIND = kind ∧ t.rd R.PWR_WAKE0_FROM = frm % 8 ∧
        t.rd R.PWR_WAKE0_CAUSE = cause % 16 ∧ t.rd R.PWR_WAKE0_INDEX = index ∧ t.rd R.PWR_WAKE1_TIME = time
    let offDue := s.pwr.offFrom = some t0 ∧ s.rd R.PWR_CTL_PEN = 1 ∧ s.offReady = true ∧
      t0 + max 1 (s.rd R.PWR_DCTL_OFFDLY) * 1000000 ≤ s.ns.toNat
    let woken := s.pwr.offTime + BitVec.ofNat 80 (20 * 65536 * elapsed.toNat)
    (s.phase = .running →
      (s.rd R.PWR_CTL_PEN = 0 → (∀ k, k < 32 → s.rd R.PWR_RCTL_STATE k ≤ 1) → s.answers .plannerEvaluation (fun t =>
        t.pwr = { s.pwr with offFrom := none } ∧ t.still = { s with pwr := t.pwr }.still ∧ s.regsKept t [])) ∧
      (s.rd R.PWR_CTL_PEN = 0 → smFind s.pwr.rope r = none → s.answers .plannerEvaluation (fun t => t.rd R.PWR_RCTL_STATE r = st ∧
        (2 ≤ st → ∃ cause, cause < 16 ∧ smFind t.pwr.rope r = some ⟨st, cause, s.nsLo⟩) ∧
        t.still = { s with pwr := t.pwr }.still ∧ s.regsKept t [])) ∧
      (s.rd R.PWR_CTL_PEN = 1 → smSorted s.eng = true → s.answers .plannerEvaluation (fun t =>
        (smFind s.pwr.rope r = some x → smFind t.pwr.rope r = some x ∧ t.rd R.PWR_RCTL_STATE r = st) ∧
        (smFind s.pwr.rope r = none →
          (2 ≤ st → lim < st → smFind t.pwr.rope r = some ⟨st, 7, s.nsLo⟩ ∧ t.rd R.PWR_RCTL_STATE r = st) ∧
          (st = 1 → lim = 0 → t.rd R.PWR_RCTL_STATE r = 0) ∧
          (2 ≤ st → st ≤ lim → smFind s.swap r = none → soon (s.ropeH r) (ropeExit st) = true →
            smFind t.pwr.rope r = some ⟨st, 1, s.nsLo⟩ ∧ t.rd R.PWR_RCTL_STATE r = st) ∧
          (st ≤ lim → smFind s.swap r = none → (2 ≤ st → soon (s.ropeH r) (ropeExit st) = false) → s.tsc.ready = [] →
            t.rd R.PWR_RCTL_STATE r = max st (s.target lim (ropeExit 2) (ropeExit 3) (s.ropeH r)))) ∧
        (pst = 1 → plim = 0 → t.rd R.PWR_PCTL_STATE p = 0) ∧
        (pst < 2 → pst ≤ plim → 2 ≤ pt → s.portMay p = true →
          t.lstate p = lENTRY ∧ t.rd R.EWZ_CTL_SUSPREQ p = pt - 1 ∧ .lane p (suspendReq (pt - 1)) ∈ t.out))) ∧
      (smFind s.pwr.rope r = some x → s.answers (.powerStateExitComplete (.rope rp)) (fun t =>
        t.rd R.PWR_RCTL_STATE r = 1 ∧ smFind t.pwr.rope r = none ∧ record t 1 x.frm x.cause r x.at_.toNat ∧
        ∀ k, k < 32 → (s.getEng (32 * r + k)).thr = none → (s.getEng (32 * r + k)).exit = none →
          2 ≤ s.erd R.ENG_STAT_PSTATE (32 * r + k) → t.erd R.ENG_STAT_PSTATE (32 * r + k) = 1)) ∧
      (smFind s.pwr.rope r = none → s.answers (.powerStateExitComplete (.rope rp)) (fun t => s.onlyRegs t [])) ∧
      ((s.getEng n).exit = some x →
        ((s.getEng n).wait = none → s.answers (.powerStateExitComplete (.engine e)) (fun t =>
          t.erd R.ENG_STAT_PSTATE n = 0 ∧ t.getEng n = { s.getEng n with entry := none, exit := none } ∧
          record t 3 x.frm x.cause n x.at_.toNat)) ∧
        ((s.getEng n).wait ≠ none → (s.getEng n).nudge = false → x.cause = 7 → s.answers (.powerStateExitComplete (.engine e)) (fun t =>
          t.erd R.ENG_STAT_PSTATE n = min 1 (s.rd R.PWR_RCTL_LIMIT (ropeOf n)) ∧ t.getEng n = { s.getEng n with entry := none, exit := none } ∧
          record t 3 x.frm x.cause n x.at_.toNat)) ∧
        ((s.getEng n).nudge = true ∨ x.cause ≠ 7 → s.answers (.powerStateExitComplete (.engine e)) (fun t =>
          t.erd R.ENG_STAT_PSTATE n = 0 ∧ (t.getEng n).exit = none ∧ (t.getEng n).entry = none ∧ record t 3 x.frm x.cause n x.at_.toNat))) ∧
      ((s.getEng n).exit = none → s.answers (.powerStateExitComplete (.engine e)) (fun t => s.onlyRegs t [])) ∧
      ((s.getPort p).exitFrom ≠ 0 → s.lstate p = lL0 → s.answers (.powerStateExitComplete (.port pp)) (fun t =>
        t.rd R.PWR_PCTL_STATE p = 1 ∧ (t.getPort p).exitFrom = 0 ∧
        record t 2 (s.getPort p).exitFrom (s.getPort p).wakeCause p ((s.getPort p).wakeAt % 2 ^ 32))) ∧
      ((s.getPort p).exitFrom = 0 ∨ s.lstate p ≠ lL0 → s.answers (.powerStateExitComplete (.port pp)) (fun t => s.onlyRegs t [])) ∧
      (offDue → s.answers .offEntry (fun t => t.phase = .off ∧
        t.pwr = { s.pwr with offEn := s.rd R.PTU_CTL_EN != 0, offTime := s.time, offFrom := none } ∧
        t.still = { s with phase := .off, pwr := t.pwr }.still ∧ s.regsKept t [])) ∧
      (s.pwr.offFrom = none ∨ s.offReady = false ∨ s.rd R.PWR_CTL_PEN = 0 → s.answers .offEntry (fun t => s.onlyRegs t []))) ∧
    (s.phase = .off → s.wakeOn src = true →
      (s.boot.warmPin = true → s.answers (.offWake src elapsed b) (fun t => t.phase = .warmHeld ∧ t.time = woken ∧
        t.rd R.GLB_RSTCAUSE_CAUSE = 3 ∧ record t 0 4 (wakeCode src) 0 (woken.toNat / 65536 % 2 ^ 32) ∧
        t.rd R.PWR_OFFWAKE0_VALID = 1 ∧ t.rd R.PWR_OFFWAKE0_CAUSE = wakeCode src ∧ t.rd R.PWR_EVT_OFFWAKE = 1 ∧
        t.rd R.PTU_CTL_EN = b2n s.pwr.offEn)) ∧
      (s.boot.warmPin = false → s.answers (.offWake src elapsed b) (fun t => t.phase = .running))) ∧
    (s.phase = .running → s.wakeOn src = true → s.answers (.offWake src elapsed b) (fun t =>
      t.pwr = { s.pwr with offFrom := none } ∧ t.still = { s with pwr := t.pwr }.still ∧ s.regsKept t [])) ∧
    (s.phase = .off → s.wakeOn src = false → exec (.offWake src elapsed b) s = .next s)

/-- Heartbeats are judged; a reserve takes over an engine; fences, health fuse entries, ageing, and the reserves of PLL and management core
(R576–R579, R581, R582, R586–R588, R591–R593). -/
def Obligations.HealthAndReserves : Prop :=
  ∀ (s : State) (e : EngNo) (rp : RopeNo) (sp : Fin 33) (pass : Bool) (x : SwapSt) (f : HealthEnt) (l : List HealthEnt)
    (margin monitor : Byte) (fn : InstNo) (k : CoreNo) (c : Cmd),
    let n := e.toNat
    let j := s.getJudge n
    let g := gaps j.last j.got
    let base : Judge := { j with last := g.2, got := [] }
    let halted := s.erd R.ENG_DBG_HALTED n
    let excluded := s.rd R.HLT_CTL_EN = 0 ∨ s.inService n = false ∨ halted = 1 ∨ (s.getEng n).hbHalt = true
    let missed := if j.got.isEmpty then 1 else g.1
    let failed := j.got.any (fun h => h.cls == 1) = true
    let parity := j.got.any (fun h => h.cls == 2) = true
    let dirty := missed ≠ 0 ∨ failed ∨ parity
    let y : Judge := if missed ≠ 0 then { base with miss := j.miss + missed, fail := 0, par := 0 }
      else if failed then { base with fail := j.fail + 1, miss := 0, par := 0 } else { base with par := j.par + 1, miss := 0, fail := 0 }
    let reached := s.judgeLim R.HLT_JUDGE_MISSLIM ≤ y.miss ∨ s.judgeLim R.HLT_JUDGE_FAILLIM ≤ y.fail ∨ s.judgeLim R.HLT_JUDGE_PARLIM ≤ y.par
    let marked (t : State) : Prop := t.getJudge n = { y with suspect := true } ∧
      (j.suspect = false → t.rd R.HLT_EVT_SUSPECT = 1 ∧ t.rd R.HLT_CNT1_SUSPECT = min 65535 (s.rd R.HLT_CNT1_SUSPECT + 1))
    let r := rp.toNat
    let eng := 32 * r + x.slot
    let old := s.erd R.ENG_STAT_PHYS eng
    let new := physIdx r x.newPhys
    let sound (i : Nat) : Prop := ∀ o, o < 0x4000 → s.clean (saEngine i + 4 * o)
    let memory (o : Nat) : Prop := o < 0x4000 ∨ (0x8000 ≤ o ∧ o < 0x10000)
    let free (t : State) : Prop := smFind t.swap r = none ∧ smFind t.cmds.token r = none ∧ t.rd R.ENG_RSTAT_RESV r = 0x3F ∧ t.rd R.ENG_RSTAT_SWAP r = 0
    let i := physIdx r sp.val
    let step := s.rd R.HLT_GBAND_STEP
    let low := margin.toNat < s.rd R.HLT_AGECFG_MTH
    let due := max 1 (s.rd R.HLT_AGECFG_HOLD) ≤ s.hlt.low + 1 ∧ s.rd R.HLT_CTL_AUTOGB = 1 ∧ s.hlt.settling = false
    let serves := s.rd R.CMD_STAT_FWRDY = 1 ∧ s.rd R.HLT_CSLOT_STATE k.val = 0
    let silent := serves ∧ smGet s.hlt.beat 0 k.val + 3000000 ≤ s.ns.toNat
    s.phase = .running →
    (excluded → s.answers (.heartbeatPeriodEnd e) (fun t => t.getJudge n = base ∧
      t.getEng n = { s.getEng n with hbHalt := halted == 1 } ∧ s.regsKept t [])) ∧
    (¬excluded → ¬dirty → s.answers (.heartbeatPeriodEnd e) (fun t =>
      t.getJudge n = { base with miss := 0, fail := 0, par := 0, suspect := false } ∧ s.regsKept t [])) ∧
    (¬excluded → dirty → ¬reached → s.answers (.heartbeatPeriodEnd e) marked) ∧
    (¬excluded → dirty → reached → s.rd R.HLT_CTL_AUTOSWAP = 0 → s.answers (.heartbeatPeriodEnd e) (fun t =>
      marked t ∧ t.rd R.HLT_EVT_SUSPECT = 1)) ∧
    (¬excluded → dirty → reached → s.rd R.HLT_CTL_AUTOSWAP = 1 → s.answers (.heartbeatPeriodEnd e) (fun t =>
      t.rd R.HLT_PSLOT_PSTATE (physIdx (ropeOf n) (s.erd R.ENG_STAT_PHYS n)) = 3 ∧ (t.getEng n).thr = none ∧
      (s.hasReserve (ropeOf n) = true → smFind t.swap (ropeOf n) = some ⟨slotOf n, 3, s.rd R.ENG_RSTAT_RESV (ropeOf n)⟩) ∧
      (s.hasReserve (ropeOf n) = false → t.rd R.HLT_EVT_NORESV = 1))) ∧
    (smFind s.swap r = some x → x.step = 3 → smFind s.cmds.token r = none → s.answers (.swapTokenAcquired rp) (fun t =>
      smFind t.cmds.token r = some ⟨5, 0x7F, s.ns, false, []⟩ ∧ smFind t.swap r = some { x with step := 4 })) ∧
    (smFind s.swap r = none ∨ smFind s.cmds.token r ≠ none → s.answers (.swapTokenAcquired rp) (fun t => s.onlyRegs t [])) ∧
    (smFind s.swap r = some x → x.step = 4 → old < 33 → x.newPhys < 33 → x.newPhys ≠ old → sound (physIdx r old) → sound new →
      s.answers (.swapSelfCheckDone rp true) (fun t => smFind t.swap r = some { x with step := 6 } ∧
        (s.rd R.HLT_CTL_COPY = 1 → ∀ o, memory o → t.byteAt (saEngine new + o) = s.byteAt (saEngine (physIdx r old) + o)) ∧
        (s.rd R.HLT_CTL_COPY = 0 → ∀ o, memory o → t.byteAt (saEngine new + o) = 0) ∧
        ∀ b, ¬(saEngine new ≤ b ∧ b < saEngine new + 0x10000) → t.byteAt b = s.byteAt b)) ∧
    (smFind s.swap r = some x → x.step = 4 → x.newPhys < 33 → s.rd R.HLT_PSLOT_PSTATE new = 1 →
      s.answers (.swapSelfCheckDone rp false) (fun t => free t ∧ t.rd R.HLT_PSLOT_PSTATE new = 3 ∧ t.rd R.HLT_EVT_NORESV = 1 ∧
        t.rd R.HLT_SWAP_RESULT = 3)) ∧
    (smFind s.swap r = some x → x.step = 6 → x.newPhys < 33 → eng < 1024 → x.slot < 32 → s.answers (.swapRemap rp) (fun t =>
      free t ∧ t.erd R.ENG_STAT_PHYS eng = x.newPhys ∧ t.rd R.HLT_PSLOT_PSTATE new = 0 ∧ t.rd R.HLT_PSLOT_LOGICAL new = eng ∧
      t.rd R.HLT_EVT_SWAP = 1 ∧ t.rd R.HLT_CNT1_SWAPS = min 65535 (s.rd R.HLT_CNT1_SWAPS + 1) ∧ t.rd R.HLT_SWAP_ENGINE = eng ∧
      t.rd R.HLT_SWAP_OLDPHYS = old ∧ t.rd R.HLT_SWAP_NEWPHYS = x.newPhys ∧ t.rd R.HLT_SWAP_RESULT = 1 ∧
      t.hlt.fuseQ = s.hlt.fuseQ ++ [.retire (physIdx r old) eng (some x.newPhys)])) ∧
    (smFind s.swap r = none → s.answers (.swapSelfCheckDone rp pass) (fun t => s.onlyRegs t []) ∧
      s.answers (.swapRemap rp) (fun t => s.onlyRegs t [])) ∧
    (s.hlt.fuseQ = [] → s.answers .healthFuseProgrammed (fun t => s.onlyRegs t [])) ∧
    (s.hlt.fuseQ = f :: l → s.fuse.left = 0 → s.answers .healthFuseProgrammed (fun t => t.hlt.fuseQ = l ∧ t.fuse = s.fuse)) ∧
    (s.hlt.fuseQ = f :: l → 0 < s.fuse.left → s.answers .healthFuseProgrammed (fun t => t.hlt.fuseQ = l ∧ t.fuse.left = s.fuse.left - 1 ∧
      t.rd R.HLT_FUSE_LEFT = (s.fuse.left - 1) % 128 ∧ (s.fuse.left = 9 → t.rd R.HLT_EVT_FUSELOW = 1) ∧
      (match f with
        | .retire i _ none => smFind t.fuse.pstate i = some 2 ∧ (i < 1056 → t.rd R.HLT_PSLOT_FUSED i = 1)
        | .retire i e (some p) => (i ≠ physIdx (ropeOf e) p → smFind t.fuse.pstate i = some 2) ∧
            smFind t.fuse.pstate (physIdx (ropeOf e) p) = some 0 ∧ smFind t.fuse.carried e = some p
        | .reinstate i => smFind t.fuse.pstate i = some 1 ∧ (i < 1056 → t.rd R.HLT_PSLOT_FUSED i = 1)
        | .guardBand m => t.fuse.gbStep = m
        | .pll => t.fuse.c0ret = true ∧ t.rd R.HLT_PLL_C0RET = 1 ∧ t.rd R.HLT_PLL_RETIRE0 = 0
        | .core m => m ≠ 4 → smFind t.fuse.core m = some 2 ∧ smFind t.fuse.core 4 = some 0))) ∧
    (2 ≤ s.rd R.HLT_PSLOT_PSTATE i → s.answers (.fenceDrop (.engine rp sp)) (fun t =>
      t.rd R.HLT_CNT0_ZOMBIE = min (2 ^ 32 - 1) (s.rd R.HLT_CNT0_ZOMBIE + 1) ∧
      t.rd R.HLT_PSLOT_ZDROPS i = min 65535 (s.rd R.HLT_PSLOT_ZDROPS i + 1) ∧ t.rd R.HLT_PSLOT_ALIVE i = 1 ∧ t.rd R.HLT_EVT_ZOMBIE = 1)) ∧
    (s.rd R.HLT_PSLOT_PSTATE i < 2 → s.answers (.fenceDrop (.engine rp sp)) (fun t => s.onlyRegs t [])) ∧
    (s.rd R.HLT_CSLOT_STATE k.val = 2 → s.answers (.fenceDrop (.core k)) (fun t =>
      t.rd R.HLT_CNT0_ZOMBIE = min (2 ^ 32 - 1) (s.rd R.HLT_CNT0_ZOMBIE + 1) ∧ t.rd R.HLT_EVT_ZOMBIE = 1)) ∧
    (s.rd R.HLT_CSLOT_STATE k.val ≠ 2 → s.answers (.fenceDrop (.core k)) (fun t => s.onlyRegs t [])) ∧
    (let seen (t : State) : Prop := t.rd R.HLT_AGESTAT_WORST = margin.toNat ∧ t.rd R.HLT_AGESTAT_WORSTMON = monitor.toNat
     (¬low → s.answers (.ageMeasurement margin monitor) (fun t => seen t ∧ t.hlt = { s.hlt with low := 0 })) ∧
     (low → step = 7 → s.answers (.ageMeasurement margin monitor) (fun t => seen t ∧ t.rd R.HLT_EVT_GBMAX = 1 ∧
       t.hlt = { s.hlt with low := s.hlt.low + 1 })) ∧
     (low → step ≠ 7 → ¬due → s.answers (.ageMeasurement margin monitor) (fun t => seen t ∧ t.hlt = { s.hlt with low := s.hlt.low + 1 })) ∧
     (low → step ≠ 7 → due → s.answers (.ageMeasurement margin monitor) (fun t => seen t ∧ t.rd R.HLT_EVT_AGE = 1 ∧
       t.rd R.HLT_GBAND_VREQ = s.gbVreq (step + 1) % 4096 ∧ t.rd R.HLT_GBAND_STEP = step ∧
       t.hlt = { s.hlt with low := 0, settling := true, fuseQ := s.hlt.fuseQ ++ [.guardBand (step + 1)] }))) ∧
    (s.hlt.settling = true → s.answers .guardBandStepApplied (fun t => t.rd R.HLT_GBAND_STEP = (step + 1) % 8 ∧
      t.rd R.PWR_BIAS_RUNFBB = gbBias (step + 1) ∧ t.hlt = { s.hlt with settling := false } ∧
      s.regsKept t [R.HLT_GBAND_STEP.key, R.PWR_BIAS_RUNFBB.key])) ∧
    (s.hlt.settling = false → s.answers .guardBandStepApplied (fun t => s.onlyRegs t [])) ∧
    (s.reaches fn.toNat R.HLT_PLL_RETIRE0.off →
      (s.rd R.CLK_DSEL_CUR 0 = 2 → s.rd R.HLT_PLL_RETIRE0 = 0 → s.answers (.pllRetire fn) (fun t =>
        t.rd R.HLT_PLL_RETIRE0 = 1 ∧ t.hlt = { s.hlt with fuseQ := s.hlt.fuseQ ++ [.pll] } ∧ s.regsKept t [R.HLT_PLL_RETIRE0.key])) ∧
      (s.rd R.CLK_DSEL_CUR 0 ≠ 2 ∨ s.rd R.HLT_PLL_RETIRE0 = 1 → s.answers (.pllRetire fn) (fun t => s.onlyRegs t []))) ∧
    (serves → s.answers (.coreHeartbeat k) (fun t => smFind t.hlt.beat k.val = some s.ns.toNat ∧ s.regsKept t [])) ∧
    (¬serves → s.answers (.coreHeartbeat k) (fun t => s.onlyRegs t [])) ∧
    (silent → s.answers (.coreHeartbeatExpiry k) (fun t => t.rd R.HLT_CSLOT_STATE k.val = 2 ∧ t.rd R.CMD_EVT_CORELOST = 1 ∧
      (s.getCmd k.val = some c → c.ctx < 128 → s.replied t k.val c [] stINTERNAL 1 []) ∧
      (k.val ≠ 4 → s.rd R.HLT_CTL_CORESW = 1 → s.rd R.HLT_CSLOT_STATE 4 = 1 → s.hlt.coreStart = false →
        t.hlt = { s.hlt with coreStart := true, fuseQ := s.hlt.fuseQ ++ [.core k.val] }))) ∧
    (¬silent → s.answers (.coreHeartbeatExpiry k) (fun t => s.onlyRegs t [])) ∧
    (k.val = 4 → s.hlt.coreStart = true → s.answers (.reserveCoreReady k) (fun t =>
      t.rd R.HLT_CSLOT_STATE 4 = 0 ∧ t.rd R.CMD_STAT_RESCORE = 1 ∧ t.hlt.coreStart = false)) ∧
    (k.val ≠ 4 ∨ s.hlt.coreStart = false → s.answers (.reserveCoreReady k) (fun t => s.onlyRegs t []))

/-! ## Start-up and resets -/

/-- The power-on sequence, the boot images, the resets of device, firmware, engine and root port, and the I²C target (R549, R601, R603, R608–R613,
R619, R629). -/
def Obligations.StartUpAndResets : Prop :=
  ∀ (s : State) (fn : InstNo) (dly : BitVec 3) (h : HostNo) (b : BootInput) (img : BootImage) (e : EngNo) (p : PortNo) (k : CoreNo)
    (index : Byte) (hottest : BitVec 16) (sensor : BitVec 3) (a m v : Nat),
    let barred := b.gfail.toNat % 4 ≠ 0 ∨ b.chk1.toNat % 4 ≠ 0
    let failed (t : State) (code : Nat) : Prop := t.rd R.GLB_BOOTSTAT_FAIL = 1 ∧ t.rd R.GLB_BOOTSTAT_CODE = code
    let started (t : State) : Prop := t.rd R.GLB_BOOTSTAT_DONE = 1 ∧ t.rd R.CMD_STAT_FWRDY = 1 ∧ t.boot.version = img.header.getD 3 0
    let boots (t : State) : Prop := t.phase = .running ∧ t.rd R.GLB_BIST_SOFT = b.soft.toNat ∧ t.rd R.GLB_BIST_GFAIL = b.gfail.toNat ∧
      t.rd R.GLB_BISTROPE_FAIL = b.ropeFail.toNat ∧ t.rd R.MEM_CHKSTAT0_FAIL = b.chk0.toNat ∧ t.rd R.MEM_CHKSTAT1_FAIL = b.chk1.toNat ∧
      (barred → failed t 6) ∧
      (¬barred → b.primary = some img → s.imageCode (some img) = none → started t) ∧
      (¬barred → s.imageCode b.primary ≠ none → b.secondary = some img → s.imageCode (some img) = none →
        started t ∧ t.rd R.GLB_BOOTSTAT_SLOT = 1) ∧
      (∀ c, ¬barred → s.imageCode b.primary ≠ none → s.imageCode b.secondary = some c → failed t c)
    let cleared (t : State) (cause : Nat) : Prop := t.rd R.GLB_RSTCAUSE_CAUSE = cause ∧ t.fuse = s.fuse ∧ t.rd R.PTU_CTL_EN = b2n (s.rd R.PTU_CTL_EN != 0) ∧
      t.rd R.GLB_STRAP_MGR_PORT = s.rd R.GLB_STRAP_MGR_PORT
    let n := e.toNat
    let x := s.getEng n
    let q := p.toNat
    let idx := s.boot.i2cIdx.toNat
    exec .powerOnReset s = .next { State.reset with pending := s.pending, fuse := s.fuse, boot := { warmPin := s.boot.warmPin },
                                                    out := s.out, free := s.free } ∧
    (s.phase = .held → s.answers (.porstRelease dly h) (fun t => t.phase = .oscDelay ∧ t.rd R.GLB_STRAP_OSC_DLY = dly.toNat ∧
      t.rd R.GLB_STRAP_MGR_PORT = h.toNat ∧ (∀ c, c < 4 → t.rd R.VIM_FID_MGR (32 * c) = b2n (c == h.toNat)) ∧
      t.still = { s with phase := .oscDelay }.still ∧
      s.regsKept t ([R.GLB_STRAP_OSC_DLY.key, R.GLB_STRAP_MGR_PORT.key] ++ (List.range 4).map (fun c => R.VIM_FID_MGR.key (32 * c))))) ∧
    (s.phase ≠ .held → s.answers (.porstRelease dly h) (fun t => s.onlyRegs t [])) ∧
    (s.phase = .oscDelay → s.boot.warmPin = true → s.answers (.oscDelayExpiry b) (fun t => t.phase = .heldStep3)) ∧
    (s.phase = .oscDelay → s.boot.warmPin = false → s.answers (.oscDelayExpiry b) boots) ∧
    (s.phase ≠ .oscDelay → s.answers (.oscDelayExpiry b) (fun t => s.onlyRegs t [])) ∧
    (s.phase = .running → s.answers .warmResetPin (fun t => t.phase = .warmHeld ∧ cleared t 1 ∧ t.boot.warmPin = true ∧
      t.rd R.CMD_STAT_FWRDY = 0 ∧ ∀ c, t.byteAt c = if 0x8000000000 ≤ c then s.byteAt c else 0)) ∧
    (s.phase ≠ .running → exec .warmResetPin s = .next { s with boot := { s.boot with warmPin := true } }) ∧
    (s.phase = .warmHeld ∨ s.phase = .heldStep3 → s.answers (.warmResetRelease b) (fun t => boots t ∧ t.boot.warmPin = false)) ∧
    (s.phase = .running → s.reaches fn.toNat R.GLB_CTL_WARMRST.off → s.answers (.warmResetRequest fn b) (fun t => cleared t 2 ∧
      (s.boot.warmPin = true → t.phase = .warmHeld) ∧ (s.boot.warmPin = false → boots t))) ∧
    (s.phase = .running → s.reaches fn.toNat R.GLB_CTL_FWRST.off → s.answers (.firmwareRestart fn b) (fun t =>
      t.rd R.GLB_RSTCAUSE_CAUSE = 4 ∧ t.getCmd k.val = none ∧
      (s.bootBarred = true → failed t 6 ∧ t.rd R.CMD_STAT_FWRDY = 0) ∧
      (s.bootBarred = false → b.primary = some img → s.imageCode (some img) = none → started t))) ∧
    (s.phase = .running → s.reaches fn.toNat R.GLB_ENGRST_GO.off →
      (smFind s.swap (ropeOf n) ≠ none ∨ s.physOf n = none → s.answers (.engineReset fn e) (fun t =>
        t.rd R.GLB_ENGRST_RESULT = 2 ∧ t.rd R.GLB_ENGRST_ENGINE = n ∧ s.onlyRegs t [R.GLB_ENGRST_RESULT.key, R.GLB_ENGRST_ENGINE.key])) ∧
      (smFind s.swap (ropeOf n) = none → s.physOf n ≠ none → s.answers (.engineReset fn e) (fun t =>
        t.rd R.GLB_ENGRST_RESULT = 1 ∧ t.rd R.GLB_ENGRST_ENGINE = n ∧ t.erd R.ENG_STAT_PSTATE n = 1 ∧ (t.getEng n).thr = none ∧
        (t.getEng n).pref = none ∧ (∀ g, (t.getEng n).gr g = 0) ∧
        (x.thr = none → x.pref = none → x.stalled = none → t.mem = s.mem ∧
          t.getEng n = { cbuf := x.cbuf, hbSeq := x.hbSeq, hbHalt := x.hbHalt, hbThr := x.hbThr, hbRet := x.hbRet })))) ∧
    (s.phase = .running → s.reaches fn.toNat R.GLB_PORTRST_GO.off →
      (s.rd R.EWZ_CTL_EN q = 1 ∨ s.rd R.SCH_CTL_EN q = 1 → s.answers (.rootPortReset fn p) (fun t =>
        nbit (t.rd R.GLB_PORTRST_REFUSED) q = true ∧ s.onlyRegs t [R.GLB_PORTRST_REFUSED.key])) ∧
      (s.rd R.EWZ_CTL_EN q = 0 → s.rd R.SCH_CTL_EN q = 0 → s.answers (.rootPortReset fn p) (fun t =>
        nbit (t.rd R.GLB_PORTRST_GO) q = true ∧ (∀ i, portKey q i = true → smFind t.regs i = none) ∧
        (let y := s.getPort q
         t.getPort q = { retired := y.retired, lostAge := y.lostAge, latSeen := y.latSeen }) ∧
        ∀ r, r ≠ q → t.getPort r = s.getPort r))) ∧
    (s.phase = .running → nbit (s.rd R.GLB_PORTRST_GO) q = true → s.portHeld q = false → s.answers (.rootPortResetDone p) (fun t =>
      nbit (t.rd R.GLB_PORTRST_GO) q = false ∧ s.onlyRegs t [R.GLB_PORTRST_GO.key])) ∧
    (s.phase = .running → nbit (s.rd R.GLB_PORTRST_GO) q = false ∨ s.portHeld q = true → s.answers (.rootPortResetDone p) (fun t =>
      s.onlyRegs t [])) ∧
    (s.i2cOn = true → exec (.i2cWrite index) s = .next { s with boot := { s.boot with i2cIdx := index } } ∧
      s.answers (.i2cRead hottest sensor) (fun t => t.boot.i2cIdx = s.boot.i2cIdx + 1 ∧
        (s.i2cField idx hottest.toNat sensor.toNat = none → s.puts t [.i2c 0]) ∧
        (s.i2cField idx hottest.toNat sensor.toNat = some (a, m, v) →
          (s.phase = .off → offReads idx = true → s.puts t [.i2c 0xFF]) ∧
          (s.phase ≠ .off ∨ offReads idx = false →
            (idx = a → s.puts t [.i2c (BitVec.ofNat 8 v)] ∧
              ∀ j, j < m - 1 → smFind t.boot.i2cLatch (a + 1 + j) = some (BitVec.ofNat 8 (v / 2 ^ (8 * (j + 1))))) ∧
            (∀ l, idx ≠ a → smFind s.boot.i2cLatch idx = some l → s.puts t [.i2c l]))))) ∧
    (s.i2cOn = false → exec (.i2cWrite index) s = .next s ∧ exec (.i2cRead hottest sensor) s = .next s)

/-! ## Accesses -/

/-- A register write acts on each field by its type, a set or reset of its cycle wins as R8 and R9 say, and the accesses of one cycle follow
the order of R10; a read returns the bytes asked for and has the effect of the whole register; apertures act as their rows say (R3, R5–R12,
R35, R199, R230, R385, R389). -/
def Obligations.RegisterAccesses : Prop :=
  ∀ (s : State) (fn : InstNo) (off : BitVec 26) (val upd rst : BitVec 64) (size : AccSize) (o : Nat) (word : BitVec 21) (v : Word)
    (c : CairnNo) (w : BitVec 4) (ep wide : Bool) (one two : RegAcc),
    let n := fn.toNat
    let lo : Word := val.extractLsb' 0 32
    let hi : Word := val.extractLsb' 32 32
    let h := n / 32
    let both (a b : RegAcc) (y : BitVec 64) : Instr := .registerWrite a.fn a.off a.size y a.ep ⟨a.cp, a.upd, a.rst, [b]⟩
    let write (size : AccSize) (ep : Bool) : Instr := .registerWrite fn off size val ep ⟨false, upd, rst, []⟩
    let plain (r : RegD) (i j : Nat) : Prop :=
      r.base ∉ [R.MEM_CTL.base, R.TSC_CMD.base, R.SCH_CANCEL.base, R.GLB_ENGRST.base, R.EVC_VCFG.base, R.EVC_CVCFG.base, R.EVC_ROUTE.base] ∧
      (r.base < 0x40000 ∨ (0x200000 ≤ r.base ∧ r.base < 0x400000) ∨ (0x500000 ≤ r.base ∧ r.base < 0x700100) ∨
        (0x800000 ≤ r.base ∧ r.base < 0x4000000) ∨
        (0x80000 ≤ r.base ∧ r.base < 0xC0000 ∧
          (r.base ∈ [R.HPC_GRANT0.base, R.HPC_GRANT1.base, R.HPC_GRANT2.base, R.HPC_GRANTRO.base] → 32 * i ≠ s.mgr)) ∨
        (0x400000 ≤ r.base ∧ r.base < 0x500000 ∧ (r.base ∈ [R.EWZ_ADDRTAB0.base, R.EWZ_ADDRTAB1.base] → j ≠ 0 ∧ j ≠ 127)))
    let lands (t : State) (a : Nat) (x : Word) (m z : Nat) : Prop := ∀ r i j f, regAt a = some (r, i, j) → plain r i j → f ∈ r.fields →
      evcKey (f.key i j) = false →
      let y := bits x f.hi f.lo
      let u := nbits m f.hi f.lo
      if nbits z f.hi f.lo ≠ 0 then t.rd f i j = f.resetAt i j % f.span
      else if f ∈ ownRow then t.rd f i j = s.rd f i j
      else match f.ty with
        | .rw => t.rd f i j = y
        | .rwh => t.rd f i j = y
        | .cnt => t.rd f i j = y ∧ (z = 0 → u ≠ 0 → ∀ k, f.collField = some k → t.rd k i j = 1)
        | .w1c => (∀ g k, g ∈ r.fields → g.collField = some k → k.key i j = f.key i j → nbits m g.hi g.lo = 0) →
            t.rd f i j = ((s.rdw f i j &&& ~~~(w32 y)) ||| w32 u).toNat % f.span
        | .w1s => t.rd f i j = (s.rdw f i j ||| w32 y).toNat % f.span
        | .ro => t.rd f i j = s.rd f i j
        | .rc => t.rd f i j = s.rd f i j
        | .wo => t.rd f i j = s.rd f i j
    let m := upd.toNat % 2 ^ 32
    let z := rst.toNat % 2 ^ 32
    let poisoned (t : State) : Prop := t.rd R.HPC_ERR_POISONRX h = 1 ∧ s.puts t [.aerPoison h] ∧
      s.onlyRegs t [R.HPC_ERR_POISONRX.key h, R.HPC_CNT0_POISONRX.key h]
    let key := n * 2 ^ 26
    let read (size : AccSize) : Instr := .cntLowWordRead fn ⟨off, size, wide⟩
    let bytes := match size with | .b1 => 1 | .b2 => 2 | .b4 => 4 | .b8 => 8
    let at_ := o / 4 * 4
    let part (x : Word) : Word := w32 (x.toNat / 2 ^ (8 * (o % 4)) % 2 ^ (8 * bytes))
    let reg (a : Nat) (r : RegD) (i j : Nat) : Prop := regAt a = some (r, i, j) ∧
      (a < 0x32000 ∨ (0x34000 ≤ a ∧ a < 0xC0100) ∨ (0xC0200 ≤ a ∧ a < 0xD0000) ∨ (0xE0000 ≤ a ∧ a < 0x2000000) ∨ 0x4000000 ≤ a) ∧
      r.base ∉ [R.PTU_TIMELO.base, R.PTU_TRKPOSF.base, R.ENG_ACCDATA.base]
    let clears (t : State) (r : RegD) (i j : Nat) : Prop := (∀ f ∈ r.fields, f.ty = .rc → t.rd f i j = 0) ∧
      s.regsKept t ((r.fields.filter (fun f => f.ty == .rc)).map (fun f => f.key i j))
    let latched (t : State) (l : List (Nat × Word)) : Prop := (∀ e ∈ l, smFind t.latch e.1 = some e.2) ∧
      (∀ a, (∀ e ∈ l, a ≠ e.1) → smFind t.latch a = smFind s.latch a) ∧ t.still = { s with latch := t.latch }.still
    let la := word.toNat * 4
    let x := c.toNat
    let k := w.toNat
    let burst (a : Nat) : Prop := ∀ i, i < 16 → s.clean (a / 64 * 64 + 4 * i)
    let stands := s.cst x = 0 ∨ s.cst x = 7 ∨ s.cst x = 8
    s.phase = .running →
    s.answers (write size true) poisoned ∧
    (busOff n off.toNat = none ∨ size = .b1 ∨ size = .b2 → s.answers (write size false) (fun t => s.onlyRegs t [])) ∧
    (busOff n off.toNat = some o →
      (o % 4 ≠ 0 → s.answers (write .b4 false) (fun t => s.onlyRegs t [])) ∧
      (o % 8 ≠ 0 → s.answers (write .b8 false) (fun t => s.onlyRegs t [])) ∧
      (o % 4 = 0 → s.reaches n o → s.answers (write .b4 false) (fun t => lands t o lo m z ∧
        (∀ i j, regAt o = some (R.PTU_MKTGT0, i, j) → (t.getMarker i).held = lo) ∧
        (∀ i j, regAt o = some (R.TSC_CMD, i, j) → z = 0 → lo.getLsbD 31 = false →
          t.rd R.TSC_CMD_OP = bits lo R.TSC_CMD_OP.hi R.TSC_CMD_OP.lo ∧ t.rd R.TSC_CMD_CAIRN = bits lo R.TSC_CMD_CAIRN.hi R.TSC_CMD_CAIRN.lo) ∧
        (0xD0000 ≤ o → o < 0xE0000 → o / 0x20 % 128 ≠ 0 → o / 0x20 % 128 ≠ 127 → ∀ i, i < 4 →
          smGet t.pipeTab 0 (o - 0xD0000 + i) = lo.extractLsb' (8 * i) 8))) ∧
      (o % 8 = 0 → m = 0 → z = 0 → s.reaches n o → s.reaches n (o + 4) → (∀ r i j, regAt o = some (r, i, j) → plain r i j) →
        s.answers (write .b8 false) (fun t => lands t o lo 0 0 ∧ lands t (o + 4) hi (upd.toNat / 2 ^ 32) (rst.toNat / 2 ^ 32)))) ∧
    (accRank two < accRank one →
      (∀ y, one.val = some y → s.answers (both one two y) (fun t => t = ((s.access two).access one).settle)) ∧
      (∀ y, two.val = some y → s.answers (both two one y) (fun t => t = ((s.access two).access one).settle))) ∧
    (busOff n off.toNat = some o → size ≠ .b8 → o % bytes = 0 → s.readable n at_ →
      (∀ r i j, smFind s.latch (key + at_) = none → reg at_ r i j → s.answers (read size) (fun t =>
        s.puts t [.readData n (part (s.softWord r i j)) false] ∧ clears t r i j ∧
        (wide = true → r.fields.any (fun f => f.ty == .cnt) = true → ∀ r' i' j', regAt (at_ + 4) = some (r', i', j') →
          latched t [(key + (at_ + 4), s.softWord r' i' j')]) ∧
        (wide = false ∨ r.fields.any (fun f => f.ty == .cnt) = false → latched t []))) ∧
      (∀ l, smFind s.latch (key + at_) = some l → s.answers (read size) (fun t => s.puts t [.readData n (part l) false] ∧
        smFind t.latch (key + at_) = none ∧ (∀ a, a ≠ key + at_ → smFind t.latch a = smFind s.latch a) ∧
        t.still = { s with latch := t.latch }.still ∧ s.regsKept t [])) ∧
      (smFind s.latch (key + at_) = none → ∀ sa, (0x2000000 ≤ at_ ∧ at_ < 0x2700000 ∧ sa = saList (at_ - 0x2000000)) ∨
          (0x3000000 ≤ at_ ∧ at_ < 0x3400000 ∧ sa = 0x1020800000 + (at_ - 0x3000000)) → s.clean sa →
        s.answers (read size) (fun t => s.puts t [.readData n (part (s.rawWord sa)) false] ∧ s.onlyRegs t []))) ∧
    (busOff n off.toNat = some o → o % 8 = 0 → s.readable n o → smFind s.latch (key + o) = none → smFind s.latch (key + (o + 4)) = none →
      ∀ r i j r' i' j', reg o r i j → reg (o + 4) r' i' j' → s.readable n (o + 4) → s.answers (read .b8) (fun t =>
        s.puts t [.readData n (s.softWord r i j) false, .readData n (s.softWord r' i' j') false] ∧
        ∀ a, smFind t.latch a = smFind s.latch a)) ∧
    (busOff n off.toNat = some o → size ≠ .b8 → o % bytes ≠ 0 → s.answers (read size) (fun t =>
      s.puts t [.readData n 0xFFFFFFFF false] ∧ s.onlyRegs t [])) ∧
    (busOff n off.toNat = some o → o % 8 ≠ 0 → s.answers (read .b8) (fun t =>
      s.puts t [.readData n 0xFFFFFFFF false, .readData n 0xFFFFFFFF false] ∧ s.onlyRegs t [])) ∧
    (busOff n off.toNat = none → s.answers (read size) (fun t => s.puts t [.readData n 0xFFFFFFFF false] ∧ s.onlyRegs t [])) ∧
    (s.reaches n (0x2000000 + la) →
      (la < 0x700000 → burst (saList la) → s.answers (.listApertureWrite fn word v ep) (fun t => t.rawWord (saList la) = v ∧
        setHas t.poison (saList la / 4) = ep ∧ (ep = true → t.rd R.HPC_ERR_POISONRX h = 1) ∧
        ∀ b, ¬(saList la ≤ b ∧ b < saList la + 4) → t.byteAt b = s.byteAt b)) ∧
      (0x700000 ≤ la → s.answers (.listApertureWrite fn word v ep) (fun t => t.mem = s.mem ∧
        t.rd R.VIM_CNT_VIOL = min 65535 (s.rd R.VIM_CNT_VIOL + 1)))) ∧
    (s.reaches n (0x3000000 + (x * 64 + k * 4)) →
      (stands → s.cairnClean x → s.answers (.cairnApertureWrite fn c w v false) (fun t =>
        t.cw x k = (v &&& ~~~(cairnHw k)) ||| (s.cw x k &&& cairnHw k) ∧
        (∀ b, ¬(saCairn x k ≤ b ∧ b < saCairn x k + 4) → t.byteAt b = s.byteAt b) ∧ t.still = { s with mem := t.mem }.still ∧
        s.regsKept t [])) ∧
      (stands → s.cairnClean x → s.answers (.cairnApertureWrite fn c w v true) (fun t => setHas t.poison (saCairn x k / 4) = true ∧
        t.rd R.HPC_ERR_POISONRX h = 1 ∧ ∀ b, ¬(saCairn x k ≤ b ∧ b < saCairn x k + 4) → t.byteAt b = s.byteAt b)) ∧
      (¬stands → s.answers (.cairnApertureWrite fn c w v false) (fun t =>
        t.rd R.TSC_STAT_CWERR = 1 ∧ s.onlyRegs t [R.TSC_STAT_CWERR.key])))

/-! ## Encodings -/

/-- The words of the engine instructions (R319-R352) lose no bit: a word reads as an instruction exactly when that instruction
is written as the word, for every engine, every word and every value of every field. -/
def Obligations.EngineWordsRoundTrip : Prop :=
  ∀ (e : EngNo) (w : Word) (i : Instr), decodeEngineWord e w = some i ↔ encodeEngineInstr i = some (e, w)

/-- Words written out from the spec's encodings, one for each kind of format, read as the instructions they stand for; a word
whose OP or FN no table gives reads as none (R320, R322). -/
def Obligations.SpecWordsDecode : Prop :=
  ∀ e : EngNo,
    decodeEngineWord e 0x35000002 = some (.lui e ⟨8, 0, 2⟩) ∧ decodeEngineWord e 0x70880100 = some (.lw e ⟨4, 8, 0x100⟩) ∧
    decodeEngineWord e 0x00062818 = some (.cmp e ⟨0, 6, 5, 0, 0⟩) ∧ decodeEngineWord e 0xC2800002 = some (.br e ⟨10, 2⟩) ∧
    decodeEngineWord e 0x0D695009 = some (.emit e ⟨11, 9, 10, 0, 0⟩) ∧ decodeEngineWord e 0x14000001 = some (.endThread e ⟨0, 1⟩) ∧
    decodeEngineWord e 0xE8048000 = some (.amac e ⟨0, 1, 2, 0, 0, 0⟩) ∧ decodeEngineWord e 0xE8C10044 = some (.ard e ⟨3, 0, 16, 0, 0, 1⟩) ∧
    decodeEngineWord e 0xF8840000 = some (.vins e ⟨4, 2, 0, 0⟩) ∧ decodeEngineWord e 0xF8C60001 = some (.vext e ⟨6, 3, 0, 0⟩) ∧
    decodeEngineWord e 0x00000017 = none ∧ decodeEngineWord e 0x18000000 = none

/-! ## Reset -/

/-- The state after power-on reset is asserted: memories empty and canonical, no command waiting, and every register field at
its Reset value; of those, the values the register tables of chapters 01, 02, 04, 05, 06, 08, 09, 11, 13, 14, 15 and 16 give
(R62, R63, R66, R129, R228, R264, R311, R388, R390, R433, R498, R547, R573, R575, R599, R616). -/
def Obligations.ResetState : Prop :=
  let s := State.reset
  (s.pending = [] ∧ s.mem = [] ∧ Memory.wf s.mem ∧ s.poison = [] ∧ s.phase = .held ∧ s.faultN = true) ∧
  (∀ (f : Field) (i j : Nat), s.rd f i j = f.resetAt i j % f.span) ∧
  (∀ i : Nat,
    s.rd R.PTU_CTL_EN = 0 ∧ s.rd R.PTU_TINC_INC = 0x20000 ∧ s.rd R.PTU_TRKCTL_TOUT i = 100 ∧ s.rd R.PTU_TRKCTL_VWIN i = 3 ∧
    s.rd R.PTU_TRKCTL_FILT i = 2 ∧ s.rd R.PTU_PFRM_FMAX i = 8000 ∧ s.rd R.PTU_PFRM_FMIN i = 125 ∧
    s.rd R.PTU_PNEXT_NEXT i = 0xFFFFFFFF ∧ s.rd R.EWZ_LSTAT_STATE i = 6 ∧ s.rd R.EWZ_RTCFG_WAITF i = 1024 ∧
    s.rd R.SCH_PWMAX_PWMAX i = 20000 ∧ s.rd R.SCH_GLEN_GLEN i = 1000 ∧ s.rd R.SCH_BULKHEAD_EMPTY i = 1 ∧
    s.rd R.TSC_CTL_DETEN = 1 ∧ s.rd R.TSC_CRHEAD_PHASE i = 1 ∧ s.rd R.ENG_RCTL_HBPER i = 100 ∧ s.rd R.HPC_PCTL_MAXSPD i = 5 ∧
    s.rd R.VIM_ISTATE_AUTORST i = 1 ∧ s.rd R.VIM_ICAIRN_BASE i = 0xFFFF ∧ s.rd R.WQ_QARB_WEIGHT i = 1 ∧
    s.rd R.MEM_CTL_ILV = 1 ∧ s.rd R.MEM_UTH_ROWTH i = 8 ∧ s.rd R.EVC_FCFG_FEN = 1 ∧ s.rd R.EVC_FCFG_WIN = 64 ∧
    s.rd R.CLK_STAT_OSCOK = 1 ∧ s.rd R.PWR_DCTL_OFFDLY = 100 ∧ s.rd R.PWR_TH_TDEEP = 500 ∧ s.rd R.HLT_JUDGE_GRACE = 10 ∧
    s.rd R.HLT_AGESTAT_WORST = 0xFF ∧ s.rd R.GLB_ID_DEVID = 0x4610)

/-! ## Every command -/

/-- What acts before start-up has finished, while a reset holds the device and in Off: the commands of chapter 16, the wake
from Off and the I²C target. Every other command has no effect there (R601, R610; for Off R565). -/
def Obligations.NothingActsUnlessRunning : Prop :=
  ∀ (s : State) (c : Instr), s.phase ≠ .running →
    (match c with
      | .powerOnReset | .porstRelease .. | .oscDelayExpiry _ | .warmResetPin | .warmResetRelease .. | .offWake .. | .i2cWrite .. |
        .i2cRead .. => False
      | _ => True) →
    exec c s = .next s

/-- No step faults or is refused, whatever the command and its operands, and a step keeps the memories in their canonical form:
addresses strictly rising, no entry that reads as an unwritten byte does. -/
def Obligations.StepsGoOnAndKeepMemoryCanonical : Prop :=
  ∀ s : State, Memory.wf s.mem → ∃ t, step s = .next t ∧ Memory.wf t.mem

/-! ## The queue -/

/-- A step takes the command at the front of the queue and executes it on the state with the rest of the queue; on an empty
queue the block idles, which is the model's choice (log entry 11). -/
def Obligations.StepTakesTheFront : Prop :=
  (∀ (s : State) (c : Instr) (rest : List Instr), s.pending = c :: rest → step s = exec c { s with pending := rest }) ∧
  (∀ s : State, s.pending = [] → step s = .next s)
end

