-- ==== Sys2Proof/Laws/SMap.lean ====
section
/-! SUPPORT. Laws of sparse tables: reading after writing, and the canonical form. -/

namespace Sys2Proof.Machine

theorem smFind_ins_same {α : Type} (m : SMap α) (x : Nat) (v : α) : smFind (smIns m x v) x = some v := by
  induction m with
  | nil => simp [smIns, smFind]
  | cons a m ih =>
    obtain ⟨k, w⟩ := a
    simp only [smIns]
    split
    · simp [smFind]
    · split
      · simp [smFind]
      · rename_i h1 h2
        simp [smFind, h2, ih]

theorem smFind_ins_ne {α : Type} (m : SMap α) {x y : Nat} (v : α) (h : y ≠ x) : smFind (smIns m x v) y = smFind m y := by
  induction m with
  | nil => simp [smIns, smFind, h]
  | cons a m ih =>
    obtain ⟨k, w⟩ := a
    simp only [smIns]
    split
    · simp [smFind, h]
    · split
      · rename_i h1 h2
        subst h2
        simp [smFind, h]
      · simp only [smFind, ih]

theorem smFind_del_same {α : Type} (m : SMap α) (x : Nat) : smFind (smDel m x) x = none := by
  induction m with
  | nil => simp [smDel, smFind]
  | cons a m ih =>
    obtain ⟨k, w⟩ := a
    simp only [smDel, List.filter_cons] at ih ⊢
    split
    · rename_i h
      have h' : x ≠ k := fun hx => by simp [hx] at h
      simp only [smFind, h', if_false]
      exact ih
    · exact ih

theorem smFind_del_ne {α : Type} (m : SMap α) {x y : Nat} (h : y ≠ x) : smFind (smDel m x) y = smFind m y := by
  induction m with
  | nil => simp [smDel, smFind]
  | cons a m ih =>
    obtain ⟨k, w⟩ := a
    simp only [smDel, List.filter_cons] at ih ⊢
    split
    · simp only [smFind]
      rw [ih]
    · rename_i hk
      have hk' : k = x := by simpa using hk
      rw [ih]
      simp [smFind, hk', h]

/-- A key reads what was put there. -/
@[simp] theorem smGet_put_same {α : Type} [DecidableEq α] (m : SMap α) (d : α) (x : Nat) (v : α) :
    smGet (smPut m d x v) d x = v := by
  unfold smGet smPut
  split
  · rename_i h
    simp [smFind_del_same, h]
  · simp [smFind_ins_same]

/-- A write leaves every other key as it is. -/
theorem smGet_put_ne {α : Type} [DecidableEq α] (m : SMap α) (d d' : α) {x y : Nat} (v : α) (h : y ≠ x) :
    smGet (smPut m d x v) d' y = smGet m d' y := by
  unfold smGet smPut
  split
  · rw [smFind_del_ne m h]
  · rw [smFind_ins_ne m v h]

/-- `smPut` at one key, read at any. -/
theorem smGet_put {α : Type} [DecidableEq α] (m : SMap α) (d : α) (x y : Nat) (v : α) :
    smGet (smPut m d x v) d y = if y = x then v else smGet m d y := by
  split
  · rename_i h
    rw [h, smGet_put_same]
  · exact smGet_put_ne m d d v ‹_›

/-! ## The canonical form -/

/-- Every key of a sorted table is above the keys before it. -/
theorem smSorted_head {α : Type} (k : Nat) (v : α) (m : SMap α) (h : smSorted ((k, v) :: m) = true) :
    ∀ e ∈ m, k < e.1 := by
  induction m generalizing k v with
  | nil => simp
  | cons a m ih =>
    obtain ⟨k', v'⟩ := a
    simp only [smSorted, Bool.and_eq_true, decide_eq_true_eq] at h
    intro e he
    rcases List.mem_cons.mp he with rfl | he
    · exact h.1
    · exact Nat.lt_trans h.1 (ih k' v' h.2 e he)

theorem smSorted_tail {α : Type} (a : Nat × α) (m : SMap α) (h : smSorted (a :: m) = true) : smSorted m = true := by
  cases m with
  | nil => rfl
  | cons b m =>
    obtain ⟨k, v⟩ := a
    obtain ⟨k', v'⟩ := b
    simp only [smSorted, Bool.and_eq_true] at h
    exact h.2

theorem smSorted_cons {α : Type} (k : Nat) (v : α) (m : SMap α) (hm : smSorted m = true) (h : ∀ e ∈ m, k < e.1) :
    smSorted ((k, v) :: m) = true := by
  cases m with
  | nil => rfl
  | cons b m =>
    obtain ⟨k', v'⟩ := b
    simp only [smSorted, Bool.and_eq_true, decide_eq_true_eq]
    exact ⟨h (k', v') (by simp), hm⟩

theorem smSorted_filter {α : Type} (p : Nat × α → Bool) (m : SMap α) (h : smSorted m = true) :
    smSorted (m.filter p) = true := by
  induction m with
  | nil => simpa using h
  | cons a m ih =>
    obtain ⟨k, v⟩ := a
    have ht := ih (smSorted_tail _ _ h)
    simp only [List.filter_cons]
    split
    · exact smSorted_cons k v _ ht (fun e he => smSorted_head k v m h e (List.mem_filter.mp he).1)
    · exact ht

theorem smIns_mem {α : Type} (m : SMap α) (x : Nat) (v : α) (e : Nat × α) (h : e ∈ smIns m x v) : e = (x, v) ∨ e ∈ m := by
  induction m with
  | nil => simpa [smIns] using h
  | cons a m ih =>
    obtain ⟨k, w⟩ := a
    simp only [smIns] at h
    split at h
    · simpa using h
    · split at h
      · rcases List.mem_cons.mp h with h | h
        · exact Or.inl h
        · exact Or.inr (List.mem_cons_of_mem _ h)
      · rcases List.mem_cons.mp h with h | h
        · exact Or.inr (h ▸ List.mem_cons_self)
        · exact (ih h).imp id (List.mem_cons_of_mem _)

theorem smSorted_ins {α : Type} (m : SMap α) (x : Nat) (v : α) (h : smSorted m = true) : smSorted (smIns m x v) = true := by
  induction m with
  | nil => rfl
  | cons a m ih =>
    obtain ⟨k, w⟩ := a
    have hk := smSorted_head k w m h
    simp only [smIns]
    split
    · rename_i hx
      refine smSorted_cons x v _ h (fun e he => ?_)
      rcases List.mem_cons.mp he with rfl | he
      · exact hx
      · exact Nat.lt_trans hx (hk e he)
    · split
      · rename_i h1 h2
        exact smSorted_cons x v m (smSorted_tail _ _ h) (fun e he => h2 ▸ hk e he)
      · rename_i h1 h2
        refine smSorted_cons k w _ (ih (smSorted_tail _ _ h)) (fun e he => ?_)
        rcases smIns_mem m x v e he with rfl | he
        · exact Nat.lt_of_le_of_ne (Nat.le_of_not_lt h1) (Ne.symm h2)
        · exact hk e he

/-- A canonical table in parts. -/
theorem smWf_iff {α : Type} [DecidableEq α] (d : α) (m : SMap α) :
    smWf d m = true ↔ smSorted m = true ∧ ∀ e ∈ m, e.2 ≠ d := by
  simp [smWf, List.all_eq_true]

/-- A write keeps the canonical form. -/
theorem smWf_put {α : Type} [DecidableEq α] (m : SMap α) (d : α) (x : Nat) (v : α) (h : smWf d m = true) :
    smWf d (smPut m d x v) = true := by
  rw [smWf_iff] at h ⊢
  unfold smPut
  split
  · exact ⟨smSorted_filter _ m h.1, fun e he => h.2 e (List.mem_filter.mp he).1⟩
  · refine ⟨smSorted_ins m x v h.1, fun e he => ?_⟩
    rcases smIns_mem m x v e he with rfl | he
    · assumption
    · exact h.2 e he

/-- Leaving entries out keeps the canonical form. -/
theorem smWf_filter {α : Type} [DecidableEq α] (m : SMap α) (d : α) (p : Nat × α → Bool) (h : smWf d m = true) :
    smWf d (m.filter p) = true := by
  rw [smWf_iff] at h ⊢
  exact ⟨smSorted_filter p m h.1, fun e he => h.2 e (List.mem_filter.mp he).1⟩

/-- The empty table is canonical. -/
theorem smWf_nil {α : Type} [DecidableEq α] (d : α) : smWf d ([] : SMap α) = true := by simp [smWf, smSorted]

end Sys2Proof.Machine
end

