-- ==== Sys2Proof/Laws/State.lean ====
section
/-! SUPPORT. One lemma per field per update of State, and reading a register field after a write. -/

namespace Sys2Proof.Machine

variable (s : State)

/-! ## wr -/
@[simp] theorem State.wr_pending (f : Field) (v i j : Nat) : (s.wr f v i j).pending = s.pending := rfl
@[simp] theorem State.wr_phase (f : Field) (v i j : Nat) : (s.wr f v i j).phase = s.phase := rfl
@[simp] theorem State.wr_latch (f : Field) (v i j : Nat) : (s.wr f v i j).latch = s.latch := rfl
@[simp] theorem State.wr_mem (f : Field) (v i j : Nat) : (s.wr f v i j).mem = s.mem := rfl
@[simp] theorem State.wr_poison (f : Field) (v i j : Nat) : (s.wr f v i j).poison = s.poison := rfl
@[simp] theorem State.wr_upset (f : Field) (v i j : Nat) : (s.wr f v i j).upset = s.upset := rfl
@[simp] theorem State.wr_rowTab (f : Field) (v i j : Nat) : (s.wr f v i j).rowTab = s.rowTab := rfl
@[simp] theorem State.wr_pipeTab (f : Field) (v i j : Nat) : (s.wr f v i j).pipeTab = s.pipeTab := rfl
@[simp] theorem State.wr_msix (f : Field) (v i j : Nat) : (s.wr f v i j).msix = s.msix := rfl
@[simp] theorem State.wr_pba (f : Field) (v i j : Nat) : (s.wr f v i j).pba = s.pba := rfl
@[simp] theorem State.wr_func (f : Field) (v i j : Nat) : (s.wr f v i j).func = s.func := rfl
@[simp] theorem State.wr_vlog (f : Field) (v i j : Nat) : (s.wr f v i j).vlog = s.vlog := rfl
@[simp] theorem State.wr_evc (f : Field) (v i j : Nat) : (s.wr f v i j).evc = s.evc := rfl
@[simp] theorem State.wr_faultN (f : Field) (v i j : Nat) : (s.wr f v i j).faultN = s.faultN := rfl
@[simp] theorem State.wr_track (f : Field) (v i j : Nat) : (s.wr f v i j).track = s.track := rfl
@[simp] theorem State.wr_marker (f : Field) (v i j : Nat) : (s.wr f v i j).marker = s.marker := rfl
@[simp] theorem State.wr_frame (f : Field) (v i j : Nat) : (s.wr f v i j).frame = s.frame := rfl
@[simp] theorem State.wr_tsc (f : Field) (v i j : Nat) : (s.wr f v i j).tsc = s.tsc := rfl
@[simp] theorem State.wr_eng (f : Field) (v i j : Nat) : (s.wr f v i j).eng = s.eng := rfl
@[simp] theorem State.wr_swap (f : Field) (v i j : Nat) : (s.wr f v i j).swap = s.swap := rfl
@[simp] theorem State.wr_wq (f : Field) (v i j : Nat) : (s.wr f v i j).wq = s.wq := rfl
@[simp] theorem State.wr_hostReads (f : Field) (v i j : Nat) : (s.wr f v i j).hostReads = s.hostReads := rfl
@[simp] theorem State.wr_xlat (f : Field) (v i j : Nat) : (s.wr f v i j).xlat = s.xlat := rfl
@[simp] theorem State.wr_fetch (f : Field) (v i j : Nat) : (s.wr f v i j).fetch = s.fetch := rfl
@[simp] theorem State.wr_heldJobs (f : Field) (v i j : Nat) : (s.wr f v i j).heldJobs = s.heldJobs := rfl
@[simp] theorem State.wr_bufUse (f : Field) (v i j : Nat) : (s.wr f v i j).bufUse = s.bufUse := rfl
@[simp] theorem State.wr_port (f : Field) (v i j : Nat) : (s.wr f v i j).port = s.port := rfl
@[simp] theorem State.wr_dma (f : Field) (v i j : Nat) : (s.wr f v i j).dma = s.dma := rfl
@[simp] theorem State.wr_cmds (f : Field) (v i j : Nat) : (s.wr f v i j).cmds = s.cmds := rfl
@[simp] theorem State.wr_fuse (f : Field) (v i j : Nat) : (s.wr f v i j).fuse = s.fuse := rfl
@[simp] theorem State.wr_hlt (f : Field) (v i j : Nat) : (s.wr f v i j).hlt = s.hlt := rfl
@[simp] theorem State.wr_pwr (f : Field) (v i j : Nat) : (s.wr f v i j).pwr = s.pwr := rfl
@[simp] theorem State.wr_boot (f : Field) (v i j : Nat) : (s.wr f v i j).boot = s.boot := rfl
@[simp] theorem State.wr_ddr (f : Field) (v i j : Nat) : (s.wr f v i j).ddr = s.ddr := rfl
@[simp] theorem State.wr_out (f : Field) (v i j : Nat) : (s.wr f v i j).out = s.out := rfl
@[simp] theorem State.wr_free (f : Field) (v i j : Nat) : (s.wr f v i j).free = s.free := rfl
/-! ## emit -/
@[simp] theorem State.emit_pending (o : Output) : (s.emit o).pending = s.pending := rfl
@[simp] theorem State.emit_phase (o : Output) : (s.emit o).phase = s.phase := rfl
@[simp] theorem State.emit_regs (o : Output) : (s.emit o).regs = s.regs := rfl
@[simp] theorem State.emit_latch (o : Output) : (s.emit o).latch = s.latch := rfl
@[simp] theorem State.emit_mem (o : Output) : (s.emit o).mem = s.mem := rfl
@[simp] theorem State.emit_poison (o : Output) : (s.emit o).poison = s.poison := rfl
@[simp] theorem State.emit_upset (o : Output) : (s.emit o).upset = s.upset := rfl
@[simp] theorem State.emit_rowTab (o : Output) : (s.emit o).rowTab = s.rowTab := rfl
@[simp] theorem State.emit_pipeTab (o : Output) : (s.emit o).pipeTab = s.pipeTab := rfl
@[simp] theorem State.emit_msix (o : Output) : (s.emit o).msix = s.msix := rfl
@[simp] theorem State.emit_pba (o : Output) : (s.emit o).pba = s.pba := rfl
@[simp] theorem State.emit_func (o : Output) : (s.emit o).func = s.func := rfl
@[simp] theorem State.emit_vlog (o : Output) : (s.emit o).vlog = s.vlog := rfl
@[simp] theorem State.emit_evc (o : Output) : (s.emit o).evc = s.evc := rfl
@[simp] theorem State.emit_faultN (o : Output) : (s.emit o).faultN = s.faultN := rfl
@[simp] theorem State.emit_track (o : Output) : (s.emit o).track = s.track := rfl
@[simp] theorem State.emit_marker (o : Output) : (s.emit o).marker = s.marker := rfl
@[simp] theorem State.emit_frame (o : Output) : (s.emit o).frame = s.frame := rfl
@[simp] theorem State.emit_tsc (o : Output) : (s.emit o).tsc = s.tsc := rfl
@[simp] theorem State.emit_eng (o : Output) : (s.emit o).eng = s.eng := rfl
@[simp] theorem State.emit_swap (o : Output) : (s.emit o).swap = s.swap := rfl
@[simp] theorem State.emit_wq (o : Output) : (s.emit o).wq = s.wq := rfl
@[simp] theorem State.emit_hostReads (o : Output) : (s.emit o).hostReads = s.hostReads := rfl
@[simp] theorem State.emit_xlat (o : Output) : (s.emit o).xlat = s.xlat := rfl
@[simp] theorem State.emit_fetch (o : Output) : (s.emit o).fetch = s.fetch := rfl
@[simp] theorem State.emit_heldJobs (o : Output) : (s.emit o).heldJobs = s.heldJobs := rfl
@[simp] theorem State.emit_bufUse (o : Output) : (s.emit o).bufUse = s.bufUse := rfl
@[simp] theorem State.emit_port (o : Output) : (s.emit o).port = s.port := rfl
@[simp] theorem State.emit_dma (o : Output) : (s.emit o).dma = s.dma := rfl
@[simp] theorem State.emit_cmds (o : Output) : (s.emit o).cmds = s.cmds := rfl
@[simp] theorem State.emit_fuse (o : Output) : (s.emit o).fuse = s.fuse := rfl
@[simp] theorem State.emit_hlt (o : Output) : (s.emit o).hlt = s.hlt := rfl
@[simp] theorem State.emit_pwr (o : Output) : (s.emit o).pwr = s.pwr := rfl
@[simp] theorem State.emit_boot (o : Output) : (s.emit o).boot = s.boot := rfl
@[simp] theorem State.emit_ddr (o : Output) : (s.emit o).ddr = s.ddr := rfl
@[simp] theorem State.emit_free (o : Output) : (s.emit o).free = s.free := rfl
/-! ## setTrack -/
@[simp] theorem State.setTrack_pending (t : Nat) (x : Track) : (s.setTrack t x).pending = s.pending := rfl
@[simp] theorem State.setTrack_phase (t : Nat) (x : Track) : (s.setTrack t x).phase = s.phase := rfl
@[simp] theorem State.setTrack_regs (t : Nat) (x : Track) : (s.setTrack t x).regs = s.regs := rfl
@[simp] theorem State.setTrack_latch (t : Nat) (x : Track) : (s.setTrack t x).latch = s.latch := rfl
@[simp] theorem State.setTrack_mem (t : Nat) (x : Track) : (s.setTrack t x).mem = s.mem := rfl
@[simp] theorem State.setTrack_poison (t : Nat) (x : Track) : (s.setTrack t x).poison = s.poison := rfl
@[simp] theorem State.setTrack_upset (t : Nat) (x : Track) : (s.setTrack t x).upset = s.upset := rfl
@[simp] theorem State.setTrack_rowTab (t : Nat) (x : Track) : (s.setTrack t x).rowTab = s.rowTab := rfl
@[simp] theorem State.setTrack_pipeTab (t : Nat) (x : Track) : (s.setTrack t x).pipeTab = s.pipeTab := rfl
@[simp] theorem State.setTrack_msix (t : Nat) (x : Track) : (s.setTrack t x).msix = s.msix := rfl
@[simp] theorem State.setTrack_pba (t : Nat) (x : Track) : (s.setTrack t x).pba = s.pba := rfl
@[simp] theorem State.setTrack_func (t : Nat) (x : Track) : (s.setTrack t x).func = s.func := rfl
@[simp] theorem State.setTrack_vlog (t : Nat) (x : Track) : (s.setTrack t x).vlog = s.vlog := rfl
@[simp] theorem State.setTrack_evc (t : Nat) (x : Track) : (s.setTrack t x).evc = s.evc := rfl
@[simp] theorem State.setTrack_faultN (t : Nat) (x : Track) : (s.setTrack t x).faultN = s.faultN := rfl
@[simp] theorem State.setTrack_marker (t : Nat) (x : Track) : (s.setTrack t x).marker = s.marker := rfl
@[simp] theorem State.setTrack_frame (t : Nat) (x : Track) : (s.setTrack t x).frame = s.frame := rfl
@[simp] theorem State.setTrack_tsc (t : Nat) (x : Track) : (s.setTrack t x).tsc = s.tsc := rfl
@[simp] theorem State.setTrack_eng (t : Nat) (x : Track) : (s.setTrack t x).eng = s.eng := rfl
@[simp] theorem State.setTrack_swap (t : Nat) (x : Track) : (s.setTrack t x).swap = s.swap := rfl
@[simp] theorem State.setTrack_wq (t : Nat) (x : Track) : (s.setTrack t x).wq = s.wq := rfl
@[simp] theorem State.setTrack_hostReads (t : Nat) (x : Track) : (s.setTrack t x).hostReads = s.hostReads := rfl
@[simp] theorem State.setTrack_xlat (t : Nat) (x : Track) : (s.setTrack t x).xlat = s.xlat := rfl
@[simp] theorem State.setTrack_fetch (t : Nat) (x : Track) : (s.setTrack t x).fetch = s.fetch := rfl
@[simp] theorem State.setTrack_heldJobs (t : Nat) (x : Track) : (s.setTrack t x).heldJobs = s.heldJobs := rfl
@[simp] theorem State.setTrack_bufUse (t : Nat) (x : Track) : (s.setTrack t x).bufUse = s.bufUse := rfl
@[simp] theorem State.setTrack_port (t : Nat) (x : Track) : (s.setTrack t x).port = s.port := rfl
@[simp] theorem State.setTrack_dma (t : Nat) (x : Track) : (s.setTrack t x).dma = s.dma := rfl
@[simp] theorem State.setTrack_cmds (t : Nat) (x : Track) : (s.setTrack t x).cmds = s.cmds := rfl
@[simp] theorem State.setTrack_fuse (t : Nat) (x : Track) : (s.setTrack t x).fuse = s.fuse := rfl
@[simp] theorem State.setTrack_hlt (t : Nat) (x : Track) : (s.setTrack t x).hlt = s.hlt := rfl
@[simp] theorem State.setTrack_pwr (t : Nat) (x : Track) : (s.setTrack t x).pwr = s.pwr := rfl
@[simp] theorem State.setTrack_boot (t : Nat) (x : Track) : (s.setTrack t x).boot = s.boot := rfl
@[simp] theorem State.setTrack_ddr (t : Nat) (x : Track) : (s.setTrack t x).ddr = s.ddr := rfl
@[simp] theorem State.setTrack_out (t : Nat) (x : Track) : (s.setTrack t x).out = s.out := rfl
@[simp] theorem State.setTrack_free (t : Nat) (x : Track) : (s.setTrack t x).free = s.free := rfl
/-! ## setMarker -/
@[simp] theorem State.setMarker_pending (m : Nat) (x : Marker) : (s.setMarker m x).pending = s.pending := rfl
@[simp] theorem State.setMarker_phase (m : Nat) (x : Marker) : (s.setMarker m x).phase = s.phase := rfl
@[simp] theorem State.setMarker_regs (m : Nat) (x : Marker) : (s.setMarker m x).regs = s.regs := rfl
@[simp] theorem State.setMarker_latch (m : Nat) (x : Marker) : (s.setMarker m x).latch = s.latch := rfl
@[simp] theorem State.setMarker_mem (m : Nat) (x : Marker) : (s.setMarker m x).mem = s.mem := rfl
@[simp] theorem State.setMarker_poison (m : Nat) (x : Marker) : (s.setMarker m x).poison = s.poison := rfl
@[simp] theorem State.setMarker_upset (m : Nat) (x : Marker) : (s.setMarker m x).upset = s.upset := rfl
@[simp] theorem State.setMarker_rowTab (m : Nat) (x : Marker) : (s.setMarker m x).rowTab = s.rowTab := rfl
@[simp] theorem State.setMarker_pipeTab (m : Nat) (x : Marker) : (s.setMarker m x).pipeTab = s.pipeTab := rfl
@[simp] theorem State.setMarker_msix (m : Nat) (x : Marker) : (s.setMarker m x).msix = s.msix := rfl
@[simp] theorem State.setMarker_pba (m : Nat) (x : Marker) : (s.setMarker m x).pba = s.pba := rfl
@[simp] theorem State.setMarker_func (m : Nat) (x : Marker) : (s.setMarker m x).func = s.func := rfl
@[simp] theorem State.setMarker_vlog (m : Nat) (x : Marker) : (s.setMarker m x).vlog = s.vlog := rfl
@[simp] theorem State.setMarker_evc (m : Nat) (x : Marker) : (s.setMarker m x).evc = s.evc := rfl
@[simp] theorem State.setMarker_faultN (m : Nat) (x : Marker) : (s.setMarker m x).faultN = s.faultN := rfl
@[simp] theorem State.setMarker_track (m : Nat) (x : Marker) : (s.setMarker m x).track = s.track := rfl
@[simp] theorem State.setMarker_frame (m : Nat) (x : Marker) : (s.setMarker m x).frame = s.frame := rfl
@[simp] theorem State.setMarker_tsc (m : Nat) (x : Marker) : (s.setMarker m x).tsc = s.tsc := rfl
@[simp] theorem State.setMarker_eng (m : Nat) (x : Marker) : (s.setMarker m x).eng = s.eng := rfl
@[simp] theorem State.setMarker_swap (m : Nat) (x : Marker) : (s.setMarker m x).swap = s.swap := rfl
@[simp] theorem State.setMarker_wq (m : Nat) (x : Marker) : (s.setMarker m x).wq = s.wq := rfl
@[simp] theorem State.setMarker_hostReads (m : Nat) (x : Marker) : (s.setMarker m x).hostReads = s.hostReads := rfl
@[simp] theorem State.setMarker_xlat (m : Nat) (x : Marker) : (s.setMarker m x).xlat = s.xlat := rfl
@[simp] theorem State.setMarker_fetch (m : Nat) (x : Marker) : (s.setMarker m x).fetch = s.fetch := rfl
@[simp] theorem State.setMarker_heldJobs (m : Nat) (x : Marker) : (s.setMarker m x).heldJobs = s.heldJobs := rfl
@[simp] theorem State.setMarker_bufUse (m : Nat) (x : Marker) : (s.setMarker m x).bufUse = s.bufUse := rfl
@[simp] theorem State.setMarker_port (m : Nat) (x : Marker) : (s.setMarker m x).port = s.port := rfl
@[simp] theorem State.setMarker_dma (m : Nat) (x : Marker) : (s.setMarker m x).dma = s.dma := rfl
@[simp] theorem State.setMarker_cmds (m : Nat) (x : Marker) : (s.setMarker m x).cmds = s.cmds := rfl
@[simp] theorem State.setMarker_fuse (m : Nat) (x : Marker) : (s.setMarker m x).fuse = s.fuse := rfl
@[simp] theorem State.setMarker_hlt (m : Nat) (x : Marker) : (s.setMarker m x).hlt = s.hlt := rfl
@[simp] theorem State.setMarker_pwr (m : Nat) (x : Marker) : (s.setMarker m x).pwr = s.pwr := rfl
@[simp] theorem State.setMarker_boot (m : Nat) (x : Marker) : (s.setMarker m x).boot = s.boot := rfl
@[simp] theorem State.setMarker_ddr (m : Nat) (x : Marker) : (s.setMarker m x).ddr = s.ddr := rfl
@[simp] theorem State.setMarker_out (m : Nat) (x : Marker) : (s.setMarker m x).out = s.out := rfl
@[simp] theorem State.setMarker_free (m : Nat) (x : Marker) : (s.setMarker m x).free = s.free := rfl
/-! ## setFrame -/
@[simp] theorem State.setFrame_pending (p : Nat) (x : FrameSt) : (s.setFrame p x).pending = s.pending := rfl
@[simp] theorem State.setFrame_phase (p : Nat) (x : FrameSt) : (s.setFrame p x).phase = s.phase := rfl
@[simp] theorem State.setFrame_regs (p : Nat) (x : FrameSt) : (s.setFrame p x).regs = s.regs := rfl
@[simp] theorem State.setFrame_latch (p : Nat) (x : FrameSt) : (s.setFrame p x).latch = s.latch := rfl
@[simp] theorem State.setFrame_mem (p : Nat) (x : FrameSt) : (s.setFrame p x).mem = s.mem := rfl
@[simp] theorem State.setFrame_poison (p : Nat) (x : FrameSt) : (s.setFrame p x).poison = s.poison := rfl
@[simp] theorem State.setFrame_upset (p : Nat) (x : FrameSt) : (s.setFrame p x).upset = s.upset := rfl
@[simp] theorem State.setFrame_rowTab (p : Nat) (x : FrameSt) : (s.setFrame p x).rowTab = s.rowTab := rfl
@[simp] theorem State.setFrame_pipeTab (p : Nat) (x : FrameSt) : (s.setFrame p x).pipeTab = s.pipeTab := rfl
@[simp] theorem State.setFrame_msix (p : Nat) (x : FrameSt) : (s.setFrame p x).msix = s.msix := rfl
@[simp] theorem State.setFrame_pba (p : Nat) (x : FrameSt) : (s.setFrame p x).pba = s.pba := rfl
@[simp] theorem State.setFrame_func (p : Nat) (x : FrameSt) : (s.setFrame p x).func = s.func := rfl
@[simp] theorem State.setFrame_vlog (p : Nat) (x : FrameSt) : (s.setFrame p x).vlog = s.vlog := rfl
@[simp] theorem State.setFrame_evc (p : Nat) (x : FrameSt) : (s.setFrame p x).evc = s.evc := rfl
@[simp] theorem State.setFrame_faultN (p : Nat) (x : FrameSt) : (s.setFrame p x).faultN = s.faultN := rfl
@[simp] theorem State.setFrame_track (p : Nat) (x : FrameSt) : (s.setFrame p x).track = s.track := rfl
@[simp] theorem State.setFrame_marker (p : Nat) (x : FrameSt) : (s.setFrame p x).marker = s.marker := rfl
@[simp] theorem State.setFrame_tsc (p : Nat) (x : FrameSt) : (s.setFrame p x).tsc = s.tsc := rfl
@[simp] theorem State.setFrame_eng (p : Nat) (x : FrameSt) : (s.setFrame p x).eng = s.eng := rfl
@[simp] theorem State.setFrame_swap (p : Nat) (x : FrameSt) : (s.setFrame p x).swap = s.swap := rfl
@[simp] theorem State.setFrame_wq (p : Nat) (x : FrameSt) : (s.setFrame p x).wq = s.wq := rfl
@[simp] theorem State.setFrame_hostReads (p : Nat) (x : FrameSt) : (s.setFrame p x).hostReads = s.hostReads := rfl
@[simp] theorem State.setFrame_xlat (p : Nat) (x : FrameSt) : (s.setFrame p x).xlat = s.xlat := rfl
@[simp] theorem State.setFrame_fetch (p : Nat) (x : FrameSt) : (s.setFrame p x).fetch = s.fetch := rfl
@[simp] theorem State.setFrame_heldJobs (p : Nat) (x : FrameSt) : (s.setFrame p x).heldJobs = s.heldJobs := rfl
@[simp] theorem State.setFrame_bufUse (p : Nat) (x : FrameSt) : (s.setFrame p x).bufUse = s.bufUse := rfl
@[simp] theorem State.setFrame_port (p : Nat) (x : FrameSt) : (s.setFrame p x).port = s.port := rfl
@[simp] theorem State.setFrame_dma (p : Nat) (x : FrameSt) : (s.setFrame p x).dma = s.dma := rfl
@[simp] theorem State.setFrame_cmds (p : Nat) (x : FrameSt) : (s.setFrame p x).cmds = s.cmds := rfl
@[simp] theorem State.setFrame_fuse (p : Nat) (x : FrameSt) : (s.setFrame p x).fuse = s.fuse := rfl
@[simp] theorem State.setFrame_hlt (p : Nat) (x : FrameSt) : (s.setFrame p x).hlt = s.hlt := rfl
@[simp] theorem State.setFrame_pwr (p : Nat) (x : FrameSt) : (s.setFrame p x).pwr = s.pwr := rfl
@[simp] theorem State.setFrame_boot (p : Nat) (x : FrameSt) : (s.setFrame p x).boot = s.boot := rfl
@[simp] theorem State.setFrame_ddr (p : Nat) (x : FrameSt) : (s.setFrame p x).ddr = s.ddr := rfl
@[simp] theorem State.setFrame_out (p : Nat) (x : FrameSt) : (s.setFrame p x).out = s.out := rfl
@[simp] theorem State.setFrame_free (p : Nat) (x : FrameSt) : (s.setFrame p x).free = s.free := rfl
/-! ## setEng -/
@[simp] theorem State.setEng_pending (e : Nat) (x : Eng) : (s.setEng e x).pending = s.pending := rfl
@[simp] theorem State.setEng_phase (e : Nat) (x : Eng) : (s.setEng e x).phase = s.phase := rfl
@[simp] theorem State.setEng_regs (e : Nat) (x : Eng) : (s.setEng e x).regs = s.regs := rfl
@[simp] theorem State.setEng_latch (e : Nat) (x : Eng) : (s.setEng e x).latch = s.latch := rfl
@[simp] theorem State.setEng_mem (e : Nat) (x : Eng) : (s.setEng e x).mem = s.mem := rfl
@[simp] theorem State.setEng_poison (e : Nat) (x : Eng) : (s.setEng e x).poison = s.poison := rfl
@[simp] theorem State.setEng_upset (e : Nat) (x : Eng) : (s.setEng e x).upset = s.upset := rfl
@[simp] theorem State.setEng_rowTab (e : Nat) (x : Eng) : (s.setEng e x).rowTab = s.rowTab := rfl
@[simp] theorem State.setEng_pipeTab (e : Nat) (x : Eng) : (s.setEng e x).pipeTab = s.pipeTab := rfl
@[simp] theorem State.setEng_msix (e : Nat) (x : Eng) : (s.setEng e x).msix = s.msix := rfl
@[simp] theorem State.setEng_pba (e : Nat) (x : Eng) : (s.setEng e x).pba = s.pba := rfl
@[simp] theorem State.setEng_func (e : Nat) (x : Eng) : (s.setEng e x).func = s.func := rfl
@[simp] theorem State.setEng_vlog (e : Nat) (x : Eng) : (s.setEng e x).vlog = s.vlog := rfl
@[simp] theorem State.setEng_evc (e : Nat) (x : Eng) : (s.setEng e x).evc = s.evc := rfl
@[simp] theorem State.setEng_faultN (e : Nat) (x : Eng) : (s.setEng e x).faultN = s.faultN := rfl
@[simp] theorem State.setEng_track (e : Nat) (x : Eng) : (s.setEng e x).track = s.track := rfl
@[simp] theorem State.setEng_marker (e : Nat) (x : Eng) : (s.setEng e x).marker = s.marker := rfl
@[simp] theorem State.setEng_frame (e : Nat) (x : Eng) : (s.setEng e x).frame = s.frame := rfl
@[simp] theorem State.setEng_tsc (e : Nat) (x : Eng) : (s.setEng e x).tsc = s.tsc := rfl
@[simp] theorem State.setEng_swap (e : Nat) (x : Eng) : (s.setEng e x).swap = s.swap := rfl
@[simp] theorem State.setEng_wq (e : Nat) (x : Eng) : (s.setEng e x).wq = s.wq := rfl
@[simp] theorem State.setEng_hostReads (e : Nat) (x : Eng) : (s.setEng e x).hostReads = s.hostReads := rfl
@[simp] theorem State.setEng_xlat (e : Nat) (x : Eng) : (s.setEng e x).xlat = s.xlat := rfl
@[simp] theorem State.setEng_fetch (e : Nat) (x : Eng) : (s.setEng e x).fetch = s.fetch := rfl
@[simp] theorem State.setEng_heldJobs (e : Nat) (x : Eng) : (s.setEng e x).heldJobs = s.heldJobs := rfl
@[simp] theorem State.setEng_bufUse (e : Nat) (x : Eng) : (s.setEng e x).bufUse = s.bufUse := rfl
@[simp] theorem State.setEng_port (e : Nat) (x : Eng) : (s.setEng e x).port = s.port := rfl
@[simp] theorem State.setEng_dma (e : Nat) (x : Eng) : (s.setEng e x).dma = s.dma := rfl
@[simp] theorem State.setEng_cmds (e : Nat) (x : Eng) : (s.setEng e x).cmds = s.cmds := rfl
@[simp] theorem State.setEng_fuse (e : Nat) (x : Eng) : (s.setEng e x).fuse = s.fuse := rfl
@[simp] theorem State.setEng_hlt (e : Nat) (x : Eng) : (s.setEng e x).hlt = s.hlt := rfl
@[simp] theorem State.setEng_pwr (e : Nat) (x : Eng) : (s.setEng e x).pwr = s.pwr := rfl
@[simp] theorem State.setEng_boot (e : Nat) (x : Eng) : (s.setEng e x).boot = s.boot := rfl
@[simp] theorem State.setEng_ddr (e : Nat) (x : Eng) : (s.setEng e x).ddr = s.ddr := rfl
@[simp] theorem State.setEng_out (e : Nat) (x : Eng) : (s.setEng e x).out = s.out := rfl
@[simp] theorem State.setEng_free (e : Nat) (x : Eng) : (s.setEng e x).free = s.free := rfl
/-! ## setFunc -/
@[simp] theorem State.setFunc_pending (i : Nat) (x : Func) : (s.setFunc i x).pending = s.pending := rfl
@[simp] theorem State.setFunc_phase (i : Nat) (x : Func) : (s.setFunc i x).phase = s.phase := rfl
@[simp] theorem State.setFunc_regs (i : Nat) (x : Func) : (s.setFunc i x).regs = s.regs := rfl
@[simp] theorem State.setFunc_latch (i : Nat) (x : Func) : (s.setFunc i x).latch = s.latch := rfl
@[simp] theorem State.setFunc_mem (i : Nat) (x : Func) : (s.setFunc i x).mem = s.mem := rfl
@[simp] theorem State.setFunc_poison (i : Nat) (x : Func) : (s.setFunc i x).poison = s.poison := rfl
@[simp] theorem State.setFunc_upset (i : Nat) (x : Func) : (s.setFunc i x).upset = s.upset := rfl
@[simp] theorem State.setFunc_rowTab (i : Nat) (x : Func) : (s.setFunc i x).rowTab = s.rowTab := rfl
@[simp] theorem State.setFunc_pipeTab (i : Nat) (x : Func) : (s.setFunc i x).pipeTab = s.pipeTab := rfl
@[simp] theorem State.setFunc_msix (i : Nat) (x : Func) : (s.setFunc i x).msix = s.msix := rfl
@[simp] theorem State.setFunc_pba (i : Nat) (x : Func) : (s.setFunc i x).pba = s.pba := rfl
@[simp] theorem State.setFunc_vlog (i : Nat) (x : Func) : (s.setFunc i x).vlog = s.vlog := rfl
@[simp] theorem State.setFunc_evc (i : Nat) (x : Func) : (s.setFunc i x).evc = s.evc := rfl
@[simp] theorem State.setFunc_faultN (i : Nat) (x : Func) : (s.setFunc i x).faultN = s.faultN := rfl
@[simp] theorem State.setFunc_track (i : Nat) (x : Func) : (s.setFunc i x).track = s.track := rfl
@[simp] theorem State.setFunc_marker (i : Nat) (x : Func) : (s.setFunc i x).marker = s.marker := rfl
@[simp] theorem State.setFunc_frame (i : Nat) (x : Func) : (s.setFunc i x).frame = s.frame := rfl
@[simp] theorem State.setFunc_tsc (i : Nat) (x : Func) : (s.setFunc i x).tsc = s.tsc := rfl
@[simp] theorem State.setFunc_eng (i : Nat) (x : Func) : (s.setFunc i x).eng = s.eng := rfl
@[simp] theorem State.setFunc_swap (i : Nat) (x : Func) : (s.setFunc i x).swap = s.swap := rfl
@[simp] theorem State.setFunc_wq (i : Nat) (x : Func) : (s.setFunc i x).wq = s.wq := rfl
@[simp] theorem State.setFunc_hostReads (i : Nat) (x : Func) : (s.setFunc i x).hostReads = s.hostReads := rfl
@[simp] theorem State.setFunc_xlat (i : Nat) (x : Func) : (s.setFunc i x).xlat = s.xlat := rfl
@[simp] theorem State.setFunc_fetch (i : Nat) (x : Func) : (s.setFunc i x).fetch = s.fetch := rfl
@[simp] theorem State.setFunc_heldJobs (i : Nat) (x : Func) : (s.setFunc i x).heldJobs = s.heldJobs := rfl
@[simp] theorem State.setFunc_bufUse (i : Nat) (x : Func) : (s.setFunc i x).bufUse = s.bufUse := rfl
@[simp] theorem State.setFunc_port (i : Nat) (x : Func) : (s.setFunc i x).port = s.port := rfl
@[simp] theorem State.setFunc_dma (i : Nat) (x : Func) : (s.setFunc i x).dma = s.dma := rfl
@[simp] theorem State.setFunc_cmds (i : Nat) (x : Func) : (s.setFunc i x).cmds = s.cmds := rfl
@[simp] theorem State.setFunc_fuse (i : Nat) (x : Func) : (s.setFunc i x).fuse = s.fuse := rfl
@[simp] theorem State.setFunc_hlt (i : Nat) (x : Func) : (s.setFunc i x).hlt = s.hlt := rfl
@[simp] theorem State.setFunc_pwr (i : Nat) (x : Func) : (s.setFunc i x).pwr = s.pwr := rfl
@[simp] theorem State.setFunc_boot (i : Nat) (x : Func) : (s.setFunc i x).boot = s.boot := rfl
@[simp] theorem State.setFunc_ddr (i : Nat) (x : Func) : (s.setFunc i x).ddr = s.ddr := rfl
@[simp] theorem State.setFunc_out (i : Nat) (x : Func) : (s.setFunc i x).out = s.out := rfl
@[simp] theorem State.setFunc_free (i : Nat) (x : Func) : (s.setFunc i x).free = s.free := rfl
/-! ## setPort -/
@[simp] theorem State.setPort_pending (p : Nat) (x : Port) : (s.setPort p x).pending = s.pending := rfl
@[simp] theorem State.setPort_phase (p : Nat) (x : Port) : (s.setPort p x).phase = s.phase := rfl
@[simp] theorem State.setPort_regs (p : Nat) (x : Port) : (s.setPort p x).regs = s.regs := rfl
@[simp] theorem State.setPort_latch (p : Nat) (x : Port) : (s.setPort p x).latch = s.latch := rfl
@[simp] theorem State.setPort_mem (p : Nat) (x : Port) : (s.setPort p x).mem = s.mem := rfl
@[simp] theorem State.setPort_poison (p : Nat) (x : Port) : (s.setPort p x).poison = s.poison := rfl
@[simp] theorem State.setPort_upset (p : Nat) (x : Port) : (s.setPort p x).upset = s.upset := rfl
@[simp] theorem State.setPort_rowTab (p : Nat) (x : Port) : (s.setPort p x).rowTab = s.rowTab := rfl
@[simp] theorem State.setPort_pipeTab (p : Nat) (x : Port) : (s.setPort p x).pipeTab = s.pipeTab := rfl
@[simp] theorem State.setPort_msix (p : Nat) (x : Port) : (s.setPort p x).msix = s.msix := rfl
@[simp] theorem State.setPort_pba (p : Nat) (x : Port) : (s.setPort p x).pba = s.pba := rfl
@[simp] theorem State.setPort_func (p : Nat) (x : Port) : (s.setPort p x).func = s.func := rfl
@[simp] theorem State.setPort_vlog (p : Nat) (x : Port) : (s.setPort p x).vlog = s.vlog := rfl
@[simp] theorem State.setPort_evc (p : Nat) (x : Port) : (s.setPort p x).evc = s.evc := rfl
@[simp] theorem State.setPort_faultN (p : Nat) (x : Port) : (s.setPort p x).faultN = s.faultN := rfl
@[simp] theorem State.setPort_track (p : Nat) (x : Port) : (s.setPort p x).track = s.track := rfl
@[simp] theorem State.setPort_marker (p : Nat) (x : Port) : (s.setPort p x).marker = s.marker := rfl
@[simp] theorem State.setPort_frame (p : Nat) (x : Port) : (s.setPort p x).frame = s.frame := rfl
@[simp] theorem State.setPort_tsc (p : Nat) (x : Port) : (s.setPort p x).tsc = s.tsc := rfl
@[simp] theorem State.setPort_eng (p : Nat) (x : Port) : (s.setPort p x).eng = s.eng := rfl
@[simp] theorem State.setPort_swap (p : Nat) (x : Port) : (s.setPort p x).swap = s.swap := rfl
@[simp] theorem State.setPort_wq (p : Nat) (x : Port) : (s.setPort p x).wq = s.wq := rfl
@[simp] theorem State.setPort_hostReads (p : Nat) (x : Port) : (s.setPort p x).hostReads = s.hostReads := rfl
@[simp] theorem State.setPort_xlat (p : Nat) (x : Port) : (s.setPort p x).xlat = s.xlat := rfl
@[simp] theorem State.setPort_fetch (p : Nat) (x : Port) : (s.setPort p x).fetch = s.fetch := rfl
@[simp] theorem State.setPort_heldJobs (p : Nat) (x : Port) : (s.setPort p x).heldJobs = s.heldJobs := rfl
@[simp] theorem State.setPort_bufUse (p : Nat) (x : Port) : (s.setPort p x).bufUse = s.bufUse := rfl
@[simp] theorem State.setPort_dma (p : Nat) (x : Port) : (s.setPort p x).dma = s.dma := rfl
@[simp] theorem State.setPort_cmds (p : Nat) (x : Port) : (s.setPort p x).cmds = s.cmds := rfl
@[simp] theorem State.setPort_fuse (p : Nat) (x : Port) : (s.setPort p x).fuse = s.fuse := rfl
@[simp] theorem State.setPort_hlt (p : Nat) (x : Port) : (s.setPort p x).hlt = s.hlt := rfl
@[simp] theorem State.setPort_pwr (p : Nat) (x : Port) : (s.setPort p x).pwr = s.pwr := rfl
@[simp] theorem State.setPort_boot (p : Nat) (x : Port) : (s.setPort p x).boot = s.boot := rfl
@[simp] theorem State.setPort_ddr (p : Nat) (x : Port) : (s.setPort p x).ddr = s.ddr := rfl
@[simp] theorem State.setPort_out (p : Nat) (x : Port) : (s.setPort p x).out = s.out := rfl
@[simp] theorem State.setPort_free (p : Nat) (x : Port) : (s.setPort p x).free = s.free := rfl
/-! ## setWq -/
@[simp] theorem State.setWq_pending (c : Nat) (x : Wqc) : (s.setWq c x).pending = s.pending := rfl
@[simp] theorem State.setWq_phase (c : Nat) (x : Wqc) : (s.setWq c x).phase = s.phase := rfl
@[simp] theorem State.setWq_regs (c : Nat) (x : Wqc) : (s.setWq c x).regs = s.regs := rfl
@[simp] theorem State.setWq_latch (c : Nat) (x : Wqc) : (s.setWq c x).latch = s.latch := rfl
@[simp] theorem State.setWq_mem (c : Nat) (x : Wqc) : (s.setWq c x).mem = s.mem := rfl
@[simp] theorem State.setWq_poison (c : Nat) (x : Wqc) : (s.setWq c x).poison = s.poison := rfl
@[simp] theorem State.setWq_upset (c : Nat) (x : Wqc) : (s.setWq c x).upset = s.upset := rfl
@[simp] theorem State.setWq_rowTab (c : Nat) (x : Wqc) : (s.setWq c x).rowTab = s.rowTab := rfl
@[simp] theorem State.setWq_pipeTab (c : Nat) (x : Wqc) : (s.setWq c x).pipeTab = s.pipeTab := rfl
@[simp] theorem State.setWq_msix (c : Nat) (x : Wqc) : (s.setWq c x).msix = s.msix := rfl
@[simp] theorem State.setWq_pba (c : Nat) (x : Wqc) : (s.setWq c x).pba = s.pba := rfl
@[simp] theorem State.setWq_func (c : Nat) (x : Wqc) : (s.setWq c x).func = s.func := rfl
@[simp] theorem State.setWq_vlog (c : Nat) (x : Wqc) : (s.setWq c x).vlog = s.vlog := rfl
@[simp] theorem State.setWq_evc (c : Nat) (x : Wqc) : (s.setWq c x).evc = s.evc := rfl
@[simp] theorem State.setWq_faultN (c : Nat) (x : Wqc) : (s.setWq c x).faultN = s.faultN := rfl
@[simp] theorem State.setWq_track (c : Nat) (x : Wqc) : (s.setWq c x).track = s.track := rfl
@[simp] theorem State.setWq_marker (c : Nat) (x : Wqc) : (s.setWq c x).marker = s.marker := rfl
@[simp] theorem State.setWq_frame (c : Nat) (x : Wqc) : (s.setWq c x).frame = s.frame := rfl
@[simp] theorem State.setWq_tsc (c : Nat) (x : Wqc) : (s.setWq c x).tsc = s.tsc := rfl
@[simp] theorem State.setWq_eng (c : Nat) (x : Wqc) : (s.setWq c x).eng = s.eng := rfl
@[simp] theorem State.setWq_swap (c : Nat) (x : Wqc) : (s.setWq c x).swap = s.swap := rfl
@[simp] theorem State.setWq_hostReads (c : Nat) (x : Wqc) : (s.setWq c x).hostReads = s.hostReads := rfl
@[simp] theorem State.setWq_xlat (c : Nat) (x : Wqc) : (s.setWq c x).xlat = s.xlat := rfl
@[simp] theorem State.setWq_fetch (c : Nat) (x : Wqc) : (s.setWq c x).fetch = s.fetch := rfl
@[simp] theorem State.setWq_heldJobs (c : Nat) (x : Wqc) : (s.setWq c x).heldJobs = s.heldJobs := rfl
@[simp] theorem State.setWq_bufUse (c : Nat) (x : Wqc) : (s.setWq c x).bufUse = s.bufUse := rfl
@[simp] theorem State.setWq_port (c : Nat) (x : Wqc) : (s.setWq c x).port = s.port := rfl
@[simp] theorem State.setWq_dma (c : Nat) (x : Wqc) : (s.setWq c x).dma = s.dma := rfl
@[simp] theorem State.setWq_cmds (c : Nat) (x : Wqc) : (s.setWq c x).cmds = s.cmds := rfl
@[simp] theorem State.setWq_fuse (c : Nat) (x : Wqc) : (s.setWq c x).fuse = s.fuse := rfl
@[simp] theorem State.setWq_hlt (c : Nat) (x : Wqc) : (s.setWq c x).hlt = s.hlt := rfl
@[simp] theorem State.setWq_pwr (c : Nat) (x : Wqc) : (s.setWq c x).pwr = s.pwr := rfl
@[simp] theorem State.setWq_boot (c : Nat) (x : Wqc) : (s.setWq c x).boot = s.boot := rfl
@[simp] theorem State.setWq_ddr (c : Nat) (x : Wqc) : (s.setWq c x).ddr = s.ddr := rfl
@[simp] theorem State.setWq_out (c : Nat) (x : Wqc) : (s.setWq c x).out = s.out := rfl
@[simp] theorem State.setWq_free (c : Nat) (x : Wqc) : (s.setWq c x).free = s.free := rfl
/-! ## putByte -/
@[simp] theorem State.putByte_pending (a : Nat) (b : Byte) : (s.putByte a b).pending = s.pending := rfl
@[simp] theorem State.putByte_phase (a : Nat) (b : Byte) : (s.putByte a b).phase = s.phase := rfl
@[simp] theorem State.putByte_regs (a : Nat) (b : Byte) : (s.putByte a b).regs = s.regs := rfl
@[simp] theorem State.putByte_latch (a : Nat) (b : Byte) : (s.putByte a b).latch = s.latch := rfl
@[simp] theorem State.putByte_poison (a : Nat) (b : Byte) : (s.putByte a b).poison = s.poison := rfl
@[simp] theorem State.putByte_upset (a : Nat) (b : Byte) : (s.putByte a b).upset = s.upset := rfl
@[simp] theorem State.putByte_rowTab (a : Nat) (b : Byte) : (s.putByte a b).rowTab = s.rowTab := rfl
@[simp] theorem State.putByte_pipeTab (a : Nat) (b : Byte) : (s.putByte a b).pipeTab = s.pipeTab := rfl
@[simp] theorem State.putByte_msix (a : Nat) (b : Byte) : (s.putByte a b).msix = s.msix := rfl
@[simp] theorem State.putByte_pba (a : Nat) (b : Byte) : (s.putByte a b).pba = s.pba := rfl
@[simp] theorem State.putByte_func (a : Nat) (b : Byte) : (s.putByte a b).func = s.func := rfl
@[simp] theorem State.putByte_vlog (a : Nat) (b : Byte) : (s.putByte a b).vlog = s.vlog := rfl
@[simp] theorem State.putByte_evc (a : Nat) (b : Byte) : (s.putByte a b).evc = s.evc := rfl
@[simp] theorem State.putByte_faultN (a : Nat) (b : Byte) : (s.putByte a b).faultN = s.faultN := rfl
@[simp] theorem State.putByte_track (a : Nat) (b : Byte) : (s.putByte a b).track = s.track := rfl
@[simp] theorem State.putByte_marker (a : Nat) (b : Byte) : (s.putByte a b).marker = s.marker := rfl
@[simp] theorem State.putByte_frame (a : Nat) (b : Byte) : (s.putByte a b).frame = s.frame := rfl
@[simp] theorem State.putByte_tsc (a : Nat) (b : Byte) : (s.putByte a b).tsc = s.tsc := rfl
@[simp] theorem State.putByte_eng (a : Nat) (b : Byte) : (s.putByte a b).eng = s.eng := rfl
@[simp] theorem State.putByte_swap (a : Nat) (b : Byte) : (s.putByte a b).swap = s.swap := rfl
@[simp] theorem State.putByte_wq (a : Nat) (b : Byte) : (s.putByte a b).wq = s.wq := rfl
@[simp] theorem State.putByte_hostReads (a : Nat) (b : Byte) : (s.putByte a b).hostReads = s.hostReads := rfl
@[simp] theorem State.putByte_xlat (a : Nat) (b : Byte) : (s.putByte a b).xlat = s.xlat := rfl
@[simp] theorem State.putByte_fetch (a : Nat) (b : Byte) : (s.putByte a b).fetch = s.fetch := rfl
@[simp] theorem State.putByte_heldJobs (a : Nat) (b : Byte) : (s.putByte a b).heldJobs = s.heldJobs := rfl
@[simp] theorem State.putByte_bufUse (a : Nat) (b : Byte) : (s.putByte a b).bufUse = s.bufUse := rfl
@[simp] theorem State.putByte_port (a : Nat) (b : Byte) : (s.putByte a b).port = s.port := rfl
@[simp] theorem State.putByte_dma (a : Nat) (b : Byte) : (s.putByte a b).dma = s.dma := rfl
@[simp] theorem State.putByte_cmds (a : Nat) (b : Byte) : (s.putByte a b).cmds = s.cmds := rfl
@[simp] theorem State.putByte_fuse (a : Nat) (b : Byte) : (s.putByte a b).fuse = s.fuse := rfl
@[simp] theorem State.putByte_hlt (a : Nat) (b : Byte) : (s.putByte a b).hlt = s.hlt := rfl
@[simp] theorem State.putByte_pwr (a : Nat) (b : Byte) : (s.putByte a b).pwr = s.pwr := rfl
@[simp] theorem State.putByte_boot (a : Nat) (b : Byte) : (s.putByte a b).boot = s.boot := rfl
@[simp] theorem State.putByte_ddr (a : Nat) (b : Byte) : (s.putByte a b).ddr = s.ddr := rfl
@[simp] theorem State.putByte_out (a : Nat) (b : Byte) : (s.putByte a b).out = s.out := rfl
@[simp] theorem State.putByte_free (a : Nat) (b : Byte) : (s.putByte a b).free = s.free := rfl
/-! ## setPoison -/
@[simp] theorem State.setPoison_pending (a : Nat) (p : Bool) : (s.setPoison a p).pending = s.pending := rfl
@[simp] theorem State.setPoison_phase (a : Nat) (p : Bool) : (s.setPoison a p).phase = s.phase := rfl
@[simp] theorem State.setPoison_regs (a : Nat) (p : Bool) : (s.setPoison a p).regs = s.regs := rfl
@[simp] theorem State.setPoison_latch (a : Nat) (p : Bool) : (s.setPoison a p).latch = s.latch := rfl
@[simp] theorem State.setPoison_mem (a : Nat) (p : Bool) : (s.setPoison a p).mem = s.mem := rfl
@[simp] theorem State.setPoison_upset (a : Nat) (p : Bool) : (s.setPoison a p).upset = s.upset := rfl
@[simp] theorem State.setPoison_rowTab (a : Nat) (p : Bool) : (s.setPoison a p).rowTab = s.rowTab := rfl
@[simp] theorem State.setPoison_pipeTab (a : Nat) (p : Bool) : (s.setPoison a p).pipeTab = s.pipeTab := rfl
@[simp] theorem State.setPoison_msix (a : Nat) (p : Bool) : (s.setPoison a p).msix = s.msix := rfl
@[simp] theorem State.setPoison_pba (a : Nat) (p : Bool) : (s.setPoison a p).pba = s.pba := rfl
@[simp] theorem State.setPoison_func (a : Nat) (p : Bool) : (s.setPoison a p).func = s.func := rfl
@[simp] theorem State.setPoison_vlog (a : Nat) (p : Bool) : (s.setPoison a p).vlog = s.vlog := rfl
@[simp] theorem State.setPoison_evc (a : Nat) (p : Bool) : (s.setPoison a p).evc = s.evc := rfl
@[simp] theorem State.setPoison_faultN (a : Nat) (p : Bool) : (s.setPoison a p).faultN = s.faultN := rfl
@[simp] theorem State.setPoison_track (a : Nat) (p : Bool) : (s.setPoison a p).track = s.track := rfl
@[simp] theorem State.setPoison_marker (a : Nat) (p : Bool) : (s.setPoison a p).marker = s.marker := rfl
@[simp] theorem State.setPoison_frame (a : Nat) (p : Bool) : (s.setPoison a p).frame = s.frame := rfl
@[simp] theorem State.setPoison_tsc (a : Nat) (p : Bool) : (s.setPoison a p).tsc = s.tsc := rfl
@[simp] theorem State.setPoison_eng (a : Nat) (p : Bool) : (s.setPoison a p).eng = s.eng := rfl
@[simp] theorem State.setPoison_swap (a : Nat) (p : Bool) : (s.setPoison a p).swap = s.swap := rfl
@[simp] theorem State.setPoison_wq (a : Nat) (p : Bool) : (s.setPoison a p).wq = s.wq := rfl
@[simp] theorem State.setPoison_hostReads (a : Nat) (p : Bool) : (s.setPoison a p).hostReads = s.hostReads := rfl
@[simp] theorem State.setPoison_xlat (a : Nat) (p : Bool) : (s.setPoison a p).xlat = s.xlat := rfl
@[simp] theorem State.setPoison_fetch (a : Nat) (p : Bool) : (s.setPoison a p).fetch = s.fetch := rfl
@[simp] theorem State.setPoison_heldJobs (a : Nat) (p : Bool) : (s.setPoison a p).heldJobs = s.heldJobs := rfl
@[simp] theorem State.setPoison_bufUse (a : Nat) (p : Bool) : (s.setPoison a p).bufUse = s.bufUse := rfl
@[simp] theorem State.setPoison_port (a : Nat) (p : Bool) : (s.setPoison a p).port = s.port := rfl
@[simp] theorem State.setPoison_dma (a : Nat) (p : Bool) : (s.setPoison a p).dma = s.dma := rfl
@[simp] theorem State.setPoison_cmds (a : Nat) (p : Bool) : (s.setPoison a p).cmds = s.cmds := rfl
@[simp] theorem State.setPoison_fuse (a : Nat) (p : Bool) : (s.setPoison a p).fuse = s.fuse := rfl
@[simp] theorem State.setPoison_hlt (a : Nat) (p : Bool) : (s.setPoison a p).hlt = s.hlt := rfl
@[simp] theorem State.setPoison_pwr (a : Nat) (p : Bool) : (s.setPoison a p).pwr = s.pwr := rfl
@[simp] theorem State.setPoison_boot (a : Nat) (p : Bool) : (s.setPoison a p).boot = s.boot := rfl
@[simp] theorem State.setPoison_ddr (a : Nat) (p : Bool) : (s.setPoison a p).ddr = s.ddr := rfl
@[simp] theorem State.setPoison_out (a : Nat) (p : Bool) : (s.setPoison a p).out = s.out := rfl
@[simp] theorem State.setPoison_free (a : Nat) (p : Bool) : (s.setPoison a p).free = s.free := rfl
/-! ## setUpset -/
@[simp] theorem State.setUpset_pending (a k : Nat) : (s.setUpset a k).pending = s.pending := rfl
@[simp] theorem State.setUpset_phase (a k : Nat) : (s.setUpset a k).phase = s.phase := rfl
@[simp] theorem State.setUpset_regs (a k : Nat) : (s.setUpset a k).regs = s.regs := rfl
@[simp] theorem State.setUpset_latch (a k : Nat) : (s.setUpset a k).latch = s.latch := rfl
@[simp] theorem State.setUpset_mem (a k : Nat) : (s.setUpset a k).mem = s.mem := rfl
@[simp] theorem State.setUpset_poison (a k : Nat) : (s.setUpset a k).poison = s.poison := rfl
@[simp] theorem State.setUpset_rowTab (a k : Nat) : (s.setUpset a k).rowTab = s.rowTab := rfl
@[simp] theorem State.setUpset_pipeTab (a k : Nat) : (s.setUpset a k).pipeTab = s.pipeTab := rfl
@[simp] theorem State.setUpset_msix (a k : Nat) : (s.setUpset a k).msix = s.msix := rfl
@[simp] theorem State.setUpset_pba (a k : Nat) : (s.setUpset a k).pba = s.pba := rfl
@[simp] theorem State.setUpset_func (a k : Nat) : (s.setUpset a k).func = s.func := rfl
@[simp] theorem State.setUpset_vlog (a k : Nat) : (s.setUpset a k).vlog = s.vlog := rfl
@[simp] theorem State.setUpset_evc (a k : Nat) : (s.setUpset a k).evc = s.evc := rfl
@[simp] theorem State.setUpset_faultN (a k : Nat) : (s.setUpset a k).faultN = s.faultN := rfl
@[simp] theorem State.setUpset_track (a k : Nat) : (s.setUpset a k).track = s.track := rfl
@[simp] theorem State.setUpset_marker (a k : Nat) : (s.setUpset a k).marker = s.marker := rfl
@[simp] theorem State.setUpset_frame (a k : Nat) : (s.setUpset a k).frame = s.frame := rfl
@[simp] theorem State.setUpset_tsc (a k : Nat) : (s.setUpset a k).tsc = s.tsc := rfl
@[simp] theorem State.setUpset_eng (a k : Nat) : (s.setUpset a k).eng = s.eng := rfl
@[simp] theorem State.setUpset_swap (a k : Nat) : (s.setUpset a k).swap = s.swap := rfl
@[simp] theorem State.setUpset_wq (a k : Nat) : (s.setUpset a k).wq = s.wq := rfl
@[simp] theorem State.setUpset_hostReads (a k : Nat) : (s.setUpset a k).hostReads = s.hostReads := rfl
@[simp] theorem State.setUpset_xlat (a k : Nat) : (s.setUpset a k).xlat = s.xlat := rfl
@[simp] theorem State.setUpset_fetch (a k : Nat) : (s.setUpset a k).fetch = s.fetch := rfl
@[simp] theorem State.setUpset_heldJobs (a k : Nat) : (s.setUpset a k).heldJobs = s.heldJobs := rfl
@[simp] theorem State.setUpset_bufUse (a k : Nat) : (s.setUpset a k).bufUse = s.bufUse := rfl
@[simp] theorem State.setUpset_port (a k : Nat) : (s.setUpset a k).port = s.port := rfl
@[simp] theorem State.setUpset_dma (a k : Nat) : (s.setUpset a k).dma = s.dma := rfl
@[simp] theorem State.setUpset_cmds (a k : Nat) : (s.setUpset a k).cmds = s.cmds := rfl
@[simp] theorem State.setUpset_fuse (a k : Nat) : (s.setUpset a k).fuse = s.fuse := rfl
@[simp] theorem State.setUpset_hlt (a k : Nat) : (s.setUpset a k).hlt = s.hlt := rfl
@[simp] theorem State.setUpset_pwr (a k : Nat) : (s.setUpset a k).pwr = s.pwr := rfl
@[simp] theorem State.setUpset_boot (a k : Nat) : (s.setUpset a k).boot = s.boot := rfl
@[simp] theorem State.setUpset_ddr (a k : Nat) : (s.setUpset a k).ddr = s.ddr := rfl
@[simp] theorem State.setUpset_out (a k : Nat) : (s.setUpset a k).out = s.out := rfl
@[simp] theorem State.setUpset_free (a k : Nat) : (s.setUpset a k).free = s.free := rfl
/-! ## latchFor -/
@[simp] theorem State.latchFor_pending (fn off : Nat) (v : Word) : (s.latchFor fn off v).pending = s.pending := rfl
@[simp] theorem State.latchFor_phase (fn off : Nat) (v : Word) : (s.latchFor fn off v).phase = s.phase := rfl
@[simp] theorem State.latchFor_regs (fn off : Nat) (v : Word) : (s.latchFor fn off v).regs = s.regs := rfl
@[simp] theorem State.latchFor_mem (fn off : Nat) (v : Word) : (s.latchFor fn off v).mem = s.mem := rfl
@[simp] theorem State.latchFor_poison (fn off : Nat) (v : Word) : (s.latchFor fn off v).poison = s.poison := rfl
@[simp] theorem State.latchFor_upset (fn off : Nat) (v : Word) : (s.latchFor fn off v).upset = s.upset := rfl
@[simp] theorem State.latchFor_rowTab (fn off : Nat) (v : Word) : (s.latchFor fn off v).rowTab = s.rowTab := rfl
@[simp] theorem State.latchFor_pipeTab (fn off : Nat) (v : Word) : (s.latchFor fn off v).pipeTab = s.pipeTab := rfl
@[simp] theorem State.latchFor_msix (fn off : Nat) (v : Word) : (s.latchFor fn off v).msix = s.msix := rfl
@[simp] theorem State.latchFor_pba (fn off : Nat) (v : Word) : (s.latchFor fn off v).pba = s.pba := rfl
@[simp] theorem State.latchFor_func (fn off : Nat) (v : Word) : (s.latchFor fn off v).func = s.func := rfl
@[simp] theorem State.latchFor_vlog (fn off : Nat) (v : Word) : (s.latchFor fn off v).vlog = s.vlog := rfl
@[simp] theorem State.latchFor_evc (fn off : Nat) (v : Word) : (s.latchFor fn off v).evc = s.evc := rfl
@[simp] theorem State.latchFor_faultN (fn off : Nat) (v : Word) : (s.latchFor fn off v).faultN = s.faultN := rfl
@[simp] theorem State.latchFor_track (fn off : Nat) (v : Word) : (s.latchFor fn off v).track = s.track := rfl
@[simp] theorem State.latchFor_marker (fn off : Nat) (v : Word) : (s.latchFor fn off v).marker = s.marker := rfl
@[simp] theorem State.latchFor_frame (fn off : Nat) (v : Word) : (s.latchFor fn off v).frame = s.frame := rfl
@[simp] theorem State.latchFor_tsc (fn off : Nat) (v : Word) : (s.latchFor fn off v).tsc = s.tsc := rfl
@[simp] theorem State.latchFor_eng (fn off : Nat) (v : Word) : (s.latchFor fn off v).eng = s.eng := rfl
@[simp] theorem State.latchFor_swap (fn off : Nat) (v : Word) : (s.latchFor fn off v).swap = s.swap := rfl
@[simp] theorem State.latchFor_wq (fn off : Nat) (v : Word) : (s.latchFor fn off v).wq = s.wq := rfl
@[simp] theorem State.latchFor_hostReads (fn off : Nat) (v : Word) : (s.latchFor fn off v).hostReads = s.hostReads := rfl
@[simp] theorem State.latchFor_xlat (fn off : Nat) (v : Word) : (s.latchFor fn off v).xlat = s.xlat := rfl
@[simp] theorem State.latchFor_fetch (fn off : Nat) (v : Word) : (s.latchFor fn off v).fetch = s.fetch := rfl
@[simp] theorem State.latchFor_heldJobs (fn off : Nat) (v : Word) : (s.latchFor fn off v).heldJobs = s.heldJobs := rfl
@[simp] theorem State.latchFor_bufUse (fn off : Nat) (v : Word) : (s.latchFor fn off v).bufUse = s.bufUse := rfl
@[simp] theorem State.latchFor_port (fn off : Nat) (v : Word) : (s.latchFor fn off v).port = s.port := rfl
@[simp] theorem State.latchFor_dma (fn off : Nat) (v : Word) : (s.latchFor fn off v).dma = s.dma := rfl
@[simp] theorem State.latchFor_cmds (fn off : Nat) (v : Word) : (s.latchFor fn off v).cmds = s.cmds := rfl
@[simp] theorem State.latchFor_fuse (fn off : Nat) (v : Word) : (s.latchFor fn off v).fuse = s.fuse := rfl
@[simp] theorem State.latchFor_hlt (fn off : Nat) (v : Word) : (s.latchFor fn off v).hlt = s.hlt := rfl
@[simp] theorem State.latchFor_pwr (fn off : Nat) (v : Word) : (s.latchFor fn off v).pwr = s.pwr := rfl
@[simp] theorem State.latchFor_boot (fn off : Nat) (v : Word) : (s.latchFor fn off v).boot = s.boot := rfl
@[simp] theorem State.latchFor_ddr (fn off : Nat) (v : Word) : (s.latchFor fn off v).ddr = s.ddr := rfl
@[simp] theorem State.latchFor_out (fn off : Nat) (v : Word) : (s.latchFor fn off v).out = s.out := rfl
@[simp] theorem State.latchFor_free (fn off : Nat) (v : Word) : (s.latchFor fn off v).free = s.free := rfl
/-! ## putCmd -/
@[simp] theorem State.putCmd_pending (k : Nat) (c : Cmd) : (s.putCmd k c).pending = s.pending := rfl
@[simp] theorem State.putCmd_phase (k : Nat) (c : Cmd) : (s.putCmd k c).phase = s.phase := rfl
@[simp] theorem State.putCmd_regs (k : Nat) (c : Cmd) : (s.putCmd k c).regs = s.regs := rfl
@[simp] theorem State.putCmd_latch (k : Nat) (c : Cmd) : (s.putCmd k c).latch = s.latch := rfl
@[simp] theorem State.putCmd_mem (k : Nat) (c : Cmd) : (s.putCmd k c).mem = s.mem := rfl
@[simp] theorem State.putCmd_poison (k : Nat) (c : Cmd) : (s.putCmd k c).poison = s.poison := rfl
@[simp] theorem State.putCmd_upset (k : Nat) (c : Cmd) : (s.putCmd k c).upset = s.upset := rfl
@[simp] theorem State.putCmd_rowTab (k : Nat) (c : Cmd) : (s.putCmd k c).rowTab = s.rowTab := rfl
@[simp] theorem State.putCmd_pipeTab (k : Nat) (c : Cmd) : (s.putCmd k c).pipeTab = s.pipeTab := rfl
@[simp] theorem State.putCmd_msix (k : Nat) (c : Cmd) : (s.putCmd k c).msix = s.msix := rfl
@[simp] theorem State.putCmd_pba (k : Nat) (c : Cmd) : (s.putCmd k c).pba = s.pba := rfl
@[simp] theorem State.putCmd_func (k : Nat) (c : Cmd) : (s.putCmd k c).func = s.func := rfl
@[simp] theorem State.putCmd_vlog (k : Nat) (c : Cmd) : (s.putCmd k c).vlog = s.vlog := rfl
@[simp] theorem State.putCmd_evc (k : Nat) (c : Cmd) : (s.putCmd k c).evc = s.evc := rfl
@[simp] theorem State.putCmd_faultN (k : Nat) (c : Cmd) : (s.putCmd k c).faultN = s.faultN := rfl
@[simp] theorem State.putCmd_track (k : Nat) (c : Cmd) : (s.putCmd k c).track = s.track := rfl
@[simp] theorem State.putCmd_marker (k : Nat) (c : Cmd) : (s.putCmd k c).marker = s.marker := rfl
@[simp] theorem State.putCmd_frame (k : Nat) (c : Cmd) : (s.putCmd k c).frame = s.frame := rfl
@[simp] theorem State.putCmd_tsc (k : Nat) (c : Cmd) : (s.putCmd k c).tsc = s.tsc := rfl
@[simp] theorem State.putCmd_eng (k : Nat) (c : Cmd) : (s.putCmd k c).eng = s.eng := rfl
@[simp] theorem State.putCmd_swap (k : Nat) (c : Cmd) : (s.putCmd k c).swap = s.swap := rfl
@[simp] theorem State.putCmd_wq (k : Nat) (c : Cmd) : (s.putCmd k c).wq = s.wq := rfl
@[simp] theorem State.putCmd_hostReads (k : Nat) (c : Cmd) : (s.putCmd k c).hostReads = s.hostReads := rfl
@[simp] theorem State.putCmd_xlat (k : Nat) (c : Cmd) : (s.putCmd k c).xlat = s.xlat := rfl
@[simp] theorem State.putCmd_fetch (k : Nat) (c : Cmd) : (s.putCmd k c).fetch = s.fetch := rfl
@[simp] theorem State.putCmd_heldJobs (k : Nat) (c : Cmd) : (s.putCmd k c).heldJobs = s.heldJobs := rfl
@[simp] theorem State.putCmd_bufUse (k : Nat) (c : Cmd) : (s.putCmd k c).bufUse = s.bufUse := rfl
@[simp] theorem State.putCmd_port (k : Nat) (c : Cmd) : (s.putCmd k c).port = s.port := rfl
@[simp] theorem State.putCmd_dma (k : Nat) (c : Cmd) : (s.putCmd k c).dma = s.dma := rfl
@[simp] theorem State.putCmd_fuse (k : Nat) (c : Cmd) : (s.putCmd k c).fuse = s.fuse := rfl
@[simp] theorem State.putCmd_hlt (k : Nat) (c : Cmd) : (s.putCmd k c).hlt = s.hlt := rfl
@[simp] theorem State.putCmd_pwr (k : Nat) (c : Cmd) : (s.putCmd k c).pwr = s.pwr := rfl
@[simp] theorem State.putCmd_boot (k : Nat) (c : Cmd) : (s.putCmd k c).boot = s.boot := rfl
@[simp] theorem State.putCmd_ddr (k : Nat) (c : Cmd) : (s.putCmd k c).ddr = s.ddr := rfl
@[simp] theorem State.putCmd_out (k : Nat) (c : Cmd) : (s.putCmd k c).out = s.out := rfl
@[simp] theorem State.putCmd_free (k : Nat) (c : Cmd) : (s.putCmd k c).free = s.free := rfl
/-! ## Accessors -/
@[simp] theorem State.wr_getEng (f : Field) (v i j : Nat) (n : Nat) : (s.wr f v i j).getEng n = s.getEng n := rfl
@[simp] theorem State.wr_getTrack (f : Field) (v i j : Nat) (n : Nat) : (s.wr f v i j).getTrack n = s.getTrack n := rfl
@[simp] theorem State.wr_getMarker (f : Field) (v i j : Nat) (n : Nat) : (s.wr f v i j).getMarker n = s.getMarker n := rfl
@[simp] theorem State.wr_getFrame (f : Field) (v i j : Nat) (n : Nat) : (s.wr f v i j).getFrame n = s.getFrame n := rfl
@[simp] theorem State.wr_getFunc (f : Field) (v i j : Nat) (n : Nat) : (s.wr f v i j).getFunc n = s.getFunc n := rfl
@[simp] theorem State.wr_getPort (f : Field) (v i j : Nat) (n : Nat) : (s.wr f v i j).getPort n = s.getPort n := rfl
@[simp] theorem State.wr_getWq (f : Field) (v i j : Nat) (n : Nat) : (s.wr f v i j).getWq n = s.getWq n := rfl
@[simp] theorem State.wr_byteAt (f : Field) (v i j : Nat) (n : Nat) : (s.wr f v i j).byteAt n = s.byteAt n := rfl
@[simp] theorem State.emit_rd (o : Output) (g : Field) (i' j' : Nat) : (s.emit o).rd g i' j' = s.rd g i' j' := rfl
@[simp] theorem State.emit_on (o : Output) (g : Field) (i' j' : Nat) : (s.emit o).on g i' j' = s.on g i' j' := rfl
@[simp] theorem State.emit_getEng (o : Output) (n : Nat) : (s.emit o).getEng n = s.getEng n := rfl
@[simp] theorem State.emit_getTrack (o : Output) (n : Nat) : (s.emit o).getTrack n = s.getTrack n := rfl
@[simp] theorem State.emit_getMarker (o : Output) (n : Nat) : (s.emit o).getMarker n = s.getMarker n := rfl
@[simp] theorem State.emit_getFrame (o : Output) (n : Nat) : (s.emit o).getFrame n = s.getFrame n := rfl
@[simp] theorem State.emit_getFunc (o : Output) (n : Nat) : (s.emit o).getFunc n = s.getFunc n := rfl
@[simp] theorem State.emit_getPort (o : Output) (n : Nat) : (s.emit o).getPort n = s.getPort n := rfl
@[simp] theorem State.emit_getWq (o : Output) (n : Nat) : (s.emit o).getWq n = s.getWq n := rfl
@[simp] theorem State.emit_byteAt (o : Output) (n : Nat) : (s.emit o).byteAt n = s.byteAt n := rfl
@[simp] theorem State.setTrack_rd (t : Nat) (x : Track) (g : Field) (i' j' : Nat) : (s.setTrack t x).rd g i' j' = s.rd g i' j' := rfl
@[simp] theorem State.setTrack_on (t : Nat) (x : Track) (g : Field) (i' j' : Nat) : (s.setTrack t x).on g i' j' = s.on g i' j' := rfl
@[simp] theorem State.setTrack_getEng (t : Nat) (x : Track) (n : Nat) : (s.setTrack t x).getEng n = s.getEng n := rfl
@[simp] theorem State.setTrack_getMarker (t : Nat) (x : Track) (n : Nat) : (s.setTrack t x).getMarker n = s.getMarker n := rfl
@[simp] theorem State.setTrack_getFrame (t : Nat) (x : Track) (n : Nat) : (s.setTrack t x).getFrame n = s.getFrame n := rfl
@[simp] theorem State.setTrack_getFunc (t : Nat) (x : Track) (n : Nat) : (s.setTrack t x).getFunc n = s.getFunc n := rfl
@[simp] theorem State.setTrack_getPort (t : Nat) (x : Track) (n : Nat) : (s.setTrack t x).getPort n = s.getPort n := rfl
@[simp] theorem State.setTrack_getWq (t : Nat) (x : Track) (n : Nat) : (s.setTrack t x).getWq n = s.getWq n := rfl
@[simp] theorem State.setTrack_byteAt (t : Nat) (x : Track) (n : Nat) : (s.setTrack t x).byteAt n = s.byteAt n := rfl
@[simp] theorem State.setMarker_rd (m : Nat) (x : Marker) (g : Field) (i' j' : Nat) : (s.setMarker m x).rd g i' j' = s.rd g i' j' := rfl
@[simp] theorem State.setMarker_on (m : Nat) (x : Marker) (g : Field) (i' j' : Nat) : (s.setMarker m x).on g i' j' = s.on g i' j' := rfl
@[simp] theorem State.setMarker_getEng (m : Nat) (x : Marker) (n : Nat) : (s.setMarker m x).getEng n = s.getEng n := rfl
@[simp] theorem State.setMarker_getTrack (m : Nat) (x : Marker) (n : Nat) : (s.setMarker m x).getTrack n = s.getTrack n := rfl
@[simp] theorem State.setMarker_getFrame (m : Nat) (x : Marker) (n : Nat) : (s.setMarker m x).getFrame n = s.getFrame n := rfl
@[simp] theorem State.setMarker_getFunc (m : Nat) (x : Marker) (n : Nat) : (s.setMarker m x).getFunc n = s.getFunc n := rfl
@[simp] theorem State.setMarker_getPort (m : Nat) (x : Marker) (n : Nat) : (s.setMarker m x).getPort n = s.getPort n := rfl
@[simp] theorem State.setMarker_getWq (m : Nat) (x : Marker) (n : Nat) : (s.setMarker m x).getWq n = s.getWq n := rfl
@[simp] theorem State.setMarker_byteAt (m : Nat) (x : Marker) (n : Nat) : (s.setMarker m x).byteAt n = s.byteAt n := rfl
@[simp] theorem State.setFrame_rd (p : Nat) (x : FrameSt) (g : Field) (i' j' : Nat) : (s.setFrame p x).rd g i' j' = s.rd g i' j' := rfl
@[simp] theorem State.setFrame_on (p : Nat) (x : FrameSt) (g : Field) (i' j' : Nat) : (s.setFrame p x).on g i' j' = s.on g i' j' := rfl
@[simp] theorem State.setFrame_getEng (p : Nat) (x : FrameSt) (n : Nat) : (s.setFrame p x).getEng n = s.getEng n := rfl
@[simp] theorem State.setFrame_getTrack (p : Nat) (x : FrameSt) (n : Nat) : (s.setFrame p x).getTrack n = s.getTrack n := rfl
@[simp] theorem State.setFrame_getMarker (p : Nat) (x : FrameSt) (n : Nat) : (s.setFrame p x).getMarker n = s.getMarker n := rfl
@[simp] theorem State.setFrame_getFunc (p : Nat) (x : FrameSt) (n : Nat) : (s.setFrame p x).getFunc n = s.getFunc n := rfl
@[simp] theorem State.setFrame_getPort (p : Nat) (x : FrameSt) (n : Nat) : (s.setFrame p x).getPort n = s.getPort n := rfl
@[simp] theorem State.setFrame_getWq (p : Nat) (x : FrameSt) (n : Nat) : (s.setFrame p x).getWq n = s.getWq n := rfl
@[simp] theorem State.setFrame_byteAt (p : Nat) (x : FrameSt) (n : Nat) : (s.setFrame p x).byteAt n = s.byteAt n := rfl
@[simp] theorem State.setEng_rd (e : Nat) (x : Eng) (g : Field) (i' j' : Nat) : (s.setEng e x).rd g i' j' = s.rd g i' j' := rfl
@[simp] theorem State.setEng_on (e : Nat) (x : Eng) (g : Field) (i' j' : Nat) : (s.setEng e x).on g i' j' = s.on g i' j' := rfl
@[simp] theorem State.setEng_getTrack (e : Nat) (x : Eng) (n : Nat) : (s.setEng e x).getTrack n = s.getTrack n := rfl
@[simp] theorem State.setEng_getMarker (e : Nat) (x : Eng) (n : Nat) : (s.setEng e x).getMarker n = s.getMarker n := rfl
@[simp] theorem State.setEng_getFrame (e : Nat) (x : Eng) (n : Nat) : (s.setEng e x).getFrame n = s.getFrame n := rfl
@[simp] theorem State.setEng_getFunc (e : Nat) (x : Eng) (n : Nat) : (s.setEng e x).getFunc n = s.getFunc n := rfl
@[simp] theorem State.setEng_getPort (e : Nat) (x : Eng) (n : Nat) : (s.setEng e x).getPort n = s.getPort n := rfl
@[simp] theorem State.setEng_getWq (e : Nat) (x : Eng) (n : Nat) : (s.setEng e x).getWq n = s.getWq n := rfl
@[simp] theorem State.setEng_byteAt (e : Nat) (x : Eng) (n : Nat) : (s.setEng e x).byteAt n = s.byteAt n := rfl
@[simp] theorem State.setFunc_rd (i : Nat) (x : Func) (g : Field) (i' j' : Nat) : (s.setFunc i x).rd g i' j' = s.rd g i' j' := rfl
@[simp] theorem State.setFunc_on (i : Nat) (x : Func) (g : Field) (i' j' : Nat) : (s.setFunc i x).on g i' j' = s.on g i' j' := rfl
@[simp] theorem State.setFunc_getEng (i : Nat) (x : Func) (n : Nat) : (s.setFunc i x).getEng n = s.getEng n := rfl
@[simp] theorem State.setFunc_getTrack (i : Nat) (x : Func) (n : Nat) : (s.setFunc i x).getTrack n = s.getTrack n := rfl
@[simp] theorem State.setFunc_getMarker (i : Nat) (x : Func) (n : Nat) : (s.setFunc i x).getMarker n = s.getMarker n := rfl
@[simp] theorem State.setFunc_getFrame (i : Nat) (x : Func) (n : Nat) : (s.setFunc i x).getFrame n = s.getFrame n := rfl
@[simp] theorem State.setFunc_getPort (i : Nat) (x : Func) (n : Nat) : (s.setFunc i x).getPort n = s.getPort n := rfl
@[simp] theorem State.setFunc_getWq (i : Nat) (x : Func) (n : Nat) : (s.setFunc i x).getWq n = s.getWq n := rfl
@[simp] theorem State.setFunc_byteAt (i : Nat) (x : Func) (n : Nat) : (s.setFunc i x).byteAt n = s.byteAt n := rfl
@[simp] theorem State.setPort_rd (p : Nat) (x : Port) (g : Field) (i' j' : Nat) : (s.setPort p x).rd g i' j' = s.rd g i' j' := rfl
@[simp] theorem State.setPort_on (p : Nat) (x : Port) (g : Field) (i' j' : Nat) : (s.setPort p x).on g i' j' = s.on g i' j' := rfl
@[simp] theorem State.setPort_getEng (p : Nat) (x : Port) (n : Nat) : (s.setPort p x).getEng n = s.getEng n := rfl
@[simp] theorem State.setPort_getTrack (p : Nat) (x : Port) (n : Nat) : (s.setPort p x).getTrack n = s.getTrack n := rfl
@[simp] theorem State.setPort_getMarker (p : Nat) (x : Port) (n : Nat) : (s.setPort p x).getMarker n = s.getMarker n := rfl
@[simp] theorem State.setPort_getFrame (p : Nat) (x : Port) (n : Nat) : (s.setPort p x).getFrame n = s.getFrame n := rfl
@[simp] theorem State.setPort_getFunc (p : Nat) (x : Port) (n : Nat) : (s.setPort p x).getFunc n = s.getFunc n := rfl
@[simp] theorem State.setPort_getWq (p : Nat) (x : Port) (n : Nat) : (s.setPort p x).getWq n = s.getWq n := rfl
@[simp] theorem State.setPort_byteAt (p : Nat) (x : Port) (n : Nat) : (s.setPort p x).byteAt n = s.byteAt n := rfl
@[simp] theorem State.setWq_rd (c : Nat) (x : Wqc) (g : Field) (i' j' : Nat) : (s.setWq c x).rd g i' j' = s.rd g i' j' := rfl
@[simp] theorem State.setWq_on (c : Nat) (x : Wqc) (g : Field) (i' j' : Nat) : (s.setWq c x).on g i' j' = s.on g i' j' := rfl
@[simp] theorem State.setWq_getEng (c : Nat) (x : Wqc) (n : Nat) : (s.setWq c x).getEng n = s.getEng n := rfl
@[simp] theorem State.setWq_getTrack (c : Nat) (x : Wqc) (n : Nat) : (s.setWq c x).getTrack n = s.getTrack n := rfl
@[simp] theorem State.setWq_getMarker (c : Nat) (x : Wqc) (n : Nat) : (s.setWq c x).getMarker n = s.getMarker n := rfl
@[simp] theorem State.setWq_getFrame (c : Nat) (x : Wqc) (n : Nat) : (s.setWq c x).getFrame n = s.getFrame n := rfl
@[simp] theorem State.setWq_getFunc (c : Nat) (x : Wqc) (n : Nat) : (s.setWq c x).getFunc n = s.getFunc n := rfl
@[simp] theorem State.setWq_getPort (c : Nat) (x : Wqc) (n : Nat) : (s.setWq c x).getPort n = s.getPort n := rfl
@[simp] theorem State.setWq_byteAt (c : Nat) (x : Wqc) (n : Nat) : (s.setWq c x).byteAt n = s.byteAt n := rfl
@[simp] theorem State.putByte_rd (a : Nat) (b : Byte) (g : Field) (i' j' : Nat) : (s.putByte a b).rd g i' j' = s.rd g i' j' := rfl
@[simp] theorem State.putByte_on (a : Nat) (b : Byte) (g : Field) (i' j' : Nat) : (s.putByte a b).on g i' j' = s.on g i' j' := rfl
@[simp] theorem State.putByte_getEng (a : Nat) (b : Byte) (n : Nat) : (s.putByte a b).getEng n = s.getEng n := rfl
@[simp] theorem State.putByte_getTrack (a : Nat) (b : Byte) (n : Nat) : (s.putByte a b).getTrack n = s.getTrack n := rfl
@[simp] theorem State.putByte_getMarker (a : Nat) (b : Byte) (n : Nat) : (s.putByte a b).getMarker n = s.getMarker n := rfl
@[simp] theorem State.putByte_getFrame (a : Nat) (b : Byte) (n : Nat) : (s.putByte a b).getFrame n = s.getFrame n := rfl
@[simp] theorem State.putByte_getFunc (a : Nat) (b : Byte) (n : Nat) : (s.putByte a b).getFunc n = s.getFunc n := rfl
@[simp] theorem State.putByte_getPort (a : Nat) (b : Byte) (n : Nat) : (s.putByte a b).getPort n = s.getPort n := rfl
@[simp] theorem State.putByte_getWq (a : Nat) (b : Byte) (n : Nat) : (s.putByte a b).getWq n = s.getWq n := rfl
@[simp] theorem State.setPoison_rd (a : Nat) (p : Bool) (g : Field) (i' j' : Nat) : (s.setPoison a p).rd g i' j' = s.rd g i' j' := rfl
@[simp] theorem State.setPoison_on (a : Nat) (p : Bool) (g : Field) (i' j' : Nat) : (s.setPoison a p).on g i' j' = s.on g i' j' := rfl
@[simp] theorem State.setPoison_getEng (a : Nat) (p : Bool) (n : Nat) : (s.setPoison a p).getEng n = s.getEng n := rfl
@[simp] theorem State.setPoison_getTrack (a : Nat) (p : Bool) (n : Nat) : (s.setPoison a p).getTrack n = s.getTrack n := rfl
@[simp] theorem State.setPoison_getMarker (a : Nat) (p : Bool) (n : Nat) : (s.setPoison a p).getMarker n = s.getMarker n := rfl
@[simp] theorem State.setPoison_getFrame (a : Nat) (p : Bool) (n : Nat) : (s.setPoison a p).getFrame n = s.getFrame n := rfl
@[simp] theorem State.setPoison_getFunc (a : Nat) (p : Bool) (n : Nat) : (s.setPoison a p).getFunc n = s.getFunc n := rfl
@[simp] theorem State.setPoison_getPort (a : Nat) (p : Bool) (n : Nat) : (s.setPoison a p).getPort n = s.getPort n := rfl
@[simp] theorem State.setPoison_getWq (a : Nat) (p : Bool) (n : Nat) : (s.setPoison a p).getWq n = s.getWq n := rfl
@[simp] theorem State.setPoison_byteAt (a : Nat) (p : Bool) (n : Nat) : (s.setPoison a p).byteAt n = s.byteAt n := rfl
@[simp] theorem State.setUpset_rd (a k : Nat) (g : Field) (i' j' : Nat) : (s.setUpset a k).rd g i' j' = s.rd g i' j' := rfl
@[simp] theorem State.setUpset_on (a k : Nat) (g : Field) (i' j' : Nat) : (s.setUpset a k).on g i' j' = s.on g i' j' := rfl
@[simp] theorem State.setUpset_getEng (a k : Nat) (n : Nat) : (s.setUpset a k).getEng n = s.getEng n := rfl
@[simp] theorem State.setUpset_getTrack (a k : Nat) (n : Nat) : (s.setUpset a k).getTrack n = s.getTrack n := rfl
@[simp] theorem State.setUpset_getMarker (a k : Nat) (n : Nat) : (s.setUpset a k).getMarker n = s.getMarker n := rfl
@[simp] theorem State.setUpset_getFrame (a k : Nat) (n : Nat) : (s.setUpset a k).getFrame n = s.getFrame n := rfl
@[simp] theorem State.setUpset_getFunc (a k : Nat) (n : Nat) : (s.setUpset a k).getFunc n = s.getFunc n := rfl
@[simp] theorem State.setUpset_getPort (a k : Nat) (n : Nat) : (s.setUpset a k).getPort n = s.getPort n := rfl
@[simp] theorem State.setUpset_getWq (a k : Nat) (n : Nat) : (s.setUpset a k).getWq n = s.getWq n := rfl
@[simp] theorem State.setUpset_byteAt (a k : Nat) (n : Nat) : (s.setUpset a k).byteAt n = s.byteAt n := rfl
@[simp] theorem State.latchFor_rd (fn off : Nat) (v : Word) (g : Field) (i' j' : Nat) : (s.latchFor fn off v).rd g i' j' = s.rd g i' j' := rfl
@[simp] theorem State.latchFor_on (fn off : Nat) (v : Word) (g : Field) (i' j' : Nat) : (s.latchFor fn off v).on g i' j' = s.on g i' j' := rfl
@[simp] theorem State.latchFor_getEng (fn off : Nat) (v : Word) (n : Nat) : (s.latchFor fn off v).getEng n = s.getEng n := rfl
@[simp] theorem State.latchFor_getTrack (fn off : Nat) (v : Word) (n : Nat) : (s.latchFor fn off v).getTrack n = s.getTrack n := rfl
@[simp] theorem State.latchFor_getMarker (fn off : Nat) (v : Word) (n : Nat) : (s.latchFor fn off v).getMarker n = s.getMarker n := rfl
@[simp] theorem State.latchFor_getFrame (fn off : Nat) (v : Word) (n : Nat) : (s.latchFor fn off v).getFrame n = s.getFrame n := rfl
@[simp] theorem State.latchFor_getFunc (fn off : Nat) (v : Word) (n : Nat) : (s.latchFor fn off v).getFunc n = s.getFunc n := rfl
@[simp] theorem State.latchFor_getPort (fn off : Nat) (v : Word) (n : Nat) : (s.latchFor fn off v).getPort n = s.getPort n := rfl
@[simp] theorem State.latchFor_getWq (fn off : Nat) (v : Word) (n : Nat) : (s.latchFor fn off v).getWq n = s.getWq n := rfl
@[simp] theorem State.latchFor_byteAt (fn off : Nat) (v : Word) (n : Nat) : (s.latchFor fn off v).byteAt n = s.byteAt n := rfl
@[simp] theorem State.putCmd_rd (k : Nat) (c : Cmd) (g : Field) (i' j' : Nat) : (s.putCmd k c).rd g i' j' = s.rd g i' j' := rfl
@[simp] theorem State.putCmd_on (k : Nat) (c : Cmd) (g : Field) (i' j' : Nat) : (s.putCmd k c).on g i' j' = s.on g i' j' := rfl
@[simp] theorem State.putCmd_getEng (k : Nat) (c : Cmd) (n : Nat) : (s.putCmd k c).getEng n = s.getEng n := rfl
@[simp] theorem State.putCmd_getTrack (k : Nat) (c : Cmd) (n : Nat) : (s.putCmd k c).getTrack n = s.getTrack n := rfl
@[simp] theorem State.putCmd_getMarker (k : Nat) (c : Cmd) (n : Nat) : (s.putCmd k c).getMarker n = s.getMarker n := rfl
@[simp] theorem State.putCmd_getFrame (k : Nat) (c : Cmd) (n : Nat) : (s.putCmd k c).getFrame n = s.getFrame n := rfl
@[simp] theorem State.putCmd_getFunc (k : Nat) (c : Cmd) (n : Nat) : (s.putCmd k c).getFunc n = s.getFunc n := rfl
@[simp] theorem State.putCmd_getPort (k : Nat) (c : Cmd) (n : Nat) : (s.putCmd k c).getPort n = s.getPort n := rfl
@[simp] theorem State.putCmd_getWq (k : Nat) (c : Cmd) (n : Nat) : (s.putCmd k c).getWq n = s.getWq n := rfl
@[simp] theorem State.putCmd_byteAt (k : Nat) (c : Cmd) (n : Nat) : (s.putCmd k c).byteAt n = s.byteAt n := rfl
@[simp] theorem State.draw_rd  (g : Field) (i' j' : Nat) : s.draw.2.rd g i' j' = s.rd g i' j' := rfl
@[simp] theorem State.draw_on  (g : Field) (i' j' : Nat) : s.draw.2.on g i' j' = s.on g i' j' := rfl
@[simp] theorem State.draw_getEng  (n : Nat) : s.draw.2.getEng n = s.getEng n := rfl
@[simp] theorem State.draw_getTrack  (n : Nat) : s.draw.2.getTrack n = s.getTrack n := rfl
@[simp] theorem State.draw_getMarker  (n : Nat) : s.draw.2.getMarker n = s.getMarker n := rfl
@[simp] theorem State.draw_getFrame  (n : Nat) : s.draw.2.getFrame n = s.getFrame n := rfl
@[simp] theorem State.draw_getFunc  (n : Nat) : s.draw.2.getFunc n = s.getFunc n := rfl
@[simp] theorem State.draw_getPort  (n : Nat) : s.draw.2.getPort n = s.getPort n := rfl
@[simp] theorem State.draw_getWq  (n : Nat) : s.draw.2.getWq n = s.getWq n := rfl
@[simp] theorem State.draw_byteAt  (n : Nat) : s.draw.2.byteAt n = s.byteAt n := rfl
/-! ## draw -/
@[simp] theorem State.draw_pending : s.draw.2.pending = s.pending := rfl
@[simp] theorem State.draw_phase : s.draw.2.phase = s.phase := rfl
@[simp] theorem State.draw_regs : s.draw.2.regs = s.regs := rfl
@[simp] theorem State.draw_latch : s.draw.2.latch = s.latch := rfl
@[simp] theorem State.draw_mem : s.draw.2.mem = s.mem := rfl
@[simp] theorem State.draw_poison : s.draw.2.poison = s.poison := rfl
@[simp] theorem State.draw_upset : s.draw.2.upset = s.upset := rfl
@[simp] theorem State.draw_rowTab : s.draw.2.rowTab = s.rowTab := rfl
@[simp] theorem State.draw_pipeTab : s.draw.2.pipeTab = s.pipeTab := rfl
@[simp] theorem State.draw_msix : s.draw.2.msix = s.msix := rfl
@[simp] theorem State.draw_pba : s.draw.2.pba = s.pba := rfl
@[simp] theorem State.draw_func : s.draw.2.func = s.func := rfl
@[simp] theorem State.draw_vlog : s.draw.2.vlog = s.vlog := rfl
@[simp] theorem State.draw_evc : s.draw.2.evc = s.evc := rfl
@[simp] theorem State.draw_faultN : s.draw.2.faultN = s.faultN := rfl
@[simp] theorem State.draw_track : s.draw.2.track = s.track := rfl
@[simp] theorem State.draw_marker : s.draw.2.marker = s.marker := rfl
@[simp] theorem State.draw_frame : s.draw.2.frame = s.frame := rfl
@[simp] theorem State.draw_tsc : s.draw.2.tsc = s.tsc := rfl
@[simp] theorem State.draw_eng : s.draw.2.eng = s.eng := rfl
@[simp] theorem State.draw_swap : s.draw.2.swap = s.swap := rfl
@[simp] theorem State.draw_wq : s.draw.2.wq = s.wq := rfl
@[simp] theorem State.draw_hostReads : s.draw.2.hostReads = s.hostReads := rfl
@[simp] theorem State.draw_xlat : s.draw.2.xlat = s.xlat := rfl
@[simp] theorem State.draw_fetch : s.draw.2.fetch = s.fetch := rfl
@[simp] theorem State.draw_heldJobs : s.draw.2.heldJobs = s.heldJobs := rfl
@[simp] theorem State.draw_bufUse : s.draw.2.bufUse = s.bufUse := rfl
@[simp] theorem State.draw_port : s.draw.2.port = s.port := rfl
@[simp] theorem State.draw_dma : s.draw.2.dma = s.dma := rfl
@[simp] theorem State.draw_cmds : s.draw.2.cmds = s.cmds := rfl
@[simp] theorem State.draw_fuse : s.draw.2.fuse = s.fuse := rfl
@[simp] theorem State.draw_hlt : s.draw.2.hlt = s.hlt := rfl
@[simp] theorem State.draw_pwr : s.draw.2.pwr = s.pwr := rfl
@[simp] theorem State.draw_boot : s.draw.2.boot = s.boot := rfl
@[simp] theorem State.draw_ddr : s.draw.2.ddr = s.ddr := rfl
@[simp] theorem State.draw_out : s.draw.2.out = s.out := rfl
/-! ## choose -/
@[simp] theorem State.choose_pending (n : Nat) : (s.choose n).2.pending = s.pending := rfl
@[simp] theorem State.choose_phase (n : Nat) : (s.choose n).2.phase = s.phase := rfl
@[simp] theorem State.choose_regs (n : Nat) : (s.choose n).2.regs = s.regs := rfl
@[simp] theorem State.choose_latch (n : Nat) : (s.choose n).2.latch = s.latch := rfl
@[simp] theorem State.choose_mem (n : Nat) : (s.choose n).2.mem = s.mem := rfl
@[simp] theorem State.choose_poison (n : Nat) : (s.choose n).2.poison = s.poison := rfl
@[simp] theorem State.choose_upset (n : Nat) : (s.choose n).2.upset = s.upset := rfl
@[simp] theorem State.choose_rowTab (n : Nat) : (s.choose n).2.rowTab = s.rowTab := rfl
@[simp] theorem State.choose_pipeTab (n : Nat) : (s.choose n).2.pipeTab = s.pipeTab := rfl
@[simp] theorem State.choose_msix (n : Nat) : (s.choose n).2.msix = s.msix := rfl
@[simp] theorem State.choose_pba (n : Nat) : (s.choose n).2.pba = s.pba := rfl
@[simp] theorem State.choose_func (n : Nat) : (s.choose n).2.func = s.func := rfl
@[simp] theorem State.choose_vlog (n : Nat) : (s.choose n).2.vlog = s.vlog := rfl
@[simp] theorem State.choose_evc (n : Nat) : (s.choose n).2.evc = s.evc := rfl
@[simp] theorem State.choose_faultN (n : Nat) : (s.choose n).2.faultN = s.faultN := rfl
@[simp] theorem State.choose_track (n : Nat) : (s.choose n).2.track = s.track := rfl
@[simp] theorem State.choose_marker (n : Nat) : (s.choose n).2.marker = s.marker := rfl
@[simp] theorem State.choose_frame (n : Nat) : (s.choose n).2.frame = s.frame := rfl
@[simp] theorem State.choose_tsc (n : Nat) : (s.choose n).2.tsc = s.tsc := rfl
@[simp] theorem State.choose_eng (n : Nat) : (s.choose n).2.eng = s.eng := rfl
@[simp] theorem State.choose_swap (n : Nat) : (s.choose n).2.swap = s.swap := rfl
@[simp] theorem State.choose_wq (n : Nat) : (s.choose n).2.wq = s.wq := rfl
@[simp] theorem State.choose_hostReads (n : Nat) : (s.choose n).2.hostReads = s.hostReads := rfl
@[simp] theorem State.choose_xlat (n : Nat) : (s.choose n).2.xlat = s.xlat := rfl
@[simp] theorem State.choose_fetch (n : Nat) : (s.choose n).2.fetch = s.fetch := rfl
@[simp] theorem State.choose_heldJobs (n : Nat) : (s.choose n).2.heldJobs = s.heldJobs := rfl
@[simp] theorem State.choose_bufUse (n : Nat) : (s.choose n).2.bufUse = s.bufUse := rfl
@[simp] theorem State.choose_port (n : Nat) : (s.choose n).2.port = s.port := rfl
@[simp] theorem State.choose_dma (n : Nat) : (s.choose n).2.dma = s.dma := rfl
@[simp] theorem State.choose_cmds (n : Nat) : (s.choose n).2.cmds = s.cmds := rfl
@[simp] theorem State.choose_fuse (n : Nat) : (s.choose n).2.fuse = s.fuse := rfl
@[simp] theorem State.choose_hlt (n : Nat) : (s.choose n).2.hlt = s.hlt := rfl
@[simp] theorem State.choose_pwr (n : Nat) : (s.choose n).2.pwr = s.pwr := rfl
@[simp] theorem State.choose_boot (n : Nat) : (s.choose n).2.boot = s.boot := rfl
@[simp] theorem State.choose_ddr (n : Nat) : (s.choose n).2.ddr = s.ddr := rfl
@[simp] theorem State.choose_out (n : Nat) : (s.choose n).2.out = s.out := rfl

/-! ## What was put is read -/

@[simp] theorem State.getTrack_setTrack (t : Nat) (x : Track) : (s.setTrack t x).getTrack t = x := smGet_put_same ..
@[simp] theorem State.getMarker_setMarker (m : Nat) (x : Marker) : (s.setMarker m x).getMarker m = x := smGet_put_same ..
@[simp] theorem State.getFrame_setFrame (p : Nat) (x : FrameSt) : (s.setFrame p x).getFrame p = x := smGet_put_same ..
@[simp] theorem State.getEng_setEng (e : Nat) (x : Eng) : (s.setEng e x).getEng e = x := smGet_put_same ..
@[simp] theorem State.getFunc_setFunc (i : Nat) (x : Func) : (s.setFunc i x).getFunc i = x := smGet_put_same ..
@[simp] theorem State.getPort_setPort (p : Nat) (x : Port) : (s.setPort p x).getPort p = x := smGet_put_same ..
@[simp] theorem State.getWq_setWq (c : Nat) (x : Wqc) : (s.setWq c x).getWq c = x := smGet_put_same ..
@[simp] theorem State.byteAt_putByte (a : Nat) (b : Byte) : (s.putByte a b).byteAt a = b := smGet_put_same ..

/-- A register field reads what was written, within its width. -/
@[simp] theorem State.rd_wr_same (f : Field) (v i j : Nat) : (s.wr f v i j).rd f i j = v % f.span := by
  have h : ∀ m d, (smFind (smPut m d (f.key i j) (v % f.span)) (f.key i j)).getD d = v % f.span :=
    fun m d => smGet_put_same m d (f.key i j) (v % f.span)
  simp only [State.rd, State.wr, h, Nat.mod_mod]
/-- A field reads a value of its width. -/
theorem State.rd_lt (f : Field) (i j : Nat) : s.rd f i j < f.span := Nat.mod_lt _ (Nat.two_pow_pos _)
/-- A write of one register key leaves every other key. -/
theorem State.wr_regs_ne (f : Field) (v i j k : Nat) (h : k ≠ f.key i j) :
    smFind (s.wr f v i j).regs k = smFind s.regs k := by
  simp only [State.wr, smPut]
  split
  · exact smFind_del_ne _ h
  · exact smFind_ins_ne _ _ h
/-- A register field keeps its value when another key is written. -/
theorem State.rd_wr_ne (f f' : Field) (v i j i' j' : Nat) (h : f'.key i' j' ≠ f.key i j) :
    (s.wr f v i j).rd f' i' j' = s.rd f' i' j' := by
  simp only [State.rd, s.wr_regs_ne f v i j _ h]
/-- Reads of register fields depend on the register table alone. -/
theorem State.rd_congr {s t : State} (h : t.regs = s.regs) (f : Field) (i j : Nat) : t.rd f i j = s.rd f i j := by
  simp only [State.rd, h]
theorem State.getEng_setEng_ne (e d : Nat) (x : Eng) (h : d ≠ e) : (s.setEng e x).getEng d = s.getEng d :=
  smGet_put_ne _ _ _ _ h

end Sys2Proof.Machine
end

