-- ==== Sys2Proof/Laws/Settle.lean ====
section
/-! SUPPORT. What the end of a command may change (`settle`): the event controller's own registers and vectors, outputs,
free values, host reads of a code load, FAULT_N. -/

namespace Sys2Proof.Machine

/-- `t` is `s` but for what `settle` may change. -/
structure Settled (s t : State) : Prop where
  eq : t = { s with regs := t.regs, out := t.out, free := t.free, cmds := { s.cmds with cmd := t.cmds.cmd },
                    hostReads := t.hostReads, pba := t.pba, evc := t.evc, faultN := t.faultN }
  regs : ∀ k, evcKey k = false → smFind t.regs k = smFind s.regs k
  out : ∃ l, t.out = l ++ s.out

theorem Settled.refl (s : State) : Settled s s := ⟨rfl, fun _ _ => rfl, [], rfl⟩
theorem Settled.trans {s t u : State} (h : Settled s t) (g : Settled t u) : Settled s u := by
  refine ⟨?_, fun k hk => (g.regs k hk).trans (h.regs k hk), ?_⟩
  · have b := g.eq
    rw [h.eq] at b
    exact b
  · obtain ⟨l, hl⟩ := h.out
    obtain ⟨m, hm⟩ := g.out
    exact ⟨m ++ l, by rw [hm, hl, List.append_assoc]⟩
/-- A fold whose every step is `Settled` is `Settled`. -/
theorem Settled.foldl {α : Type} (f : State → α → State) (hf : ∀ s x, Settled s (f s x)) (l : List α) (s : State) :
    Settled s (l.foldl f s) := by
  induction l generalizing s with
  | nil => exact Settled.refl s
  | cons x l ih => exact (hf s x).trans (ih _)

theorem Settled.emit (s : State) (o : Output) : Settled s (s.emit o) := ⟨rfl, fun _ _ => rfl, [o], rfl⟩
/-- A write of an event controller key. -/
theorem Settled.wr (s : State) (f : Field) (v i j : Nat) (h : evcKey (f.key i j) = true) : Settled s (s.wr f v i j) :=
  ⟨rfl, fun k hk => s.wr_regs_ne f v i j k (fun e => by simp [e, h] at hk), [], rfl⟩
theorem Settled.count (s : State) (f : Field) (i j : Nat) (h : evcKey (f.key i j) = true) : Settled s (s.count f i j) := by
  unfold State.count
  dsimp only
  split
  · exact .wr s f _ i j h
  · split
    · exact .wr s f _ i j h
    · exact .refl s

theorem vcfgKey (v : Nat) (h : v < 8192) : evcKey (R.EVC_VCFG_STATE.key (v / 64) (v % 64)) = true := by
  have e : R.EVC_VCFG_STATE.key (v / 64) (v % 64) / 32 = 0x38000 + 256 * (v / 64) + 4 * (v % 64) := by
    simp only [Field.key, R.EVC_VCFG_STATE]
    omega
  simp only [evcKey, e, Bool.or_eq_true, Bool.and_eq_true, decide_eq_true_eq]
  right
  omega
theorem cvcfgKey (v : Nat) : evcKey (R.EVC_CVCFG_STATE.key (v % 64) 0) = true := by
  have e : R.EVC_CVCFG_STATE.key (v % 64) 0 / 32 = 0x36000 + 4 * (v % 64) := by
    simp only [Field.key, R.EVC_CVCFG_STATE]
    omega
  simp only [evcKey, e, Bool.or_eq_true, Bool.and_eq_true, decide_eq_true_eq]
  left; right
  omega

theorem Settled.setVec (s : State) (v : Nat) (x : Vec) : Settled s (s.setVec v x) := by
  unfold State.setVec
  dsimp only
  split
  · exact (Settled.wr s _ _ _ _ (vcfgKey v ‹_›)).trans ⟨rfl, fun _ _ => rfl, [], rfl⟩
  · exact (Settled.wr s _ _ _ _ (cvcfgKey (v - 8192))).trans ⟨rfl, fun _ _ => rfl, [], rfl⟩
theorem Settled.sendVec (s : State) (v : Nat) : Settled s (s.sendVec v) := by
  unfold State.sendVec
  dsimp only
  have h := Settled.count s R.EVC_CNT_MSGS 0 0 (by decide)
  split
  · exact h.trans (.emit _ _)
  · exact h.trans (.emit _ _)
theorem Settled.deliver (s : State) (v : Nat) : Settled s (s.deliver v) := by
  unfold State.deliver
  split
  · exact ⟨rfl, fun _ _ => rfl, [], rfl⟩
  · exact Settled.trans (t := { s with pba := setDel s.pba v }) ⟨rfl, fun _ _ => rfl, [], rfl⟩ (.sendVec _ v)
theorem Settled.fireVec (s : State) (v : Nat) : Settled s (s.fireVec v) := (Settled.deliver s v).trans (.setVec _ _ _)
theorem Settled.vecStep (s : State) (v rises : Nat) (level : Bool) : Settled s (s.vecStep v rises level) := by
  unfold State.vecStep
  dsimp only
  split
  · exact (Settled.setVec s v {}).trans ⟨rfl, fun _ _ => rfl, [], rfl⟩
  · split
    · exact .refl s
    · split
      · exact .refl s
      · split
        · exact (Settled.setVec s v _).trans (.fireVec _ _)
        · exact .setVec s v _
      · split
        · exact (Settled.setVec s v _).trans (.fireVec _ _)
        · exact .setVec s v _
/-- The event controller's look changes only its own (R525–R535). -/
theorem Settled.evcLook (s : State) : Settled s s.evcLook := by
  unfold State.evcLook State.forL
  dsimp only
  split
  · split
    · exact .refl s
    · exact (Settled.foldl _ (fun s v => .vecStep s v _ _) _ s).trans ⟨rfl, fun _ _ => rfl, [], rfl⟩
  · exact (Settled.foldl (fun s (e : Nat × Vec) => s.setVec e.1 {}) (fun s e => .setVec s e.1 {}) _ s).trans
      ⟨rfl, fun _ _ => rfl, [], rfl⟩
theorem Settled.drivePin (s : State) : Settled s s.drivePin := by
  unfold State.drivePin
  split
  · exact ⟨rfl, fun _ _ => rfl, [], rfl⟩
  · exact .refl s
theorem Settled.codeRead (s : State) (k : Nat) (c : Cmd) : Settled s (s.codeRead k c) := by
  unfold State.codeRead
  dsimp only
  split
  · exact ⟨rfl, fun _ _ => rfl, [], rfl⟩
  · exact ⟨rfl, fun _ _ => rfl, [_], rfl⟩
theorem Settled.codeGo (s : State) : Settled s s.codeGo := by
  unfold State.codeGo State.forL
  refine Settled.foldl _ (fun s e => ?_) _ s
  dsimp only
  split
  · split
    · exact .codeRead s _ _
    · exact .refl s
  · exact .refl s
/-- `settle` changes only what the event controller, a code load and FAULT_N hold. -/
theorem Settled.settle (s : State) : Settled s s.settle :=
  ((Settled.codeGo s).trans (.evcLook _)).trans (.drivePin _)

/-! ## Reading after `settle` -/

/-- What was put out stays put out. -/
theorem State.mem_settle_out (s : State) (o : Output) (h : o ∈ s.out) : o ∈ s.settle.out := by
  obtain ⟨l, hl⟩ := (Settled.settle s).out
  rw [hl]
  exact List.mem_append_right l h

theorem State.settle_rd (s : State) (f : Field) (i j : Nat) (h : evcKey (f.key i j) = false) :
    s.settle.rd f i j = s.rd f i j := by
  simp only [State.rd, (Settled.settle s).regs _ h]
@[simp] theorem State.settle_pending (s : State) : s.settle.pending = s.pending := by rw [(Settled.settle s).eq]
@[simp] theorem State.settle_phase (s : State) : s.settle.phase = s.phase := by rw [(Settled.settle s).eq]
@[simp] theorem State.settle_latch (s : State) : s.settle.latch = s.latch := by rw [(Settled.settle s).eq]
@[simp] theorem State.settle_mem (s : State) : s.settle.mem = s.mem := by rw [(Settled.settle s).eq]
@[simp] theorem State.settle_poison (s : State) : s.settle.poison = s.poison := by rw [(Settled.settle s).eq]
@[simp] theorem State.settle_upset (s : State) : s.settle.upset = s.upset := by rw [(Settled.settle s).eq]
@[simp] theorem State.settle_rowTab (s : State) : s.settle.rowTab = s.rowTab := by rw [(Settled.settle s).eq]
@[simp] theorem State.settle_pipeTab (s : State) : s.settle.pipeTab = s.pipeTab := by rw [(Settled.settle s).eq]
@[simp] theorem State.settle_msix (s : State) : s.settle.msix = s.msix := by rw [(Settled.settle s).eq]
@[simp] theorem State.settle_func (s : State) : s.settle.func = s.func := by rw [(Settled.settle s).eq]
@[simp] theorem State.settle_vlog (s : State) : s.settle.vlog = s.vlog := by rw [(Settled.settle s).eq]
@[simp] theorem State.settle_track (s : State) : s.settle.track = s.track := by rw [(Settled.settle s).eq]
@[simp] theorem State.settle_marker (s : State) : s.settle.marker = s.marker := by rw [(Settled.settle s).eq]
@[simp] theorem State.settle_frame (s : State) : s.settle.frame = s.frame := by rw [(Settled.settle s).eq]
@[simp] theorem State.settle_tsc (s : State) : s.settle.tsc = s.tsc := by rw [(Settled.settle s).eq]
@[simp] theorem State.settle_eng (s : State) : s.settle.eng = s.eng := by rw [(Settled.settle s).eq]
@[simp] theorem State.settle_swap (s : State) : s.settle.swap = s.swap := by rw [(Settled.settle s).eq]
@[simp] theorem State.settle_wq (s : State) : s.settle.wq = s.wq := by rw [(Settled.settle s).eq]
@[simp] theorem State.settle_fetch (s : State) : s.settle.fetch = s.fetch := by rw [(Settled.settle s).eq]
@[simp] theorem State.settle_heldJobs (s : State) : s.settle.heldJobs = s.heldJobs := by rw [(Settled.settle s).eq]
@[simp] theorem State.settle_bufUse (s : State) : s.settle.bufUse = s.bufUse := by rw [(Settled.settle s).eq]
@[simp] theorem State.settle_port (s : State) : s.settle.port = s.port := by rw [(Settled.settle s).eq]
@[simp] theorem State.settle_dma (s : State) : s.settle.dma = s.dma := by rw [(Settled.settle s).eq]
@[simp] theorem State.settle_fuse (s : State) : s.settle.fuse = s.fuse := by rw [(Settled.settle s).eq]
@[simp] theorem State.settle_hlt (s : State) : s.settle.hlt = s.hlt := by rw [(Settled.settle s).eq]
@[simp] theorem State.settle_pwr (s : State) : s.settle.pwr = s.pwr := by rw [(Settled.settle s).eq]
@[simp] theorem State.settle_boot (s : State) : s.settle.boot = s.boot := by rw [(Settled.settle s).eq]
@[simp] theorem State.settle_ddr (s : State) : s.settle.ddr = s.ddr := by rw [(Settled.settle s).eq]
@[simp] theorem State.settle_getEng (s : State) (e : Nat) : s.settle.getEng e = s.getEng e := by simp [State.getEng]
@[simp] theorem State.settle_getTrack (s : State) (t : Nat) : s.settle.getTrack t = s.getTrack t := by simp [State.getTrack]
@[simp] theorem State.settle_getMarker (s : State) (m : Nat) : s.settle.getMarker m = s.getMarker m := by simp [State.getMarker]
@[simp] theorem State.settle_getFrame (s : State) (p : Nat) : s.settle.getFrame p = s.getFrame p := by simp [State.getFrame]
@[simp] theorem State.settle_getFunc (s : State) (i : Nat) : s.settle.getFunc i = s.getFunc i := by simp [State.getFunc]
@[simp] theorem State.settle_getPort (s : State) (p : Nat) : s.settle.getPort p = s.getPort p := by simp [State.getPort]
@[simp] theorem State.settle_getWq (s : State) (c : Nat) : s.settle.getWq c = s.getWq c := by simp [State.getWq]
@[simp] theorem State.settle_byteAt (s : State) (a : Nat) : s.settle.byteAt a = s.byteAt a := by simp [State.byteAt]

/-- `settle` changes nothing that `still` shows. -/
@[simp] theorem State.settle_still (s : State) : s.settle.still = s.still := by
  rw [State.still, (Settled.settle s).eq]
  rfl
/-- Registers kept before `settle` are kept after it. -/
theorem State.regsKept_settle {s t : State} {l : List Nat} (h : s.regsKept t l) : s.regsKept t.settle l :=
  fun k hk hl => ((Settled.settle t).regs k hk).trans (h k hk hl)
theorem State.regsKept_refl (s : State) (l : List Nat) : s.regsKept s l := fun _ _ _ => rfl
/-- One more key written. -/
theorem State.regsKept_wr {s t : State} {l : List Nat} (h : s.regsKept t l) (f : Field) (v i j : Nat)
    (hk : f.key i j ∈ l) : s.regsKept (t.wr f v i j) l :=
  fun k he hl => (t.wr_regs_ne f v i j k (fun e => hl (e ▸ hk))).trans (h k he hl)
/-- A change outside the registers keeps them. -/
theorem State.regsKept_congr {s t u : State} {l : List Nat} (h : s.regsKept t l) (e : u.regs = t.regs) : s.regsKept u l :=
  fun k he hl => by rw [e]; exact h k he hl

/-- A command of the operating device. -/
theorem act_running (s : State) (f : State → State) (h : s.phase = .running) : act s f = .next (f s).settle := by
  simp [act, h]
/-- A command in reset, during a power-on delay or in Off. -/
theorem act_not_running (s : State) (f : State → State) (h : s.phase ≠ .running) : act s f = .next s := by
  simp [act, h]

end Sys2Proof.Machine
end

