-- ==== Sys2Proof/Laws/Engine.lean ====
section
/-! SUPPORT. What one engine instruction can do: the cycle it counts, the causes it meets, how it retires. -/

namespace Sys2Proof.Machine

/-- `t` is `s` in which engine e has counted cycles and free values have been drawn. -/
structure Ticked (s t : State) (e : Nat) : Prop where
  eq : t = { s with eng := t.eng, free := t.free }
  eng : ∃ n, t.getEng e = { s.getEng e with lcyc := n, hbRet := true }
  others : ∀ d, d ≠ e → t.getEng d = s.getEng d

theorem Ticked.tick (s : State) (e : Nat) : Ticked s (s.tick e) e := by
  refine ⟨rfl, ⟨_, State.getEng_setEng _ e _⟩, fun d h => ?_⟩
  exact State.getEng_setEng_ne _ e d _ h

theorem Ticked.draw {s t : State} {e : Nat} (h : Ticked s t e) : Ticked s t.draw.2 e := by
  exact ⟨congrArg (fun u : State => { u with free := t.free + 1 }) h.eq, h.eng, h.others⟩

theorem State.physOf_congr {s t : State} (h : t.regs = s.regs) (e : Nat) : t.physOf e = s.physOf e := by
  unfold State.physOf State.erd State.rd
  rw [h]

/-- A word that is stored clean is read clean, and nothing is counted. -/
theorem State.readWord_clean (s : State) (a : Nat) (hu : smGet s.upset 0 (a / 4) = 0)
    (hp : setHas s.poison (a / 4) = false) : s.readWord a = (s.rawWord (a / 4 * 4), false, s) := by
  have e : a / 4 * 4 / 4 = a / 4 := by omega
  have hq : s.poisoned (a / 4 * 4) = false := by rw [State.poisoned, e, hp]
  simp only [State.readWord, e, hu, hq]

/-- Where an engine runs, its instruction meets no base cause; its own causes and effect follow. -/
theorem State.instr_runs {α : Type} (s : State) (e : Nat) (falls : Bool) (regs : List Nat)
    (extra : Bool → State → List Cause × Option Nat × α × State) (effect : α → State → State)
    (h : s.runs e falls regs) :
    ∃ t, Ticked s t e ∧ s.instr e true falls regs extra effect =
      (match lowest (extra true t).1 with
       | some c => (extra true t).2.2.2.except e c (extra true t).2.1
       | none => effect (extra true t).2.2.1 (extra true t).2.2.2) := by
  obtain ⟨hph, hi, hpc, hf, ⟨i, hphys, hup, hpo⟩, hreg⟩ := h
  have T := Ticked.tick s e
  obtain ⟨n, hn⟩ := T.eng
  have hx : (s.tick e).getEng e = { s.getEng e with lcyc := n, hbRet := true } := hn
  have hp2 : (s.tick e).physOf e = some i := (State.physOf_congr (by rw [T.eq]) e).trans hphys
  have hu2 : (s.tick e).upset = s.upset := by rw [T.eq]
  have hpo2 : (s.tick e).poison = s.poison := by rw [T.eq]
  have hw : (s.tick e).readWord (saEngine i + (s.getEng e).pc.toNat) =
      ((s.tick e).rawWord ((saEngine i + (s.getEng e).pc.toNat) / 4 * 4), false, s.tick e) :=
    State.readWord_clean _ _ (by rw [hu2]; exact hup) (by rw [hpo2]; exact hpo)
  have hnp : ¬ (0x4000 ≤ (s.getEng e).pc.toNat) := Nat.not_le.mpr hpc
  have hfall : ¬ ((s.getEng e).pc.toNat / 4 = 4095 ∧ falls = true) := fun ⟨a, b⟩ => hf b a
  have hfind : regs.find? (fun n => n != 0 && (s.getEng e).parBad.contains n) = none := by
    rw [List.find?_eq_none]
    intro m hm
    rcases hreg m hm with h0 | h0
    · simp [h0]
    · simp [h0]
  have hb : (s.tick e).baseCauses e true falls regs = ([], (s.tick e).draw.2) := by
    simp only [State.baseCauses, hx, hp2, hpc, if_true, hw, hnp, hfall, if_false, hfind]
    rfl
  refine ⟨(s.tick e).draw.2, T.draw, ?_⟩
  simp only [State.instr, hi, Bool.not_true, Bool.false_eq_true, if_false, hb, lowest]
  try rfl

/-- What ends every instruction that retires: its halt, if one is due, and the registers that show its state. -/
structure Parked (s t : State) (e : Nat) : Prop where
  eng : t.getEng e = { s.getEng e with hbHalt := (t.getEng e).hbHalt, step := (t.getEng e).step }
  others : ∀ d, d ≠ e → t.getEng d = s.getEng d
  still : t.still = { s with eng := t.eng }.still
  regs : s.regsKept t (engKeys e)

theorem Parked.syncEng (s : State) (e : Nat) : Parked s (s.syncEng e) e := by
  refine ⟨rfl, fun _ _ => rfl, rfl, ?_⟩
  refine State.regsKept_wr (State.regsKept_wr (State.regsKept_wr (s.regsKept_refl _) _ _ _ _ ?_) _ _ _ _ ?_) _ _ _ _ ?_ <;>
    simp [engKeys]
theorem State.dbgHalt_getEng (s : State) (e d : Nat) :
    (s.dbgHalt e).getEng d = (s.setEng e { s.getEng e with step := false, hbHalt := true }).getEng d := by
  unfold State.dbgHalt State.syncEng State.ewr
  dsimp only
  simp only [State.wr_getEng]
theorem State.dbgHalt_still (s : State) (e : Nat) :
    (s.dbgHalt e).still = { s with eng := (s.dbgHalt e).eng }.still := by
  unfold State.dbgHalt State.syncEng State.ewr State.wr State.setEng
  rfl
theorem Parked.dbgHalt (s : State) (e : Nat) : Parked s (s.dbgHalt e) e := by
  refine ⟨?_, fun d h => ?_, s.dbgHalt_still e, ?_⟩
  · rw [State.dbgHalt_getEng, State.getEng_setEng]
  · rw [State.dbgHalt_getEng]
    exact s.getEng_setEng_ne e d _ h
  · have h0 : s.regsKept (s.setEng e { s.getEng e with step := false, hbHalt := true }) (engKeys e) :=
      fun k _ _ => by rw [State.setEng_regs]
    have h1 := State.regsKept_wr h0 R.ENG_DBG_HALTED 1 (ropeOf e) (slotOf e) (by simp [engKeys])
    have h2 := State.regsKept_wr h1 R.ENG_DBG_HALTREQ 0 (ropeOf e) (slotOf e) (by simp [engKeys])
    have h3 := State.regsKept_wr h2 R.ENG_DBG_STEP 0 (ropeOf e) (slotOf e) (by simp [engKeys])
    have h4 := fun n => State.regsKept_wr h3 R.ENG_DBGPC_PC n (ropeOf e) (slotOf e) (by simp [engKeys])
    have h5 := fun n => State.regsKept_wr (h4 n) R.ENG_ESTAT_DBGHALT 1 (ropeOf e) (slotOf e) (by simp [engKeys])
    exact fun k hk hl => ((Parked.syncEng _ e).regs k hk hl).trans (h5 _ k hk hl)
theorem Parked.afterInstr (s : State) (e : Nat) : Parked s (s.afterInstr e) e := by
  unfold State.afterInstr
  split
  · exact .dbgHalt s e
  · exact .syncEng s e

/-- `w` is `t` but for engine e, which is `y`. -/
structure EngOnly (t w : State) (e : Nat) (y : Eng) : Prop where
  eng : w.getEng e = y
  others : ∀ d, d ≠ e → w.getEng d = t.getEng d
  eq : w = { t with eng := w.eng }
theorem EngOnly.refl (s : State) (e : Nat) : EngOnly s s e (s.getEng e) := ⟨rfl, fun _ _ => rfl, rfl⟩
theorem EngOnly.setEng {t w : State} {e : Nat} {y : Eng} (h : EngOnly t w e y) (z : Eng) : EngOnly t (w.setEng e z) e z :=
  ⟨State.getEng_setEng _ _ _, fun d hd => (State.getEng_setEng_ne _ _ _ _ hd).trans (h.others d hd),
    congrArg (fun u : State => { u with eng := smPut w.eng {} e z }) h.eq⟩

/-- A retired instruction from its parts: what was ticked, the engine it left, what ended it. -/
theorem State.retired_of {s t w u : State} {e : Nat} {x y : Eng} {m : BitVec 33} (T : Ticked s t e) (W : EngOnly t w e y)
    (hy : y = { x with lcyc := m, hbRet := true }) (P : Parked w u e) : s.retired u.settle e x := by
  subst hy
  have a := P.eng
  rw [W.eng] at a
  refine ⟨?_, fun d h => ?_, ?_, ?_⟩
  · unfold State.holds
    rw [State.settle_getEng]
    have b : (u.getEng e).lcyc = m := by rw [a]
    rw [b]
    exact a
  · rw [State.settle_getEng, P.others d h, W.others d h, T.others d h]
  · rw [State.settle_still, State.settle_eng, P.still, W.eq, T.eq]
    rfl
  · refine State.regsKept_settle fun k hk hl => (P.regs k hk hl).trans ?_
    rw [W.eq, T.eq]

theorem Parked.retireNext (s : State) (e : Nat) :
    Parked (s.setEng e { s.getEng e with pc := (s.getEng e).pc + 4 }) (s.retireNext e) e := .afterInstr _ e
theorem Parked.retireAtPc (s : State) (e : Nat) (pc : Word) :
    Parked (s.setEng e { s.getEng e with pc := pc }) (s.retireAtPc e pc) e := .afterInstr _ e

/-- Nothing an instruction computes from its engine depends on the cycle count. -/
def Eng.uniform (f : Eng → Eng) : Prop :=
  ∀ (x : Eng) (m : BitVec 33), f { x with lcyc := m, hbRet := true } = { f x with lcyc := m, hbRet := true }

/-- An instruction that only changes its engine's registers retires. -/
theorem State.regInstr_retires (s : State) (e : EngNo) (regs : List Nat) (f : Eng → Eng) (hf : Eng.uniform f)
    (h : s.runs e.toNat true regs) :
    ∃ t, act s (fun s => s.regInstr e.toNat true regs f) = .next t ∧ s.retired t e.toNat (f (s.getEng e.toNat)).next := by
  obtain ⟨t, T, ht⟩ := State.instr_runs s e.toNat true regs noCause
    (fun _ s => (s.setEng e.toNat (f (s.getEng e.toNat))).retireNext e.toNat) h
  refine ⟨_, act_running _ _ h.1, ?_⟩
  rw [State.regInstr, ht]
  obtain ⟨n, hn⟩ := T.eng
  have P := Parked.retireNext (t.setEng e.toNat (f (t.getEng e.toNat))) e.toNat
  rw [State.getEng_setEng] at P
  exact State.retired_of (m := n) T (((EngOnly.refl t _).setEng _).setEng _) (by rw [hn, hf]; rfl) P

/-- The same for a command whose meaning is such an instruction: what it leaves. -/
theorem State.leaves_of {s : State} {i : Instr} {e : EngNo} {regs : List Nat} {f : Eng → Eng} {y : Eng}
    (hx : exec i s = act s (fun s => s.regInstr e.toNat true regs f)) (hf : Eng.uniform f)
    (h : s.runs e.toNat true regs) (hy : (f (s.getEng e.toNat)).next = y) : s.leaves i e.toNat y := by
  subst hy
  obtain ⟨t, h1, h2⟩ := State.regInstr_retires s e regs f hf h
  exact ⟨t, hx.trans h1, h2⟩

/-! ## What the register updates leave alone -/

@[simp] theorem Eng.gr_lcyc (x : Eng) (m : BitVec 33) (n : Nat) : ({ x with lcyc := m, hbRet := true } : Eng).gr n = x.gr n := rfl
@[simp] theorem Eng.vr_lcyc (x : Eng) (m : BitVec 33) (n : Nat) : ({ x with lcyc := m, hbRet := true } : Eng).vr n = x.vr n := rfl
theorem Eng.setG_lcyc (x : Eng) (m : BitVec 33) (n : Nat) (v : Word) :
    ({ x with lcyc := m, hbRet := true } : Eng).setG n v = { x.setG n v with lcyc := m, hbRet := true } := by
  unfold Eng.setG
  split <;> rfl
@[simp] theorem Eng.setG_flags (x : Eng) (n : Nat) (v : Word) : (x.setG n v).flags = x.flags := by
  unfold Eng.setG
  split <;> rfl
@[simp] theorem Eng.setG_flagC (x : Eng) (n : Nat) (v : Word) : (x.setG n v).flagC = x.flagC := by simp [Eng.flagC]
@[simp] theorem Eng.setG_acp (x : Eng) (n : Nat) (v : Word) : (x.setG n v).acp = x.acp := by
  unfold Eng.setG
  split <;> rfl
/-- g0 discards what is written (R316). -/
@[simp] theorem Eng.setG_zero (x : Eng) (v : Word) : x.setG 0 v = x := rfl
/-- gn reads what was written to it; g0 reads 0 (R316). -/
theorem Eng.gr_setG (x : Eng) (n k : Nat) (v : Word) :
    (x.setG n v).gr k = if k = 0 then 0 else if k = n then v else x.gr k := by
  unfold Eng.gr Eng.setG
  split
  · rfl
  · split
    · subst_vars
      simp_all
    · by_cases h : k = n <;> simp_all [smGet_put_ne]

end Sys2Proof.Machine
end

