-- ==== Sys2Proof/Laws/Exec.lean ====
section
/-! SUPPORT. What `exec` calls for each constructor, so that no proof unfolds the dispatch. -/

namespace Sys2Proof.Machine

@[simp] theorem exec_registerWrite fn off size val ep meet (s : State) : exec (.registerWrite fn off size val ep meet) s = execRegisterWrite fn off size val ep meet s := rfl
@[simp] theorem exec_cntLowWordRead fn r (s : State) : exec (.cntLowWordRead fn r) s = execCntLowWordRead fn r s := rfl
@[simp] theorem exec_listApertureWrite fn word val ep (s : State) : exec (.listApertureWrite fn word val ep) s = execListApertureWrite fn word val ep s := rfl
@[simp] theorem exec_cairnApertureWrite fn c w val ep (s : State) : exec (.cairnApertureWrite fn c w val ep) s = execCairnApertureWrite fn c w val ep s := rfl
@[simp] theorem exec_ptuClockTick (s : State) : exec .ptuClockTick s = execPtuClockTick s := rfl
@[simp] theorem exec_tincWrite fn val (s : State) : exec (.tincWrite fn val) s = execTincWrite fn val s := rfl
@[simp] theorem exec_timeLoad fn (s : State) : exec (.timeLoad fn) s = execTimeLoad fn s := rfl
@[simp] theorem exec_timeStep fn (s : State) : exec (.timeStep fn) s = execTimeStep fn s := rfl
@[simp] theorem exec_timeloReadLatch fn (s : State) : exec (.timeloReadLatch fn) s = execTimeloReadLatch fn s := rfl
@[simp] theorem exec_encoderEdge t k a b (s : State) : exec (.encoderEdge t k a b) s = execEncoderEdge t k a b s := rfl
@[simp] theorem exec_encoderZEdge z (s : State) : exec (.encoderZEdge z) s = execEncoderZEdge z s := rfl
@[simp] theorem exec_trackStopped t (s : State) : exec (.trackStopped t) s = execTrackStopped t s := rfl
@[simp] theorem exec_trackPreset fn t (s : State) : exec (.trackPreset fn t) s = execTrackPreset fn t s := rfl
@[simp] theorem exec_trkposfReadLatch fn t (s : State) : exec (.trkposfReadLatch fn t) s = execTrkposfReadLatch fn t s := rfl
@[simp] theorem exec_positionReport p pkt (s : State) : exec (.positionReport p pkt) s = execPositionReport p pkt s := rfl
@[simp] theorem exec_trackStale t (s : State) : exec (.trackStale t) s = execTrackStale t s := rfl
@[simp] theorem exec_markerTargetWrite fn m val (s : State) : exec (.markerTargetWrite fn m val) s = execMarkerTargetWrite fn m val s := rfl
@[simp] theorem exec_markerStepWrite fn m val (s : State) : exec (.markerStepWrite fn m val) s = execMarkerStepWrite fn m val s := rfl
@[simp] theorem exec_markerFire m (s : State) : exec (.markerFire m) s = execMarkerFire m s := rfl
@[simp] theorem exec_deferredStartDue p (s : State) : exec (.deferredStartDue p) s = execDeferredStartDue p s := rfl
@[simp] theorem exec_fmaxExpiry p (s : State) : exec (.fmaxExpiry p) s = execFmaxExpiry p s := rfl
@[simp] theorem exec_pfrmWrite fn p val (s : State) : exec (.pfrmWrite fn p val) s = execPfrmWrite fn p val s := rfl
@[simp] theorem exec_pfnumWrite fn p val (s : State) : exec (.pfnumWrite fn p val) s = execPfnumWrite fn p val s := rfl
@[simp] theorem exec_sofTransmit p (s : State) : exec (.sofTransmit p) s = execSofTransmit p s := rfl
@[simp] theorem exec_presencePeriod p (s : State) : exec (.presencePeriod p) s = execPresencePeriod p s := rfl
@[simp] theorem exec_presenceBurst k (s : State) : exec (.presenceBurst k) s = execPresenceBurst k s := rfl
@[simp] theorem exec_delayEcho p seq turnaround roundTrip (s : State) : exec (.delayEcho p seq turnaround roundTrip) s = execDelayEcho p seq turnaround roundTrip s := rfl
@[simp] theorem exec_trainingComplete p idle lat (s : State) : exec (.trainingComplete p idle lat) s = execTrainingComplete p idle lat s := rfl
@[simp] theorem exec_trainingTimeout p (s : State) : exec (.trainingTimeout p) s = execTrainingTimeout p s := rfl
@[simp] theorem exec_trainfailQuietEnd p (s : State) : exec (.trainfailQuietEnd p) s = execTrainfailQuietEnd p s := rfl
@[simp] theorem exec_keepPeriod p (s : State) : exec (.keepPeriod p) s = execKeepPeriod p s := rfl
@[simp] theorem exec_keepBurst k (s : State) : exec (.keepBurst k) s = execKeepBurst k s := rfl
@[simp] theorem exec_keepTimeout p (s : State) : exec (.keepTimeout p) s = execKeepTimeout p s := rfl
@[simp] theorem exec_wakeBurst k (s : State) : exec (.wakeBurst k) s = execWakeBurst k s := rfl
@[simp] theorem exec_resumeComplete p (s : State) : exec (.resumeComplete p) s = execResumeComplete p s := rfl
@[simp] theorem exec_hostResume fn p (s : State) : exec (.hostResume fn p) s = execHostResume fn p s := rfl
@[simp] theorem exec_suspendRequest fn p level (s : State) : exec (.suspendRequest fn p level) s = execSuspendRequest fn p level s := rfl
@[simp] theorem exec_suspendAck p (s : State) : exec (.suspendAck p) s = execSuspendAck p s := rfl
@[simp] theorem exec_suspendNak p (s : State) : exec (.suspendNak p) s = execSuspendNak p s := rfl
@[simp] theorem exec_suspendEntryTimeout p (s : State) : exec (.suspendEntryTimeout p) s = execSuspendEntryTimeout p s := rfl
@[simp] theorem exec_retrainReq p (s : State) : exec (.retrainReq p) s = execRetrainReq p s := rfl
@[simp] theorem exec_marginMeasure p width height (s : State) : exec (.marginMeasure p width height) s = execMarginMeasure p width height s := rfl
@[simp] theorem exec_forceRetrain fn p (s : State) : exec (.forceRetrain fn p) s = execForceRetrain fn p s := rfl
@[simp] theorem exec_fastRetrainComplete p lat (s : State) : exec (.fastRetrainComplete p lat) s = execFastRetrainComplete p lat s := rfl
@[simp] theorem exec_retrainTimeout p (s : State) : exec (.retrainTimeout p) s = execRetrainTimeout p s := rfl
@[simp] theorem exec_blockLockLost k (s : State) : exec (.blockLockLost k) s = execBlockLockLost k s := rfl
@[simp] theorem exec_recoveryComplete p lat (s : State) : exec (.recoveryComplete p lat) s = execRecoveryComplete p lat s := rfl
@[simp] theorem exec_recoveryTimeout p (s : State) : exec (.recoveryTimeout p) s = execRecoveryTimeout p s := rfl
@[simp] theorem exec_portResetRequest fn p (s : State) : exec (.portResetRequest fn p) s = execPortResetRequest fn p s := rfl
@[simp] theorem exec_ewzEnableWrite fn p en (s : State) : exec (.ewzEnableWrite fn p en) s = execEwzEnableWrite fn p en s := rfl
@[simp] theorem exec_skipInsert p (s : State) : exec (.skipInsert p) s = execSkipInsert p s := rfl
@[simp] theorem exec_babbleTimeout p (s : State) : exec (.babbleTimeout p) s = execBabbleTimeout p s := rfl
@[simp] theorem exec_dataPkt p pkt (s : State) : exec (.dataPkt p pkt) s = execDataPkt p pkt s := rfl
@[simp] theorem exec_ack p pkt (s : State) : exec (.ack p pkt) s = execAck p pkt s := rfl
@[simp] theorem exec_nak p pkt (s : State) : exec (.nak p pkt) s = execNak p pkt s := rfl
@[simp] theorem exec_notyet p pkt (s : State) : exec (.notyet p pkt) s = execNotyet p pkt s := rfl
@[simp] theorem exec_stallPkt p pkt (s : State) : exec (.stallPkt p pkt) s = execStallPkt p pkt s := rfl
@[simp] theorem exec_probe p pkt (s : State) : exec (.probe p pkt) s = execProbe p pkt s := rfl
@[simp] theorem exec_ready p pkt (s : State) : exec (.ready p pkt) s = execReady p pkt s := rfl
@[simp] theorem exec_portEvent p pkt (s : State) : exec (.portEvent p pkt) s = execPortEvent p pkt s := rfl
@[simp] theorem exec_responseTimeout p class0 (s : State) : exec (.responseTimeout p class0) s = execResponseTimeout p class0 s := rfl
@[simp] theorem exec_burstGapTimeout p (s : State) : exec (.burstGapTimeout p) s = execBurstGapTimeout p s := rfl
@[simp] theorem exec_probeIntervalExpiry p addr dirIn ep (s : State) : exec (.probeIntervalExpiry p addr dirIn ep) s = execProbeIntervalExpiry p addr dirIn ep s := rfl
@[simp] theorem exec_walkerServeBurst p (s : State) : exec (.walkerServeBurst p) s = execWalkerServeBurst p s := rfl
@[simp] theorem exec_guardSend p (s : State) : exec (.guardSend p) s = execGuardSend p s := rfl
@[simp] theorem exec_listSync fn p (s : State) : exec (.listSync fn p) s = execListSync fn p s := rfl
@[simp] theorem exec_listSyncClear p (s : State) : exec (.listSyncClear p) s = execListSyncClear p s := rfl
@[simp] theorem exec_descriptorCancel fn p desc (s : State) : exec (.descriptorCancel fn p desc) s = execDescriptorCancel fn p desc s := rfl
@[simp] theorem exec_class0TokenIssue p (s : State) : exec (.class0TokenIssue p) s = execClass0TokenIssue p s := rfl
@[simp] theorem exec_emitPacketSend p pair latency (s : State) : exec (.emitPacketSend p pair latency) s = execEmitPacketSend p pair latency s := rfl
@[simp] theorem exec_reflexMaxRead fn r (s : State) : exec (.reflexMaxRead fn r) s = execReflexMaxRead fn r s := rfl
@[simp] theorem exec_activate fn c (s : State) : exec (.activate fn c) s = execActivate fn c s := rfl
@[simp] theorem exec_deactivate fn c (s : State) : exec (.deactivate fn c) s = execDeactivate fn c s := rfl
@[simp] theorem exec_markerOperandOffer m (s : State) : exec (.markerOperandOffer m) s = execMarkerOperandOffer m s := rfl
@[simp] theorem exec_timerExpiry c (s : State) : exec (.timerExpiry c) s = execTimerExpiry c s := rfl
@[simp] theorem exec_yieldTimeout c (s : State) : exec (.yieldTimeout c) s = execYieldTimeout c s := rfl
@[simp] theorem exec_dispatchAssign (s : State) : exec .dispatchAssign s = execDispatchAssign s := rfl
@[simp] theorem exec_threadStart e (s : State) : exec (.threadStart e) s = execThreadStart e s := rfl
@[simp] theorem exec_rfxnWrite fn r n (s : State) : exec (.rfxnWrite fn r n) s = execRfxnWrite fn r n s := rfl
@[simp] theorem exec_reflexSetActive r (s : State) : exec (.reflexSetActive r) s = execReflexSetActive r s := rfl
@[simp] theorem exec_detectorPass (s : State) : exec .detectorPass s = execDetectorPass s := rfl
@[simp] theorem exec_completionQueueOffer p k (s : State) : exec (.completionQueueOffer p k) s = execCompletionQueueOffer p k s := rfl
@[simp] theorem exec_sendRetryExpiry e (s : State) : exec (.sendRetryExpiry e) s = execSendRetryExpiry e s := rfl
@[simp] theorem exec_completionRecordMerge e (s : State) : exec (.completionRecordMerge e) s = execCompletionRecordMerge e s := rfl
@[simp] theorem exec_cloadWrite fn e v (s : State) : exec (.cloadWrite fn e v) s = execCloadWrite fn e v s := rfl
@[simp] theorem exec_cgrpWrite fn e v (s : State) : exec (.cgrpWrite fn e v) s = execCgrpWrite fn e v s := rfl
@[simp] theorem exec_accdataRead fn r (s : State) : exec (.accdataRead fn r) s = execAccdataRead fn r s := rfl
@[simp] theorem exec_accdataWrite fn r val (s : State) : exec (.accdataWrite fn r val) s = execAccdataWrite fn r val s := rfl
@[simp] theorem exec_softwareAttention e (s : State) : exec (.softwareAttention e) s = execSoftwareAttention e s := rfl
@[simp] theorem exec_localTimeRead e rd (s : State) : exec (.localTimeRead e rd) s = execLocalTimeRead e rd s := rfl
@[simp] theorem exec_watchdogExpiry e (s : State) : exec (.watchdogExpiry e) s = execWatchdogExpiry e s := rfl
@[simp] theorem exec_waitTimeout e (s : State) : exec (.waitTimeout e) s = execWaitTimeout e s := rfl
@[simp] theorem exec_heartbeatSend e (s : State) : exec (.heartbeatSend e) s = execHeartbeatSend e s := rfl
@[simp] theorem exec_selfCheck e pass (s : State) : exec (.selfCheck e pass) s = execSelfCheck e pass s := rfl
@[simp] theorem exec_debugHaltRequest fn e (s : State) : exec (.debugHaltRequest fn e) s = execDebugHaltRequest fn e s := rfl
@[simp] theorem exec_debugStep fn e (s : State) : exec (.debugStep fn e) s = execDebugStep fn e s := rfl
@[simp] theorem exec_debugResume fn e (s : State) : exec (.debugResume fn e) s = execDebugResume fn e s := rfl
@[simp] theorem exec_add e f (s : State) : exec (.add e f) s = execAdd e f s := rfl
@[simp] theorem exec_sub e f (s : State) : exec (.sub e f) s = execSub e f s := rfl
@[simp] theorem exec_adc e f (s : State) : exec (.adc e f) s = execAdc e f s := rfl
@[simp] theorem exec_sbc e f (s : State) : exec (.sbc e f) s = execSbc e f s := rfl
@[simp] theorem exec_andr e f (s : State) : exec (.andr e f) s = execAndr e f s := rfl
@[simp] theorem exec_orr e f (s : State) : exec (.orr e f) s = execOrr e f s := rfl
@[simp] theorem exec_xorr e f (s : State) : exec (.xorr e f) s = execXorr e f s := rfl
@[simp] theorem exec_andn e f (s : State) : exec (.andn e f) s = execAndn e f s := rfl
@[simp] theorem exec_sll e f (s : State) : exec (.sll e f) s = execSll e f s := rfl
@[simp] theorem exec_srl e f (s : State) : exec (.srl e f) s = execSrl e f s := rfl
@[simp] theorem exec_sra e f (s : State) : exec (.sra e f) s = execSra e f s := rfl
@[simp] theorem exec_ror e f (s : State) : exec (.ror e f) s = execRor e f s := rfl
@[simp] theorem exec_mins e f (s : State) : exec (.mins e f) s = execMins e f s := rfl
@[simp] theorem exec_maxs e f (s : State) : exec (.maxs e f) s = execMaxs e f s := rfl
@[simp] theorem exec_minu e f (s : State) : exec (.minu e f) s = execMinu e f s := rfl
@[simp] theorem exec_maxu e f (s : State) : exec (.maxu e f) s = execMaxu e f s := rfl
@[simp] theorem exec_neg e f (s : State) : exec (.neg e f) s = execNeg e f s := rfl
@[simp] theorem exec_abs e f (s : State) : exec (.abs e f) s = execAbs e f s := rfl
@[simp] theorem exec_clz e f (s : State) : exec (.clz e f) s = execClz e f s := rfl
@[simp] theorem exec_popc e f (s : State) : exec (.popc e f) s = execPopc e f s := rfl
@[simp] theorem exec_bswap e f (s : State) : exec (.bswap e f) s = execBswap e f s := rfl
@[simp] theorem exec_sextb e f (s : State) : exec (.sextb e f) s = execSextb e f s := rfl
@[simp] theorem exec_sexth e f (s : State) : exec (.sexth e f) s = execSexth e f s := rfl
@[simp] theorem exec_cmp e f (s : State) : exec (.cmp e f) s = execCmp e f s := rfl
@[simp] theorem exec_tst e f (s : State) : exec (.tst e f) s = execTst e f s := rfl
@[simp] theorem exec_sel e f (s : State) : exec (.sel e f) s = execSel e f s := rfl
@[simp] theorem exec_mul e f (s : State) : exec (.mul e f) s = execMul e f s := rfl
@[simp] theorem exec_mulh e f (s : State) : exec (.mulh e f) s = execMulh e f s := rfl
@[simp] theorem exec_mulhu e f (s : State) : exec (.mulhu e f) s = execMulhu e f s := rfl
@[simp] theorem exec_div e f (s : State) : exec (.div e f) s = execDiv e f s := rfl
@[simp] theorem exec_divu e f (s : State) : exec (.divu e f) s = execDivu e f s := rfl
@[simp] theorem exec_rem e f (s : State) : exec (.rem e f) s = execRem e f s := rfl
@[simp] theorem exec_remu e f (s : State) : exec (.remu e f) s = execRemu e f s := rfl
@[simp] theorem exec_addi e f (s : State) : exec (.addi e f) s = execAddi e f s := rfl
@[simp] theorem exec_cmpi e f (s : State) : exec (.cmpi e f) s = execCmpi e f s := rfl
@[simp] theorem exec_andi e f (s : State) : exec (.andi e f) s = execAndi e f s := rfl
@[simp] theorem exec_ori e f (s : State) : exec (.ori e f) s = execOri e f s := rfl
@[simp] theorem exec_xori e f (s : State) : exec (.xori e f) s = execXori e f s := rfl
@[simp] theorem exec_lui e f (s : State) : exec (.lui e f) s = execLui e f s := rfl
@[simp] theorem exec_slli e f (s : State) : exec (.slli e f) s = execSlli e f s := rfl
@[simp] theorem exec_srli e f (s : State) : exec (.srli e f) s = execSrli e f s := rfl
@[simp] theorem exec_srai e f (s : State) : exec (.srai e f) s = execSrai e f s := rfl
@[simp] theorem exec_rori e f (s : State) : exec (.rori e f) s = execRori e f s := rfl
@[simp] theorem exec_tsti e f (s : State) : exec (.tsti e f) s = execTsti e f s := rfl
@[simp] theorem exec_lb e f (s : State) : exec (.lb e f) s = execLb e f s := rfl
@[simp] theorem exec_lbu e f (s : State) : exec (.lbu e f) s = execLbu e f s := rfl
@[simp] theorem exec_lh e f (s : State) : exec (.lh e f) s = execLh e f s := rfl
@[simp] theorem exec_lhu e f (s : State) : exec (.lhu e f) s = execLhu e f s := rfl
@[simp] theorem exec_lw e f (s : State) : exec (.lw e f) s = execLw e f s := rfl
@[simp] theorem exec_ld e f (s : State) : exec (.ld e f) s = execLd e f s := rfl
@[simp] theorem exec_sb e f (s : State) : exec (.sb e f) s = execSb e f s := rfl
@[simp] theorem exec_sh e f (s : State) : exec (.sh e f) s = execSh e f s := rfl
@[simp] theorem exec_sw e f (s : State) : exec (.sw e f) s = execSw e f s := rfl
@[simp] theorem exec_sd e f (s : State) : exec (.sd e f) s = execSd e f s := rfl
@[simp] theorem exec_aaddW e f (s : State) : exec (.aaddW e f) s = execAaddW e f s := rfl
@[simp] theorem exec_aandW e f (s : State) : exec (.aandW e f) s = execAandW e f s := rfl
@[simp] theorem exec_aorW e f (s : State) : exec (.aorW e f) s = execAorW e f s := rfl
@[simp] theorem exec_axorW e f (s : State) : exec (.axorW e f) s = execAxorW e f s := rfl
@[simp] theorem exec_aswpW e f (s : State) : exec (.aswpW e f) s = execAswpW e f s := rfl
@[simp] theorem exec_acasW e f (s : State) : exec (.acasW e f) s = execAcasW e f s := rfl
@[simp] theorem exec_aaddD e f (s : State) : exec (.aaddD e f) s = execAaddD e f s := rfl
@[simp] theorem exec_aandD e f (s : State) : exec (.aandD e f) s = execAandD e f s := rfl
@[simp] theorem exec_aorD e f (s : State) : exec (.aorD e f) s = execAorD e f s := rfl
@[simp] theorem exec_axorD e f (s : State) : exec (.axorD e f) s = execAxorD e f s := rfl
@[simp] theorem exec_aswpD e f (s : State) : exec (.aswpD e f) s = execAswpD e f s := rfl
@[simp] theorem exec_acasD e f (s : State) : exec (.acasD e f) s = execAcasD e f s := rfl
@[simp] theorem exec_br e f (s : State) : exec (.br e f) s = execBr e f s := rfl
@[simp] theorem exec_j e f (s : State) : exec (.j e f) s = execJ e f s := rfl
@[simp] theorem exec_jal e f (s : State) : exec (.jal e f) s = execJal e f s := rfl
@[simp] theorem exec_jr e f (s : State) : exec (.jr e f) s = execJr e f s := rfl
@[simp] theorem exec_jalr e f (s : State) : exec (.jalr e f) s = execJalr e f s := rfl
@[simp] theorem exec_mfence e f (s : State) : exec (.mfence e f) s = execMfence e f s := rfl
@[simp] theorem exec_ifence e f (s : State) : exec (.ifence e f) s = execIfence e f s := rfl
@[simp] theorem exec_breakpt e f (s : State) : exec (.breakpt e f) s = execBreakpt e f s := rfl
@[simp] theorem exec_xret e f (s : State) : exec (.xret e f) s = execXret e f s := rfl
@[simp] theorem exec_rdf e f (s : State) : exec (.rdf e f) s = execRdf e f s := rfl
@[simp] theorem exec_wrf e f (s : State) : exec (.wrf e f) s = execWrf e f s := rfl
@[simp] theorem exec_send e f (s : State) : exec (.send e f) s = execSend e f s := rfl
@[simp] theorem exec_emit e f (s : State) : exec (.emit e f) s = execEmit e f s := rfl
@[simp] theorem exec_waitNudge e f (s : State) : exec (.waitNudge e f) s = execWaitNudge e f s := rfl
@[simp] theorem exec_nudge e f (s : State) : exec (.nudge e f) s = execNudge e f s := rfl
@[simp] theorem exec_yieldThread e f (s : State) : exec (.yieldThread e f) s = execYieldThread e f s := rfl
@[simp] theorem exec_endThread e f (s : State) : exec (.endThread e f) s = execEndThread e f s := rfl
@[simp] theorem exec_vadd e f (s : State) : exec (.vadd e f) s = execVadd e f s := rfl
@[simp] theorem exec_vsub e f (s : State) : exec (.vsub e f) s = execVsub e f s := rfl
@[simp] theorem exec_vadds e f (s : State) : exec (.vadds e f) s = execVadds e f s := rfl
@[simp] theorem exec_vsubs e f (s : State) : exec (.vsubs e f) s = execVsubs e f s := rfl
@[simp] theorem exec_vand e f (s : State) : exec (.vand e f) s = execVand e f s := rfl
@[simp] theorem exec_vor e f (s : State) : exec (.vor e f) s = execVor e f s := rfl
@[simp] theorem exec_vxor e f (s : State) : exec (.vxor e f) s = execVxor e f s := rfl
@[simp] theorem exec_vmin e f (s : State) : exec (.vmin e f) s = execVmin e f s := rfl
@[simp] theorem exec_vmax e f (s : State) : exec (.vmax e f) s = execVmax e f s := rfl
@[simp] theorem exec_vsll e f (s : State) : exec (.vsll e f) s = execVsll e f s := rfl
@[simp] theorem exec_vsrl e f (s : State) : exec (.vsrl e f) s = execVsrl e f s := rfl
@[simp] theorem exec_vsra e f (s : State) : exec (.vsra e f) s = execVsra e f s := rfl
@[simp] theorem exec_vcmpeq e f (s : State) : exec (.vcmpeq e f) s = execVcmpeq e f s := rfl
@[simp] theorem exec_vcmpgt e f (s : State) : exec (.vcmpgt e f) s = execVcmpgt e f s := rfl
@[simp] theorem exec_vmul e f (s : State) : exec (.vmul e f) s = execVmul e f s := rfl
@[simp] theorem exec_vmov e f (s : State) : exec (.vmov e f) s = execVmov e f s := rfl
@[simp] theorem exec_vsel e f (s : State) : exec (.vsel e f) s = execVsel e f s := rfl
@[simp] theorem exec_vdiv e f (s : State) : exec (.vdiv e f) s = execVdiv e f s := rfl
@[simp] theorem exec_vdivu e f (s : State) : exec (.vdivu e f) s = execVdivu e f s := rfl
@[simp] theorem exec_fadd e f (s : State) : exec (.fadd e f) s = execFadd e f s := rfl
@[simp] theorem exec_fsub e f (s : State) : exec (.fsub e f) s = execFsub e f s := rfl
@[simp] theorem exec_fmul e f (s : State) : exec (.fmul e f) s = execFmul e f s := rfl
@[simp] theorem exec_fma e f (s : State) : exec (.fma e f) s = execFma e f s := rfl
@[simp] theorem exec_fdiv e f (s : State) : exec (.fdiv e f) s = execFdiv e f s := rfl
@[simp] theorem exec_frsq e f (s : State) : exec (.frsq e f) s = execFrsq e f s := rfl
@[simp] theorem exec_fspl e f (s : State) : exec (.fspl e f) s = execFspl e f s := rfl
@[simp] theorem exec_fmin e f (s : State) : exec (.fmin e f) s = execFmin e f s := rfl
@[simp] theorem exec_fmax e f (s : State) : exec (.fmax e f) s = execFmax e f s := rfl
@[simp] theorem exec_fcmplt e f (s : State) : exec (.fcmplt e f) s = execFcmplt e f s := rfl
@[simp] theorem exec_fcmpeq e f (s : State) : exec (.fcmpeq e f) s = execFcmpeq e f s := rfl
@[simp] theorem exec_fabs e f (s : State) : exec (.fabs e f) s = execFabs e f s := rfl
@[simp] theorem exec_fneg e f (s : State) : exec (.fneg e f) s = execFneg e f s := rfl
@[simp] theorem exec_amac e f (s : State) : exec (.amac e f) s = execAmac e f s := rfl
@[simp] theorem exec_amsu e f (s : State) : exec (.amsu e f) s = execAmsu e f s := rfl
@[simp] theorem exec_aclr e f (s : State) : exec (.aclr e f) s = execAclr e f s := rfl
@[simp] theorem exec_ald e f (s : State) : exec (.ald e f) s = execAld e f s := rfl
@[simp] theorem exec_ard e f (s : State) : exec (.ard e f) s = execArd e f s := rfl
@[simp] theorem exec_vcvtif e f (s : State) : exec (.vcvtif e f) s = execVcvtif e f s := rfl
@[simp] theorem exec_vcvtfi e f (s : State) : exec (.vcvtfi e f) s = execVcvtfi e f s := rfl
@[simp] theorem exec_vcvtfiz e f (s : State) : exec (.vcvtfiz e f) s = execVcvtfiz e f s := rfl
@[simp] theorem exec_vsath e f (s : State) : exec (.vsath e f) s = execVsath e f s := rfl
@[simp] theorem exec_vsatub e f (s : State) : exec (.vsatub e f) s = execVsatub e f s := rfl
@[simp] theorem exec_vnarh e f (s : State) : exec (.vnarh e f) s = execVnarh e f s := rfl
@[simp] theorem exec_vld e f (s : State) : exec (.vld e f) s = execVld e f s := rfl
@[simp] theorem exec_vst e f (s : State) : exec (.vst e f) s = execVst e f s := rfl
@[simp] theorem exec_vins e f (s : State) : exec (.vins e f) s = execVins e f s := rfl
@[simp] theorem exec_vext e f (s : State) : exec (.vext e f) s = execVext e f s := rfl
@[simp] theorem exec_vsplat e f (s : State) : exec (.vsplat e f) s = execVsplat e f s := rfl
@[simp] theorem exec_rdacp e f (s : State) : exec (.rdacp e f) s = execRdacp e f s := rfl
@[simp] theorem exec_wracp e f (s : State) : exec (.wracp e f) s = execWracp e f s := rfl
@[simp] theorem exec_functionLevelReset inst (s : State) : exec (.functionLevelReset inst) s = execFunctionLevelReset inst s := rfl
@[simp] theorem exec_vfEnable inst (s : State) : exec (.vfEnable inst) s = execVfEnable inst s := rfl
@[simp] theorem exec_vfDisable inst (s : State) : exec (.vfDisable inst) s = execVfDisable inst s := rfl
@[simp] theorem exec_d3hotTransition inst enter (s : State) : exec (.d3hotTransition inst enter) s = execD3hotTransition inst enter s := rfl
@[simp] theorem exec_atsInvalidation inst page (s : State) : exec (.atsInvalidation inst page) s = execAtsInvalidation inst page s := rfl
@[simp] theorem exec_hostReadCompletion h tag status data ep (s : State) : exec (.hostReadCompletion h tag status data ep) s = execHostReadCompletion h tag status data ep s := rfl
@[simp] theorem exec_completionTimeout h tag (s : State) : exec (.completionTimeout h tag) s = execCompletionTimeout h tag s := rfl
@[simp] theorem exec_hostLinkReset h (s : State) : exec (.hostLinkReset h) s = execHostLinkReset h s := rfl
@[simp] theorem exec_pcieRetrain fn h (s : State) : exec (.pcieRetrain fn h) s = execPcieRetrain fn h s := rfl
@[simp] theorem exec_instanceQuiet inst (s : State) : exec (.instanceQuiet inst) s = execInstanceQuiet inst s := rfl
@[simp] theorem exec_instanceResetComplete inst (s : State) : exec (.instanceResetComplete inst) s = execInstanceResetComplete inst s := rfl
@[simp] theorem exec_selfReset inst (s : State) : exec (.selfReset inst) s = execSelfReset inst s := rfl
@[simp] theorem exec_ownershipRangeWrite fn inst kind val (s : State) : exec (.ownershipRangeWrite fn inst kind val) s = execOwnershipRangeWrite fn inst kind val s := rfl
@[simp] theorem exec_legacyWrite fn inst v (s : State) : exec (.legacyWrite fn inst v) s = execLegacyWrite fn inst v s := rfl
@[simp] theorem exec_queueConfigWrite fn c val (s : State) : exec (.queueConfigWrite fn c val) s = execQueueConfigWrite fn c val s := rfl
@[simp] theorem exec_doorbell fn q val (s : State) : exec (.doorbell fn q val) s = execDoorbell fn q val s := rfl
@[simp] theorem exec_queueEnable fn q val (s : State) : exec (.queueEnable fn q val) s = execQueueEnable fn q val s := rfl
@[simp] theorem exec_queueStop fn q val (s : State) : exec (.queueStop fn q val) s = execQueueStop fn q val s := rfl
@[simp] theorem exec_queueStopComplete c (s : State) : exec (.queueStopComplete c) s = execQueueStopComplete c s := rfl
@[simp] theorem exec_fetchGrant h (s : State) : exec (.fetchGrant h) s = execFetchGrant h s := rfl
@[simp] theorem exec_ringReadComplete c data ep (s : State) : exec (.ringReadComplete c data ep) s = execRingReadComplete c data ep s := rfl
@[simp] theorem exec_repollExpiry c (s : State) : exec (.repollExpiry c) s = execRepollExpiry c s := rfl
@[simp] theorem exec_jobOffer c (s : State) : exec (.jobOffer c) s = execJobOffer c s := rfl
@[simp] theorem exec_headRecordWrite c (s : State) : exec (.headRecordWrite c) s = execHeadRecordWrite c s := rfl
@[simp] theorem exec_commandTake k (s : State) : exec (.commandTake k) s = execCommandTake k s := rfl
@[simp] theorem exec_summary k (s : State) : exec (.summary k) s = execSummary k s := rfl
@[simp] theorem exec_identify k (s : State) : exec (.identify k) s = execIdentify k s := rfl
@[simp] theorem exec_nopCmd k (s : State) : exec (.nopCmd k) s = execNopCmd k s := rfl
@[simp] theorem exec_fwlogRead k (s : State) : exec (.fwlogRead k) s = execFwlogRead k s := rfl
@[simp] theorem exec_instanceQuiesce k (s : State) : exec (.instanceQuiesce k) s = execInstanceQuiesce k s := rfl
@[simp] theorem exec_instanceResume k (s : State) : exec (.instanceResume k) s = execInstanceResume k s := rfl
@[simp] theorem exec_instanceReset k (s : State) : exec (.instanceReset k) s = execInstanceReset k s := rfl
@[simp] theorem exec_instanceRemove k (s : State) : exec (.instanceRemove k) s = execInstanceRemove k s := rfl
@[simp] theorem exec_instanceStatus k (s : State) : exec (.instanceStatus k) s = execInstanceStatus k s := rfl
@[simp] theorem exec_portEnable k (s : State) : exec (.portEnable k) s = execPortEnable k s := rfl
@[simp] theorem exec_portDisable k (s : State) : exec (.portDisable k) s = execPortDisable k s := rfl
@[simp] theorem exec_portReset k (s : State) : exec (.portReset k) s = execPortReset k s := rfl
@[simp] theorem exec_deviceLost k (s : State) : exec (.deviceLost k) s = execDeviceLost k s := rfl
@[simp] theorem exec_pipeClear k (s : State) : exec (.pipeClear k) s = execPipeClear k s := rfl
@[simp] theorem exec_deviceInfo k (s : State) : exec (.deviceInfo k) s = execDeviceInfo k s := rfl
@[simp] theorem exec_listWrite k (s : State) : exec (.listWrite k) s = execListWrite k s := rfl
@[simp] theorem exec_descLink k (s : State) : exec (.descLink k) s = execDescLink k s := rfl
@[simp] theorem exec_descUnlink k (s : State) : exec (.descUnlink k) s = execDescUnlink k s := rfl
@[simp] theorem exec_descCancel k (s : State) : exec (.descCancel k) s = execDescCancel k s := rfl
@[simp] theorem exec_schedStatus k (s : State) : exec (.schedStatus k) s = execSchedStatus k s := rfl
@[simp] theorem exec_cairnActivate k (s : State) : exec (.cairnActivate k) s = execCairnActivate k s := rfl
@[simp] theorem exec_cairnDeactivate k (s : State) : exec (.cairnDeactivate k) s = execCairnDeactivate k s := rfl
@[simp] theorem exec_cairnWrite k (s : State) : exec (.cairnWrite k) s = execCairnWrite k s := rfl
@[simp] theorem exec_cairnRead k (s : State) : exec (.cairnRead k) s = execCairnRead k s := rfl
@[simp] theorem exec_codeLoad k (s : State) : exec (.codeLoad k) s = execCodeLoad k s := rfl
@[simp] theorem exec_engineStatus k (s : State) : exec (.engineStatus k) s = execEngineStatus k s := rfl
@[simp] theorem exec_flowStatus k (s : State) : exec (.flowStatus k) s = execFlowStatus k s := rfl
@[simp] theorem exec_timeRead k (s : State) : exec (.timeRead k) s = execTimeRead k s := rfl
@[simp] theorem exec_trackRead k (s : State) : exec (.trackRead k) s = execTrackRead k s := rfl
@[simp] theorem exec_scrubRange k (s : State) : exec (.scrubRange k) s = execScrubRange k s := rfl
@[simp] theorem exec_memRepair k (s : State) : exec (.memRepair k) s = execMemRepair k s := rfl
@[simp] theorem exec_checkerTest k (s : State) : exec (.checkerTest k) s = execCheckerTest k s := rfl
@[simp] theorem exec_ddrRetrain k (s : State) : exec (.ddrRetrain k) s = execDdrRetrain k s := rfl
@[simp] theorem exec_maintResult k (s : State) : exec (.maintResult k) s = execMaintResult k s := rfl
@[simp] theorem exec_clockSwitch k (s : State) : exec (.clockSwitch k) s = execClockSwitch k s := rfl
@[simp] theorem exec_powerSet k (s : State) : exec (.powerSet k) s = execPowerSet k s := rfl
@[simp] theorem exec_wakeRecord k (s : State) : exec (.wakeRecord k) s = execWakeRecord k s := rfl
@[simp] theorem exec_engineRetire k (s : State) : exec (.engineRetire k) s = execEngineRetire k s := rfl
@[simp] theorem exec_reinstate k (s : State) : exec (.reinstate k) s = execReinstate k s := rfl
@[simp] theorem exec_healthStatus k (s : State) : exec (.healthStatus k) s = execHealthStatus k s := rfl
@[simp] theorem exec_echoDma k (s : State) : exec (.echoDma k) s = execEchoDma k s := rfl
@[simp] theorem exec_poisonInject k (s : State) : exec (.poisonInject k) s = execPoisonInject k s := rfl
@[simp] theorem exec_maintActivityEnd g ok info (s : State) : exec (.maintActivityEnd g ok info) s = execMaintActivityEnd g ok info s := rfl
@[simp] theorem exec_ddrChannelEnable fn ch val (s : State) : exec (.ddrChannelEnable fn ch val) s = execDdrChannelEnable fn ch val s := rfl
@[simp] theorem exec_ddrTrainingComplete ch ok (s : State) : exec (.ddrTrainingComplete ch ok) s = execDdrTrainingComplete ch ok s := rfl
@[simp] theorem exec_ddrRefresh ch rank hot (s : State) : exec (.ddrRefresh ch rank hot) s = execDdrRefresh ch rank hot s := rfl
@[simp] theorem exec_zqCalibration ch rank (s : State) : exec (.zqCalibration ch rank) s = execZqCalibration ch rank s := rfl
@[simp] theorem exec_dqsOscillatorRead ch rank count (s : State) : exec (.dqsOscillatorRead ch rank count) s = execDqsOscillatorRead ch rank count s := rfl
@[simp] theorem exec_fieldRepair g (s : State) : exec (.fieldRepair g) s = execFieldRepair g s := rfl
@[simp] theorem exec_dmaStart fn c (s : State) : exec (.dmaStart fn c) s = execDmaStart fn c s := rfl
@[simp] theorem exec_dmaKick fn c (s : State) : exec (.dmaKick fn c) s = execDmaKick fn c s := rfl
@[simp] theorem exec_dmaStop fn c (s : State) : exec (.dmaStop fn c) s = execDmaStop fn c s := rfl
@[simp] theorem exec_dmaAbort fn c (s : State) : exec (.dmaAbort fn c) s = execDmaAbort fn c s := rfl
@[simp] theorem exec_dmaRestart fn (s : State) : exec (.dmaRestart fn) s = execDmaRestart fn s := rfl
@[simp] theorem exec_dmaEnableWrite fn en (s : State) : exec (.dmaEnableWrite fn en) s = execDmaEnableWrite fn en s := rfl
@[simp] theorem exec_dmaDescriptorRead c (s : State) : exec (.dmaDescriptorRead c) s = execDmaDescriptorRead c s := rfl
@[simp] theorem exec_dmaPollExpiry c (s : State) : exec (.dmaPollExpiry c) s = execDmaPollExpiry c s := rfl
@[simp] theorem exec_dmaBeatArbitration (s : State) : exec .dmaBeatArbitration s = execDmaBeatArbitration s := rfl
@[simp] theorem exec_dmaDescriptorComplete c (s : State) : exec (.dmaDescriptorComplete c) s = execDmaDescriptorComplete c s := rfl
@[simp] theorem exec_dmaPulseOffer c (s : State) : exec (.dmaPulseOffer c) s = execDmaPulseOffer c s := rfl
@[simp] theorem exec_evcEnable fn (s : State) : exec (.evcEnable fn) s = execEvcEnable fn s := rfl
@[simp] theorem exec_eventRouteWrite fn src val (s : State) : exec (.eventRouteWrite fn src val) s = execEventRouteWrite fn src val s := rfl
@[simp] theorem exec_coalesceTimerExpiry v (s : State) : exec (.coalesceTimerExpiry v) s = execCoalesceTimerExpiry v s := rfl
@[simp] theorem exec_repeatTimerExpiry v (s : State) : exec (.repeatTimerExpiry v) s = execRepeatTimerExpiry v s := rfl
@[simp] theorem exec_msixUnmask inst v (s : State) : exec (.msixUnmask inst v) s = execMsixUnmask inst v s := rfl
@[simp] theorem exec_faultReportTake (s : State) : exec .faultReportTake s = execFaultReportTake s := rfl
@[simp] theorem exec_faultRecordClose n (s : State) : exec (.faultRecordClose n) s = execFaultRecordClose n s := rfl
@[simp] theorem exec_faultRecordRead fn n (s : State) : exec (.faultRecordRead fn n) s = execFaultRecordRead fn n s := rfl
@[simp] theorem exec_pllControlWrite fn l val (s : State) : exec (.pllControlWrite fn l val) s = execPllControlWrite fn l val s := rfl
@[simp] theorem exec_pllLock l (s : State) : exec (.pllLock l) s = execPllLock l s := rfl
@[simp] theorem exec_pllReady l (s : State) : exec (.pllReady l) s = execPllReady l s := rfl
@[simp] theorem exec_pllLossOfLock l (s : State) : exec (.pllLossOfLock l) s = execPllLossOfLock l s := rfl
@[simp] theorem exec_clockSourceSwitch fn d src (s : State) : exec (.clockSourceSwitch fn d src) s = execClockSourceSwitch fn d src s := rfl
@[simp] theorem exec_clockSwitchComplete d lost missed (s : State) : exec (.clockSwitchComplete d lost missed) s = execClockSwitchComplete d lost missed s := rfl
@[simp] theorem exec_plannerEvaluation (s : State) : exec .plannerEvaluation s = execPlannerEvaluation s := rfl
@[simp] theorem exec_powerStateExitComplete u (s : State) : exec (.powerStateExitComplete u) s = execPowerStateExitComplete u s := rfl
@[simp] theorem exec_offEntry (s : State) : exec .offEntry s = execOffEntry s := rfl
@[simp] theorem exec_offWake src elapsed b (s : State) : exec (.offWake src elapsed b) s = execOffWake src elapsed b s := rfl
@[simp] theorem exec_heartbeatPeriodEnd e (s : State) : exec (.heartbeatPeriodEnd e) s = execHeartbeatPeriodEnd e s := rfl
@[simp] theorem exec_swapTokenAcquired r (s : State) : exec (.swapTokenAcquired r) s = execSwapTokenAcquired r s := rfl
@[simp] theorem exec_swapSelfCheckDone r pass (s : State) : exec (.swapSelfCheckDone r pass) s = execSwapSelfCheckDone r pass s := rfl
@[simp] theorem exec_swapRemap r (s : State) : exec (.swapRemap r) s = execSwapRemap r s := rfl
@[simp] theorem exec_healthFuseProgrammed (s : State) : exec .healthFuseProgrammed s = execHealthFuseProgrammed s := rfl
@[simp] theorem exec_fenceDrop u (s : State) : exec (.fenceDrop u) s = execFenceDrop u s := rfl
@[simp] theorem exec_ageMeasurement margin monitor (s : State) : exec (.ageMeasurement margin monitor) s = execAgeMeasurement margin monitor s := rfl
@[simp] theorem exec_guardBandStepApplied (s : State) : exec .guardBandStepApplied s = execGuardBandStepApplied s := rfl
@[simp] theorem exec_cpll0Suspect (s : State) : exec .cpll0Suspect s = execCpll0Suspect s := rfl
@[simp] theorem exec_pllRetire fn (s : State) : exec (.pllRetire fn) s = execPllRetire fn s := rfl
@[simp] theorem exec_coreHeartbeat k (s : State) : exec (.coreHeartbeat k) s = execCoreHeartbeat k s := rfl
@[simp] theorem exec_coreHeartbeatExpiry k (s : State) : exec (.coreHeartbeatExpiry k) s = execCoreHeartbeatExpiry k s := rfl
@[simp] theorem exec_reserveCoreReady k (s : State) : exec (.reserveCoreReady k) s = execReserveCoreReady k s := rfl
@[simp] theorem exec_powerOnReset (s : State) : exec .powerOnReset s = execPowerOnReset s := rfl
@[simp] theorem exec_porstRelease oscDly mgr (s : State) : exec (.porstRelease oscDly mgr) s = execPorstRelease oscDly mgr s := rfl
@[simp] theorem exec_oscDelayExpiry b (s : State) : exec (.oscDelayExpiry b) s = execOscDelayExpiry b s := rfl
@[simp] theorem exec_warmResetPin (s : State) : exec .warmResetPin s = execWarmResetPin s := rfl
@[simp] theorem exec_warmResetRequest fn b (s : State) : exec (.warmResetRequest fn b) s = execWarmResetRequest fn b s := rfl
@[simp] theorem exec_firmwareRestart fn b (s : State) : exec (.firmwareRestart fn b) s = execFirmwareRestart fn b s := rfl
@[simp] theorem exec_engineReset fn e (s : State) : exec (.engineReset fn e) s = execEngineReset fn e s := rfl
@[simp] theorem exec_rootPortReset fn p (s : State) : exec (.rootPortReset fn p) s = execRootPortReset fn p s := rfl
@[simp] theorem exec_rootPortResetDone p (s : State) : exec (.rootPortResetDone p) s = execRootPortResetDone p s := rfl
@[simp] theorem exec_i2cWrite index (s : State) : exec (.i2cWrite index) s = execI2cWrite index s := rfl
@[simp] theorem exec_i2cRead hottest sensor (s : State) : exec (.i2cRead hottest sensor) s = execI2cRead hottest sensor s := rfl
@[simp] theorem exec_warmResetRelease b (s : State) : exec (.warmResetRelease b) s = execWarmResetRelease b s := rfl
@[simp] theorem exec_commandWaitExpiry k (s : State) : exec (.commandWaitExpiry k) s = execCommandWaitExpiry k s := rfl
@[simp] theorem exec_hostPortLinkUp h width speed (s : State) : exec (.hostPortLinkUp h width speed) s = execHostPortLinkUp h width speed s := rfl
@[simp] theorem exec_referenceOscillatorStop (s : State) : exec .referenceOscillatorStop s = execReferenceOscillatorStop s := rfl
@[simp] theorem exec_referenceOscillatorRestart (s : State) : exec .referenceOscillatorRestart s = execReferenceOscillatorRestart s := rfl

end Sys2Proof.Machine
end

