-- ==== Sys2Proof/Laws/Lane.lean ====
section
/-! SUPPORT. The lane: descrambling undoes scrambling, and what a packet's blocks are (R72, R131, R169). -/

namespace Sys2Proof.Machine

/-- The taps of the scrambler cancel when its output is put through them again. -/
theorem scr32_scr32 (h : BitVec 58) (x : BitVec 32) : scr32 h (scr32 h x) = x := by
  ext i hi
  simp only [scr32, BitVec.getElem_xor]
  cases x[i] <;> cases (h.extractLsb' 19 32)[i] <;> cases (h.extractLsb' 0 32)[i] <;> rfl

/-- The low bits of two vectors put together, and the high ones. -/
theorem extract_low {v w : Nat} (y : BitVec v) (c : BitVec w) : (y ++ c).extractLsb' 0 w = c := by
  apply BitVec.eq_of_getLsbD_eq
  intro i h
  simp [BitVec.getLsbD_append, h]
theorem extract_high {v w : Nat} (y : BitVec v) (c : BitVec w) : (y ++ c).extractLsb' w v = y := by
  apply BitVec.eq_of_getLsbD_eq
  intro i h
  simp [BitVec.getLsbD_append, h]
theorem joinHalves (x : BitVec 64) : x.extractLsb' 32 32 ++ x.extractLsb' 0 32 = x := by
  ext i h
  simp only [BitVec.getElem_append, BitVec.getElem_extractLsb']
  split
  · simp [BitVec.getLsbD_eq_getElem, h]
  · rw [show 32 + (i - 32) = i by omega]; simp [BitVec.getLsbD_eq_getElem, h]

/-- A block comes back as it was sent, and both ends go on from the same history (R72). -/
theorem descramble64_scramble64 (h : BitVec 58) (x : BitVec 64) : descramble64 h (scramble64 h x).1 = (x, (scramble64 h x).2) := by
  have low (hi lo : BitVec 32) : BitVec.extractLsb' 0 32 (hi ++ lo : BitVec 64) = lo := extract_low hi lo
  have high (hi lo : BitVec 32) : BitVec.extractLsb' 32 32 (hi ++ lo : BitVec 64) = hi := extract_high hi lo
  have join (y : BitVec 64) : (y.extractLsb' 32 32 ++ y.extractLsb' 0 32 : BitVec 64) = y := joinHalves y
  simp only [descramble64, scramble64, low, high, scr32_scr32, join]

/-- Blocks come back as they were sent, whatever the history (R71, R72). -/
theorem descramble_scramble (h : BitVec 58) (l : List Block) : descramble h (scramble h l) = l.map some := by
  induction l generalizing h with
  | nil => rfl
  | cons k l ih =>
    simp only [scramble, descramble, extract_low, extract_high, descramble64_scramble64, ih, List.map_cons, List.cons.injEq, and_true]
    cases k with
    | mk c b => cases c <;> simp

/-- A packet leaves as SOP, its data blocks and EOP (R131). -/
theorem packetBlocks_length (hdr : List Word) (l : List Byte) :
    (packetBlocks hdr l).length = cdiv (packetBytes hdr l).length 8 + 2 := by
  simp [packetBlocks, dataBlocks]

/-- Points at which a packet may be cut lie inside it, behind its header (R169). -/
theorem cutPoints_ge (n k : Nat) (h : k ∈ cutPoints n) : 3 ≤ k := by
  simp only [cutPoints, List.mem_map] at h
  omega

end Sys2Proof.Machine
end

