-- ==== Sys2Proof/Laws/Memory.lean ====
section
/-! SUPPORT. Every operation of Ops.lean over the memories keeps their canonical form; reading after writing. -/

namespace Sys2Proof.Machine

/-! ## What leaves the memories alone -/

@[simp] theorem State.count_mem (s : State) (f : Field) (i j : Nat) : (s.count f i j).mem = s.mem := by
  unfold State.count; dsimp only; split
  · rfl
  · split <;> rfl
@[simp] theorem State.ulast_mem (s : State) (u a k : Nat) : (s.ulast u a k).mem = s.mem := rfl
@[simp] theorem State.notePois_mem (s : State) (a : Nat) : (s.notePois a).mem = s.mem := rfl
@[simp] theorem State.noteRow_mem (s : State) (a : Nat) : (s.noteRow a).mem = s.mem := by
  unfold State.noteRow
  split
  · rfl
  · split
    · rfl
    · dsimp only; repeat (first | rfl | split)
@[simp] theorem State.noteCe_mem (s : State) (a : Nat) : (s.noteCe a).mem = s.mem := by simp [State.noteCe]
@[simp] theorem State.report_mem (s : State) (r d c : Nat) : (s.report r d c).mem = s.mem := by
  unfold State.report
  split
  · split
    · rfl
    · split <;> simp
  · rfl
@[simp] theorem State.noteUe_mem (s : State) (a : Nat) : (s.noteUe a).mem = s.mem := by simp [State.noteUe]
@[simp] theorem State.notePar_mem (s : State) (u a : Nat) (m : Bool) : (s.notePar u a m).mem = s.mem := by
  unfold State.notePar; dsimp only; split <;> simp

/-- A fold of operations that leave the memories alone leaves them alone. -/
theorem foldl_mem {α : Type} (f : State → α → State) (h : ∀ s x, (f s x).mem = s.mem) (l : List α) (s : State) :
    (l.foldl f s).mem = s.mem := by
  induction l generalizing s with
  | nil => rfl
  | cons x l ih => exact (ih _).trans (h s x)

@[simp] theorem State.burstMerge_mem (s : State) (a : Nat) (skip : Option Nat) : (s.burstMerge a skip).mem = s.mem := by
  unfold State.burstMerge
  split
  · rfl
  · refine foldl_mem _ (fun s k => ?_) _ _
    dsimp only
    split
    · rfl
    · split <;> simp
/-- A read leaves the memories alone. -/
@[simp] theorem State.readWord_mem (s : State) (a : Nat) : (s.readWord a).2.2.mem = s.mem := by
  unfold State.readWord; dsimp only; split <;> simp

/-! ## The canonical form -/

theorem Memory.wf_putByte (s : State) (a : Nat) (b : Byte) (h : Memory.wf s.mem) : Memory.wf (s.putByte a b).mem :=
  smWf_put _ _ _ _ h
theorem Memory.wf_putRaw (s : State) (a : Nat) (w : Word) (h : Memory.wf s.mem) : Memory.wf (s.putRaw a w).mem :=
  wf_putByte _ _ _ (wf_putByte _ _ _ (wf_putByte _ _ _ (wf_putByte _ _ _ h)))
/-- A fold of operations that keep the form keeps it. -/
theorem Memory.wf_foldl {α : Type} (f : State → α → State) (hf : ∀ s x, Memory.wf s.mem → Memory.wf (f s x).mem) (l : List α)
    (s : State) (h : Memory.wf s.mem) : Memory.wf (l.foldl f s).mem := by
  induction l generalizing s with
  | nil => exact h
  | cons x l ih => exact ih _ (hf s x h)
theorem Memory.wf_storeWordP (s : State) (a : Nat) (w : Word) (p : Bool) (h : Memory.wf s.mem) :
    Memory.wf (s.storeWordP a w p).mem := by
  unfold State.storeWordP
  dsimp only
  split
  · simpa using h
  · simpa using wf_putRaw _ _ _ (by simpa using h)
  · simpa using wf_putRaw _ _ _ (by simpa using h)
theorem Memory.wf_storeWord (s : State) (a : Nat) (w : Word) (h : Memory.wf s.mem) : Memory.wf (s.storeWord a w).mem :=
  wf_storeWordP _ _ _ _ (by simpa using h)
theorem Memory.wf_storePart (s : State) (a n : Nat) (v : Word) (h : Memory.wf s.mem) : Memory.wf (s.storePart a n v).mem := by
  have hb (t : State) (ht : Memory.wf t.mem) :
      Memory.wf ((List.range n).foldl (fun s k => State.putByte s (a + k) (v.extractLsb' (8 * k) 8)) t).mem :=
    wf_foldl _ (fun s k hs => wf_putByte s _ _ hs) _ _ ht
  unfold State.storePart
  dsimp only
  split
  · exact hb _ (by simpa using h)
  · simpa using hb _ (by simpa using h)
  · simpa using hb _ (by simpa using h)
  · simpa using h
  · exact hb _ (by simpa using h)
theorem Memory.wf_cairnWrite (s : State) (o n : Nat) (v : Word) (p : Bool) (h : Memory.wf s.mem) :
    Memory.wf (s.cairnWrite o n v p).mem := by
  unfold State.cairnWrite
  dsimp only
  by_cases hn : n = 4
  all_goals
    simp only [hn, if_true, if_false]
    split
    · split
      all_goals
        try simp only [State.setPoison_mem, State.notePois_mem]
        refine wf_putRaw _ _ _ ?_
        first
          | exact wf_storeWord _ _ _ h
          | exact wf_storePart _ _ _ _ h
    · exact h
theorem Memory.wf_storeAt (s : State) (a n : Nat) (v : Word) (h : Memory.wf s.mem) : Memory.wf (s.storeAt a n v).mem := by
  unfold State.storeAt
  split
  · exact h
  · split
    · exact wf_cairnWrite _ _ _ _ _ h
    · split
      · exact wf_storeWord _ _ _ h
      · exact wf_storePart _ _ _ _ h
/-! The write buffer (R277–R279): with no store posted, a fence and a load wait for nothing; every step of it keeps the form. -/

theorem State.landAll_nil (s : State) (e : Nat) (h : (s.getEng e).wbuf = []) : s.landAll e = s := by
  unfold State.landAll; rw [h]
theorem State.awaitPosted_clear (s : State) (e : Nat) (a : Word) (n g : Nat) (hg : (s.getEng e).localMap a.toNat = .glob g)
    (h : ∀ p ∈ (s.getEng e).wbuf, p.over g n = false) : s.awaitPosted e a n = s := by
  have hf : (s.getEng e).wbuf.find? (fun p => p.over g n) = none := List.find?_eq_none.mpr (fun p hp => by simp [h p hp])
  simp only [State.awaitPosted, hg, State.forN]
  generalize List.range 8 = l
  induction l with
  | nil => rfl
  | cons k l ih => simpa only [List.foldl_cons, hf] using ih
theorem Memory.wf_land (s : State) (p : Posted) (h : Memory.wf s.mem) : Memory.wf (s.land p).mem := by
  unfold State.land; split
  · exact wf_storeAt _ _ _ _ h
  · exact h
theorem Memory.wf_landOne (s : State) (e m : Nat) (h : Memory.wf s.mem) : Memory.wf (s.landOne e m).mem := by
  unfold State.landOne; dsimp only; split
  · exact wf_land _ _ h
  · exact h
theorem Memory.wf_landAll (s : State) (e : Nat) (h : Memory.wf s.mem) : Memory.wf (s.landAll e).mem := by
  unfold State.landAll; split
  · exact h
  · exact wf_foldl _ (fun s p hs => wf_land s p hs) _ _ h
theorem Memory.wf_landSome (s : State) (e : Nat) (h : Memory.wf s.mem) : Memory.wf (s.landSome e).mem := by
  refine wf_foldl _ (fun s _ hs => ?_) _ _ h
  dsimp only
  split
  · exact hs
  · split
    · exact wf_landOne _ _ _ hs
    · exact hs
theorem Memory.wf_post (s : State) (e : Nat) (p : Posted) (h : Memory.wf s.mem) : Memory.wf (s.post e p).mem := by
  unfold State.post
  refine wf_landSome _ _ ?_
  dsimp only [State.setEng]
  split
  · exact wf_landOne _ _ _ h
  · exact h
theorem Memory.wf_awaitPosted (s : State) (e : Nat) (a : Word) (n : Nat) (h : Memory.wf s.mem) :
    Memory.wf (s.awaitPosted e a n).mem := by
  unfold State.awaitPosted; split
  · refine wf_foldl _ (fun s _ hs => ?_) _ _ h
    dsimp only
    split
    · exact wf_landOne _ _ _ hs
    · exact hs
  · exact h
theorem Memory.wf_putBytesN (n : Nat) (s : State) (a : Nat) (l : List Byte) (h : Memory.wf s.mem) :
    Memory.wf (s.putBytesN n a l).mem := by
  induction n generalizing s a l with
  | zero => exact h
  | succ n ih =>
    cases l with
    | nil => exact h
    | cons b rest =>
      simp only [State.putBytesN]
      split
      · refine ih _ _ _ ?_
        split
        · exact wf_storeAt _ _ _ _ h
        · exact h
      · refine ih _ _ _ ?_
        split
        · exact wf_storeAt _ _ _ _ h
        · exact h
theorem Memory.wf_putBytes (s : State) (a : Nat) (l : List Byte) (h : Memory.wf s.mem) : Memory.wf (s.putBytes a l).mem :=
  wf_putBytesN _ _ _ _ h
theorem Memory.wf_storeWords (s : State) (a : Nat) (l : List (Word × Bool)) (h : Memory.wf s.mem) :
    Memory.wf (s.storeWords a l).mem := by
  suffices hh : ∀ acc : Nat × State, Memory.wf acc.2.mem →
      Memory.wf (l.foldl (fun acc x => (acc.1 + 4, acc.2.storeWordP acc.1 x.1 x.2)) acc).2.mem from hh (a, s) h
  intro acc hacc
  induction l generalizing acc with
  | nil => exact hacc
  | cons x l ih => exact ih _ (wf_storeWordP _ _ _ _ hacc)
/-- What a reset keeps of a memory is canonical. -/
theorem Memory.wf_filter (m : SMap Byte) (p : Nat × Byte → Bool) (h : Memory.wf m) : Memory.wf (m.filter p) :=
  smWf_filter m 0 p h
theorem Memory.wf_reset : Memory.wf State.reset.mem := smWf_nil 0

/-! ## Reading after writing -/

theorem State.byteAt_putByte_ne (s : State) {a c : Nat} (b : Byte) (h : c ≠ a) : (s.putByte a b).byteAt c = s.byteAt c :=
  smGet_put_ne _ _ _ _ h
/-- A word stored leaves every byte outside it as it was. -/
theorem State.byteAt_putRaw_ne (s : State) {a c : Nat} (w : Word) (h : ¬(a ≤ c ∧ c < a + 4)) :
    (s.putRaw a w).byteAt c = s.byteAt c := by
  unfold State.putRaw
  rw [State.byteAt_putByte_ne _ _ (by omega), State.byteAt_putByte_ne _ _ (by omega), State.byteAt_putByte_ne _ _ (by omega),
    State.byteAt_putByte_ne _ _ (by omega)]

end Sys2Proof.Machine
end

