-- ==== Sys2Proof/Machine/Pins.lean ====
section
/-! DEFINITION. What the balls of the TK4610 show in reset, in Off and in operation: nothing here is state of its own (R569, R614, R617,
R621). -/

namespace Sys2Proof.Machine

/-- A group of balls (R569, R617). -/
inductive Ball where
  | pcieTx | ewzTx (p : Nat) | ddrReset | ddrCs | ddrOther | xspi | gpio | coreVid | faultN | sda | encoder
  deriving DecidableEq, Repr

/-- What a group of balls shows. -/
inductive Drive where
  /-- Driven low, driven high, at high impedance. -/
  | low | high | highZ
  /-- Held at self-refresh levels by the latches of the VDDQ_DDR domain. -/
  | selfRefresh
  /-- Electrical idle of L1 or L2, with KEEP and WAKE bursts. -/
  | elecIdle
  /-- A code on CORE_VID. -/
  | code (n : Nat)
  /-- Released by an open drain. -/
  | released
  /-- Inputs, and inputs that are ignored. -/
  | inputs | ignored
  /-- As the rules of its unit drive it. -/
  | unit
  deriving DecidableEq, Repr

/-- The code of the VDD_CORE request on CORE_VID: 700 mV + 5 mV × code is HLT_GBAND.VREQ (R621). -/
def State.vidCode (s : State) : Nat := (s.rd R.HLT_GBAND_VREQ - 700) / 5
/-- While PORST_N is low (R617). -/
def ballPorst : Ball → Drive
  | .ddrReset => .low
  | .ddrCs => .high
  | .gpio => .inputs
  | .faultN => .low
  | .sda => .released
  | .encoder => .ignored
  | .pcieTx | .ewzTx _ | .ddrOther | .xspi | .coreVid => .highZ
/-- While WARMRST_N is low and PORST_N high (R617). -/
def State.ballWarm (s : State) : Ball → Drive
  | .ddrReset => .high
  | .ddrCs => .selfRefresh
  | .gpio => .inputs
  | .coreVid => if s.phase = .oscDelay then .highZ else .code s.vidCode
  | .faultN => .low
  | .sda => .released
  | .encoder => .ignored
  | .pcieTx | .ewzTx _ | .ddrOther | .xspi => .highZ
/-- In Off (R569, R621). -/
def State.ballOff (s : State) : Ball → Drive
  | .ddrReset => .selfRefresh
  | .ddrCs => .selfRefresh
  | .coreVid => .code s.vidCode
  | .faultN => .released
  | .sda => .unit
  | .encoder => .ignored
  | .pcieTx | .ewzTx _ | .ddrOther | .xspi | .gpio => .highZ
/-- In operation (R538, R569, R614). -/
def State.ballRun (s : State) : Ball → Drive
  | .ewzTx p => if s.asleep p then .elecIdle else .unit
  | .gpio => if s.on R.CMD_STAT_FWRDY then .unit else .inputs
  | .coreVid => .code s.vidCode
  | .faultN => if s.faultN then .low else .released
  | .pcieTx | .ddrReset | .ddrCs | .ddrOther | .xspi | .sda | .encoder => .unit
/-- What a group of balls shows (R569, R614, R617); while the oscillator delay is counted, what it showed with PORST_N low. -/
def State.ball (s : State) (b : Ball) : Drive :=
  match s.phase with
  | .held => ballPorst b
  | .oscDelay => if s.boot.warmPin then s.ballWarm b else ballPorst b
  | .heldStep3 | .warmHeld => s.ballWarm b
  | .off => s.ballOff b
  | .running => s.ballRun b

end Sys2Proof.Machine
end

