-- ==== Sys2Proof/Machine/BallMap.lean ====
section
/-! DEFINITION. Where the balls of the package are and what each carries (R638–R640). -/

namespace Sys2Proof.Machine

/-- A supply of the board; a ball that no table assigns is VSS (R620, R640). -/
inductive Rail where
  | vddCore | vddSram | vddAon | vddio18 | vddqDdr | avddSer | avddhSer | vss
  deriving DecidableEq, Repr

/-- A signal of the package; the numbers are those of R639: port p, lane l, channel ch, index n (R639). -/
inductive Signal where
  | peTxp (p l : Nat) | peTxn (p l : Nat) | peRxp (p l : Nat) | peRxn (p l : Nat) | pePerstN (p : Nat) | peRefclkP (p : Nat)
  | peRefclkN (p : Nat)
  | ewzTxp (n : Nat) | ewzTxn (n : Nat) | ewzRxp (n : Nat) | ewzRxn (n : Nat) | ewzRefclkP | ewzRefclkN
  | ddrDq (ch n : Nat) | ddrCb (ch n : Nat) | ddrDqsT (ch n : Nat) | ddrDqsC (ch n : Nat) | ddrCa (ch n : Nat) | ddrCsN (ch n : Nat)
  | ddrCkT (ch : Nat) | ddrCkC (ch : Nat) | ddrResetN (ch : Nat) | ddrAlertN (ch : Nat) | ddrZq (ch : Nat)
  | encAp (n : Nat) | encBp (n : Nat) | encZp (n : Nat) | encAn (n : Nat) | encBn (n : Nat) | encZn (n : Nat)
  | gpio (n : Nat) | xspiIo (n : Nat) | xspiCsN | xspiSck | xspiDqs | xspiRstN
  | tck | tms | tdi | tdo | trstN | porstN | warmrstN | wakeN | faultN | xtalIn | xtalOut | i2cScl | i2cSda
  | oscDly (n : Nat) | mgrPort (n : Nat) | testEn | coreVid (n : Nat) | vddCoreSense | vssSense
  deriving DecidableEq, Repr

/-- The transmit and receive columns of PCIe port p. -/
def peCol (p : Nat) (tx : Bool) : Nat := if p < 2 then (if tx then 1 else 3) else (if tx then 42 else 40)
/-- Row and column of a signal, seen from the top with ball 01.01 at the lower left (R638, R639). -/
def Signal.place : Signal → Nat × Nat
  | .peTxp p l => (9 + 14 * (p % 2) + 3 * l, peCol p true)
  | .peTxn p l => (10 + 14 * (p % 2) + 3 * l, peCol p true)
  | .peRxp p l => (9 + 14 * (p % 2) + 3 * l, peCol p false)
  | .peRxn p l => (10 + 14 * (p % 2) + 3 * l, peCol p false)
  | .pePerstN p => (21 + 14 * (p % 2), peCol p true)
  | .peRefclkP p => (21 + 14 * (p % 2), peCol p false)
  | .peRefclkN p => (22 + 14 * (p % 2), peCol p false)
  | .ewzTxp n => (42, 5 + 2 * n)
  | .ewzTxn n => (42, 6 + 2 * n)
  | .ewzRxp n => (40, 5 + 2 * n)
  | .ewzRxn n => (40, 6 + 2 * n)
  | .ewzRefclkP => (42, 38)
  | .ewzRefclkN => (42, 39)
  | .ddrDq ch n => (1 + 2 * (n / 16) + n % 8 / 4, 3 + 20 * ch + 5 * (n / 8 % 2) + n % 4)
  | .ddrCb ch n => (5 + n / 4, 3 + 20 * ch + n % 4)
  | .ddrDqsT ch n => (1 + 2 * (n / 2), 7 + 20 * ch + 5 * (n % 2))
  | .ddrDqsC ch n => (2 + 2 * (n / 2), 7 + 20 * ch + 5 * (n % 2))
  | .ddrCa ch n => (1 + n / 7, 14 + 20 * ch + n % 7)
  | .ddrCsN ch n => (3, 14 + 20 * ch + n)
  | .ddrCkT ch => (3, 16 + 20 * ch)
  | .ddrCkC ch => (3, 17 + 20 * ch)
  | .ddrResetN ch => (3, 18 + 20 * ch)
  | .ddrAlertN ch => (3, 19 + 20 * ch)
  | .ddrZq ch => (3, 20 + 20 * ch)
  | .encAp n => (8, 5 + 3 * n)
  | .encBp n => (8, 6 + 3 * n)
  | .encZp n => (8, 7 + 3 * n)
  | .encAn n => (7, 5 + 3 * n)
  | .encBn n => (7, 6 + 3 * n)
  | .encZn n => (7, 7 + 3 * n)
  | .gpio n => (8 - n / 8, 30 + n % 8)
  | .xspiIo n => (41 - n / 4, 1 + n % 4)
  | .xspiCsN => (39, 1)
  | .xspiSck => (39, 2)
  | .xspiDqs => (39, 3)
  | .xspiRstN => (39, 4)
  | .tck => (41, 40)
  | .tms => (41, 41)
  | .tdi => (41, 42)
  | .tdo => (40, 40)
  | .trstN => (40, 41)
  | .porstN => (40, 42)
  | .warmrstN => (39, 40)
  | .wakeN => (39, 41)
  | .faultN => (39, 42)
  | .xtalIn => (2, 1)
  | .xtalOut => (3, 1)
  | .i2cScl => (4, 1)
  | .i2cSda => (4, 2)
  | .oscDly n => (5 + n / 2, 1 + n % 2)
  | .mgrPort n => (6 + n, 2 - n)
  | .testEn => (7, 2)
  | .coreVid n => (2 + n / 2, 41 + n % 2)
  | .vddCoreSense => (5, 41)
  | .vssSense => (5, 42)

/-- Signals of PCIe port p. -/
def peSignals (p : Nat) : List Signal :=
  [.pePerstN p, .peRefclkP p, .peRefclkN p].append
    ((List.range 4).flatMap (fun l => [Signal.peTxp p l, .peTxn p l, .peRxp p l, .peRxn p l]))
/-- Signals of DDR channel ch. -/
def ddrSignals (ch : Nat) : List Signal :=
  List.flatten [(List.range 32).map (Signal.ddrDq ch), (List.range 8).map (Signal.ddrCb ch), (List.range 5).map (Signal.ddrDqsT ch),
    (List.range 5).map (Signal.ddrDqsC ch), (List.range 14).map (Signal.ddrCa ch),
    [.ddrCsN ch 0, .ddrCsN ch 1, .ddrCkT ch, .ddrCkC ch, .ddrResetN ch, .ddrAlertN ch, .ddrZq ch]]
/-- Signals of encoder channel n. -/
def encSignals (n : Nat) : List Signal := [.encAp n, .encBp n, .encZp n, .encAn n, .encBn n, .encZn n]
/-- Signals of Eweiz port n. -/
def ewzSignals (n : Nat) : List Signal := [.ewzTxp n, .ewzTxn n, .ewzRxp n, .ewzRxn n]
/-- The signals that stand alone. -/
def oneSignals : List Signal :=
  [.ewzRefclkP, .ewzRefclkN, .xspiCsN, .xspiSck, .xspiDqs, .xspiRstN, .tck, .tms, .tdi, .tdo, .trstN, .porstN, .warmrstN, .wakeN, .faultN,
   .xtalIn, .xtalOut, .i2cScl, .i2cSda, .oscDly 0, .oscDly 1, .oscDly 2, .mgrPort 0, .mgrPort 1, .testEn, .vddCoreSense, .vssSense]
/-- Every signal of R639. -/
def Signal.all : List Signal :=
  List.flatten [(List.range 4).flatMap peSignals, (List.range 16).flatMap ewzSignals, (List.range 2).flatMap ddrSignals,
    (List.range 8).flatMap encSignals, (List.range 16).map Signal.gpio, (List.range 8).map Signal.xspiIo,
    (List.range 5).map Signal.coreVid, oneSignals]
/-- The rail of the ball at a row and column, none where it carries a signal (R640). -/
def railAt (r c : Nat) : Option Rail :=
  let within (a x b : Nat) : Bool := decide (a ≤ x) && decide (x ≤ b)
  let odd (x : Nat) : Bool := x % 2 == 1
  if Signal.all.any (fun g => g.place == (r, c)) then none
  else if within 11 r 34 && within 7 c 36 && odd (r + c) then some (if r % 4 = 3 then .vddSram else .vddCore)
  else if (r == 38 && odd c && within 5 c 35) || ((c == 5 || c == 38) && odd r && within 9 r 35) then some .avddSer
  else if (r == 38 && !odd c && within 6 c 36) || ((c == 5 || c == 38) && !odd r && within 10 r 36) then some .avddhSer
  else if within 4 r 6 && (within 8 c 20 || within 28 c 40) && odd (r + c) then some .vddqDdr
  else if [(6, 41), (6, 42), (7, 41), (7, 42)].contains (r, c) then some .vddAon
  else if ([(7, 3), (8, 1), (8, 3), (7, 29), (8, 29), (7, 38), (8, 38)] ++ [(37, 1), (37, 2), (37, 3), (37, 4)] ++
      [(38, 40), (38, 41), (38, 42)]).contains (r, c) then some .vddio18
  else some .vss

end Sys2Proof.Machine
end

