-- ==== Sys2Proof/Tests/Slice0.lean ====
section
/-! SUPPORT. Own tests: encodings, ill-formed commands, checks against published values, single steps, and for every statement
with hypotheses a state and operands that meet them. -/

set_option Elab.async false

namespace Sys2Proof.Tests

open Sys2Proof Sys2Proof.Machine

/-! ## Encodings, each word written out from its format (R319) -/

/-- ADD g1, g2, g3: OP 0, RD 1, RA 2, RB 3, FN 0. -/
theorem test_decode_add : decodeEngineWord 7 (0b000000_00001_00010_00011_0_0000_000000) = some (.add 7 ⟨1, 2, 3, 0, 0⟩) := by decide
theorem test_decode_sel : decodeEngineWord 7 (0b000000_00001_00010_00011_0_1010_011010) = some (.sel 7 ⟨1, 2, 3, 0, 10⟩) := by decide
theorem test_decode_divu : decodeEngineWord 7 (0b000001_00001_00010_00011_0_0000_000101) = some (.divu 7 ⟨1, 2, 3, 0, 0⟩) := by decide
theorem test_decode_acasD : decodeEngineWord 7 (0b000010_00010_00001_00100_0_0000_010101) = some (.acasD 7 ⟨2, 1, 4, 0, 0⟩) := by
  decide
theorem test_decode_xret : decodeEngineWord 7 (0b000011_00000_00000_00000_0_0000_000011) = some (.xret 7 ⟨0, 0, 0, 0, 0⟩) := by decide
/-- YIELD with T = 1, W = 0, WREQ = 0x81, RA = 2. -/
theorem test_decode_yield :
    decodeEngineWord 7 (0b000100_1_0_10000001_00010_00000_000000) = some (.yieldThread 7 ⟨true, false, 0x81, 2, 0, 0⟩) := by decide
theorem test_decode_addi : decodeEngineWord 7 (0b001000_00001_00010_1111111111111111) = some (.addi 7 ⟨1, 2, 0xFFFF⟩) := by decide
theorem test_decode_sd : decodeEngineWord 7 (0b100011_00010_00001_0000000000001000) = some (.sd 7 ⟨2, 1, 8⟩) := by decide
theorem test_decode_jal : decodeEngineWord 7 (0b101001_11111111111111111111111111) = some (.jal 7 ⟨0x3FFFFFF⟩) := by decide
theorem test_decode_jalr : decodeEngineWord 7 (0b101010_00001_00010_00000_0_0000_000001) = some (.jalr 7 ⟨1, 2, 0, 0, 0⟩) := by decide
/-- VSEL v1, v2, v3, v4. -/
theorem test_decode_vsel : decodeEngineWord 7 (0b111000_0001_0010_0011_0100_00_00_010000) = some (.vsel 7 ⟨1, 2, 3, 4, 0, 0⟩) := by
  decide
theorem test_decode_fma : decodeEngineWord 7 (0b111001_0001_0010_0011_0100_00_00_000011) = some (.fma 7 ⟨1, 2, 3, 4, 0, 0⟩) := by
  decide
theorem test_decode_vnarh : decodeEngineWord 7 (0b111011_0001_0010_0011_0000_00_00_000101) = some (.vnarh 7 ⟨1, 2, 3, 0, 0, 0⟩) := by
  decide
theorem test_decode_vst : decodeEngineWord 7 (0b111101_0001_0_00010_0000000000010000) = some (.vst 7 ⟨1, 0, 2, 16⟩) := by decide
/-- END 0x01 of the worked example of chapter 07. -/
theorem test_decode_end : decodeEngineWord 5 0x14000001 = some (.endThread 5 ⟨0, 1⟩) := by decide
/-- OP 0x00 with FN 0x17, and OP 0x3F, stand in no table (R320). -/
theorem test_decode_undefined : decodeEngineWord 5 0x17 = none ∧ decodeEngineWord 5 0xFC000000 = none := by decide
/-- No row of the command table gives bits. -/
theorem test_table_word : decodeTableWord 32 0x14000001 = none := by decide

/-! ## Ill-formed commands, one for each check -/

theorem test_wf_format_r : Instr.wf (.add 0 ⟨1, 2, 3, 1, 0⟩) = false ∧ Instr.wf (.add 0 ⟨1, 2, 3, 0, 1⟩) = false := by decide
theorem test_wf_no_rb : Instr.wf (.neg 0 ⟨1, 2, 3, 0, 0⟩) = false ∧ Instr.wf (.waitNudge 0 ⟨1, 2, 3, 0, 0⟩) = false := by decide
theorem test_wf_no_rd : Instr.wf (.cmp 0 ⟨1, 2, 3, 0, 0⟩) = false ∧ Instr.wf (.tsti 0 ⟨1, 2, 3⟩) = false := by decide
theorem test_wf_no_ra : Instr.wf (.lui 0 ⟨1, 2, 3⟩) = false ∧ Instr.wf (.rdf 0 ⟨1, 2, 0, 0, 0⟩) = false := by decide
theorem test_wf_no_operand : Instr.wf (.mfence 0 ⟨1, 0, 0, 0, 0⟩) = false ∧ Instr.wf (.jr 0 ⟨1, 2, 0, 0, 0⟩) = false := by decide
theorem test_wf_shift_amount : Instr.wf (.slli 0 ⟨1, 2, 256⟩) = false := by decide
theorem test_wf_pairs : Instr.wf (.ld 0 ⟨3, 2, 0⟩) = false ∧ Instr.wf (.acasD 0 ⟨2, 1, 3, 0, 0⟩) = false := by decide
theorem test_wf_send_slot : Instr.wf (.send 0 ⟨1, 2, 3, 0, 8⟩) = false := by decide
theorem test_wf_yield_wreq : Instr.wf (.yieldThread 0 ⟨false, false, 0, 0, 0, 0⟩) = false := by decide
theorem test_wf_yield_unused :
    Instr.wf (.yieldThread 0 ⟨false, false, 1, 2, 0, 0⟩) = false ∧ Instr.wf (.yieldThread 0 ⟨true, false, 1, 2, 3, 0⟩) = false := by
  decide
theorem test_wf_end : Instr.wf (.endThread 0 ⟨1, 0⟩) = false := by decide
theorem test_wf_format_v : Instr.wf (.vadd 0 ⟨1, 2, 3, 1, 0, 0⟩) = false ∧ Instr.wf (.vmov 0 ⟨1, 2, 3, 0, 0, 0⟩) = false := by decide
theorem test_wf_accumulator : Instr.wf (.amac 0 ⟨1, 2, 3, 0, 0, 0⟩) = false ∧ Instr.wf (.aclr 0 ⟨0, 1, 0, 0, 0, 0⟩) = false := by decide
theorem test_wf_ard_rounding : Instr.wf (.ard 0 ⟨1, 0, 4, 0, 0, 3⟩) = false := by decide
theorem test_wf_format_vm : Instr.wf (.vld 0 ⟨1, 1, 2, 0⟩) = false := by decide
theorem test_wf_format_vg : Instr.wf (.vsplat 0 ⟨1, 2, 1, 0⟩) = false ∧ Instr.wf (.rdacp 0 ⟨1, 2, 0, 0⟩) = false := by decide
/-- A link is of 1, 2 or 4 lanes, at a speed of 1 to 5 (R388). -/
theorem test_wf_link_up : Instr.wf (.hostPortLinkUp 0 3 1) = false ∧ Instr.wf (.hostPortLinkUp 0 1 0) = false ∧ Instr.wf (.hostPortLinkUp 0 4 6) = false := by decide
theorem test_wf_ok : Instr.wf (.send 0 ⟨1, 2, 3, 0, 7⟩) = true ∧ Instr.wf (.ld 0 ⟨2, 1, 8⟩) = true := by decide

/-! ## Engines -/

/-- A device in operation, every register at its Reset value. -/
def dev : State := { State.reset with phase := .running }
/-- A running thread of cairn 3, instance 1. -/
def thr : Thr := { c := 3, inst := 1, rfx := false, ops := [] }
/-- The device with engine 0 running a thread with the general registers `g`. -/
def run (g : SMap Word) : State := dev.setEng 0 { thr := some thr, g := g }

def runsB (s : State) (e : Nat) (falls : Bool) (regs : List Nat) : Bool :=
  decide (s.phase = .running) && s.issues e && decide ((s.getEng e).pc.toNat < 0x4000) &&
    (!falls || (s.getEng e).pc.toNat / 4 != 4095) &&
    (s.physOf e).any (fun i => smGet s.upset 0 ((saEngine i + (s.getEng e).pc.toNat) / 4) == 0 &&
      !setHas s.poison ((saEngine i + (s.getEng e).pc.toNat) / 4)) &&
    regs.all (fun n => n == 0 || !(s.getEng e).parBad.contains n)
theorem runs_of {s : State} {e : Nat} {falls : Bool} {regs : List Nat} (h : runsB s e falls regs = true) : s.runs e falls regs := by
  simp only [runsB, Bool.and_eq_true, decide_eq_true_eq, Bool.or_eq_true, Bool.not_eq_true', bne_iff_ne, Option.any_eq_true_iff_get,
    List.all_eq_true, beq_iff_eq, List.contains_eq_mem, decide_eq_false_iff_not] at h
  obtain ⟨⟨⟨⟨⟨h1, h2⟩, h3⟩, h4⟩, ⟨hs, h5, h6⟩⟩, h7⟩ := h
  exact ⟨h1, h2, h3, fun hf => h4.resolve_left (by simp [hf]), ⟨_, (Option.some_get hs).symm, h5, h6⟩, h7⟩
theorem clean_of (s : State) (a : Nat) (h : s.upset = []) (g : s.poison = []) : s.clean a := by
  simp [State.clean, h, g, smFind, setHas]
theorem cairnClean_of (s : State) (c : Nat) (h : s.upset = []) (g : s.poison = []) : s.cairnClean c :=
  fun _ _ => clean_of s _ h g

theorem witness_AluRegisterForms : (run []).runs 0 true [31, 1] ∧ (run []).runs 0 true [31] :=
  ⟨runs_of (by decide +kernel), runs_of (by decide +kernel)⟩
/-- The highest word an instruction may fall through from. -/
theorem witness_runs_last_word : (dev.setEng 1023 { thr := some thr, pc := 0x3FF8 }).runs 1023 true [31] := runs_of (by decide +kernel)
theorem witness_MultiplyAndDivide :
    (run [(1, 0x80000000), (2, 0xFFFFFFFF)]).runs 0 true [1, 2] ∧ ((run [(2, 0xFFFFFFFF)]).getEng 0).gr 2 ≠ 0 ∧
    (run []).runs 0 true [1, 2] ∧ ((run []).getEng 0).gr 2 = 0 ∧ (run []).erd R.ENG_CTL_TRAPDZ 0 = 0 :=
  ⟨runs_of (by decide +kernel), by decide +kernel, runs_of (by decide +kernel), by decide +kernel, by decide +kernel⟩
theorem witness_ImmediateForms : (run [(1, 5)]).runs 0 true [1] ∧ (run [(1, 5)]).runs 0 true [] :=
  ⟨runs_of (by decide +kernel), runs_of (by decide +kernel)⟩
/-- The last byte, halfword, word and double word of data memory. -/
theorem witness_LoadsReturnMemory :
    let s := run [(1, 0x17FFF), (2, 0x17FFE), (3, 0x17FFC), (4, 0x17FF8)]
    s.runs 0 true [1] ∧ s.holdsWords 0 0x17FFF [0] ∧ s.runs 0 true [2] ∧ s.holdsWords 0 0x17FFE [0] ∧ s.runs 0 true [3] ∧
      s.holdsWords 0 0x17FFC [0] ∧ s.runs 0 true [4] ∧ s.holdsWords 0 0x17FF8 [0, 0] ∧ (30 : BitVec 5).getLsbD 0 = false :=
  ⟨runs_of (by decide +kernel), ⟨_, rfl, fun k _ => ⟨clean_of _ _ rfl rfl, by rcases k with _ | k <;> rfl⟩⟩,
    runs_of (by decide +kernel), ⟨_, rfl, fun k _ => ⟨clean_of _ _ rfl rfl, by rcases k with _ | k <;> rfl⟩⟩,
    runs_of (by decide +kernel), ⟨_, rfl, fun k _ => ⟨clean_of _ _ rfl rfl, by rcases k with _ | k <;> rfl⟩⟩,
    runs_of (by decide +kernel), ⟨_, rfl, fun k _ => ⟨clean_of _ _ rfl rfl, by rcases k with _ | _ | k <;> rfl⟩⟩, rfl⟩
def isGlob : Local → Bool | .glob _ => true | _ => false
theorem stores_of {s : State} {e : Nat} {a : Word} {sa : Nat} (h : s.localSa e ((s.getEng e).localMap a.toNat) = some sa)
    (g : isGlob ((s.getEng e).localMap a.toNat) = false) (hc : ¬(0x1020800000 ≤ sa ∧ sa < 0x1020C00000))
    (hs : ¬(0x1034000000 ≤ sa ∧ sa < 0x1034100000)) (u : s.upset = []) (p : s.poison = []) : s.storesAt e a sa :=
  ⟨h, fun n hn => by simp [isGlob, hn] at g, hc, hs, fun _ _ => clean_of _ _ u p⟩
/-- The last double word of rope shared memory, and its last byte. -/
theorem witness_StoresWriteMemory :
    let s := run [(1, 0xFFFF8), (2, 0xFFFFF)]
    s.runs 0 true [1, 31] ∧ s.runs 0 true [1, 30, 31] ∧ s.storesAt 0 0xFFFF8 0x100007FFF8 ∧ s.runs 0 true [2, 31] ∧
      s.storesAt 0 0xFFFFF 0x100007FFFF :=
  ⟨runs_of (by decide +kernel), runs_of (by decide +kernel),
    stores_of (by decide +kernel) (by decide +kernel) (by decide) (by decide) rfl rfl, runs_of (by decide +kernel),
    stores_of (by decide +kernel) (by decide +kernel) (by decide) (by decide) rfl rfl⟩
/-- An engine of the manager's instance with window 0 on rope 1, and the same engine with one store to that window posted. -/
def windowed (l : List Posted) : State :=
  dev.setEng 0 { thr := some { thr with inst := 0 }, g := [(1, 0x40080000), (2, 7)], lgw0 := 0x40, wbuf := l }
def posted : Posted := ⟨0x1000080000, 4, 7, 0x1000080000⟩
theorem window_of (l : List Posted) (w : Bool) : (windowed l).windowOk 0 0x1000080000 w := by
  refine ⟨?_, by decide +kernel, fun n hn => absurd hn ?_⟩
  · cases w <;> rfl
  · simp [engOfGlobal]
theorem windowed_map (l : List Posted) : ((windowed l).getEng 0).localMap (0x40080000 : Word).toNat = .glob 0x1000080000 := by
  have h : ((dev.setEng 0 { thr := some { thr with inst := 0 }, g := [(1, 0x40080000), (2, 7)], lgw0 := 0x40 }).getEng 0).localMap
      (0x40080000 : Word).toNat = .glob 0x1000080000 := by decide +kernel
  exact h
theorem windowed_storesAt (l : List Posted) : (windowed l).storesAt 0 0x40080000 0x1000080000 := by
  have hm := windowed_map l
  refine ⟨by rw [hm]; rfl, fun g hg => ?_, by decide, by decide, fun k _ => clean_of _ _ rfl rfl⟩
  obtain rfl : 0x1000080000 = g := by rw [hm] at hg; injection hg
  exact window_of l true
theorem windowed_holds : (windowed []).holdsWords 0 0x40080000 [0] := by
  unfold State.holdsWords
  rw [windowed_map]
  exact ⟨window_of _ _, (fun _ h => nomatch h), _, rfl, fun k _ => ⟨clean_of _ _ rfl rfl, by rcases k with _ | k <;> rfl⟩⟩
/-- A store through a window with nothing posted; a load of what is posted; a fence, END and SEND with a store posted. -/
theorem witness_PostedStores :
    let s := windowed []
    let t := windowed [posted]
    s.runs 0 true [1, 2] ∧ s.storesAt 0 0x40080000 0x1000080000 ∧ (s.getEng 0).wbuf = [] ∧ (s.getEng 0).wbuf.length ≤ 8 ∧
      t.runs 0 true [1] ∧ (t.getEng 0).localMap 0x40080000 = .glob 0x1000080000 ∧ (t.getEng 0).wbuf = [posted] ∧
      t.windowOk 0 0x1000080000 false ∧ t.storesAt 0 0x40080000 0x1000080000 ∧ t.runs 0 true [] ∧ t.runs 0 false [] ∧
      (t.getEng 0).cbuf = none ∧ t.runs 0 true [1, 2] ∧ s.holdsWords 0 0x40080000 [0] :=
  ⟨runs_of (by decide +kernel), windowed_storesAt _, rfl, by decide +kernel, runs_of (by decide +kernel), by decide +kernel, rfl, window_of _ _,
    windowed_storesAt _, runs_of (by decide +kernel), runs_of (by decide +kernel), by decide +kernel, runs_of (by decide +kernel),
    windowed_holds⟩
/-- The first word of rope shared memory; ACAS.W with an expected value that is there, and with one that is not. -/
theorem witness_WordAtomics :
    let s := run [(1, 0x80000), (2, 7)]
    s.runs 0 true [1, 2] ∧ s.runs 0 true [1, 2, 3] ∧ s.holdsWords 0 0x80000 [0] ∧ (s.getEng 0).gr 3 = 0 ∧ s.runs 0 true [1, 2, 2] ∧ (s.getEng 0).gr 2 ≠ 0 :=
  ⟨runs_of (by decide +kernel), runs_of (by decide +kernel),
    ⟨_, rfl, fun k _ => ⟨clean_of _ _ rfl rfl, by rcases k with _ | k <;> rfl⟩⟩, by decide +kernel,
    runs_of (by decide +kernel), by decide +kernel⟩
/-- The last double word of rope shared memory. -/
theorem witness_DoubleAtomics :
    let s := run [(1, 0xFFFF8), (2, 7)]
    s.runs 0 true [1, 30, 31] ∧ s.runs 0 true [1, 30, 31, 4, 5] ∧ s.holdsWords 0 0xFFFF8 [0, 0] ∧ (s.getEng 0).gr 5 ++ (s.getEng 0).gr 4 = (0 : BitVec 64) ∧
      s.runs 0 true [1, 30, 31, 2, 3] ∧ (s.getEng 0).gr 3 ++ (s.getEng 0).gr 2 ≠ (0 : BitVec 64) :=
  ⟨runs_of (by decide +kernel), runs_of (by decide +kernel),
    ⟨_, rfl, fun k _ => ⟨clean_of _ _ rfl rfl, by rcases k with _ | _ | k <;> rfl⟩⟩, by decide +kernel,
    runs_of (by decide +kernel), by decide +kernel⟩
/-- A branch not taken; taken and jumps to the last word; a register jump to the last word. -/
theorem witness_ControlTransfers :
    let s := run [(1, 0x3FFC)]
    condHolds (s.getEng 0) 1 = false ∧ condHolds (s.getEng 0) 0 = true ∧ s.runs 0 true [] ∧ s.runs 0 false [] ∧
      ((s.getEng 0).pc.toNat : Int) + 4 * (0xFFF : BitVec 22).toInt = 0x3FFC ∧
      ((s.getEng 0).pc.toNat : Int) + 4 * (0xFFF : BitVec 26).toInt = 0x3FFC ∧ s.runs 0 false [1] ∧
      ((s.getEng 0).gr 1).toNat < 0x4000 ∧ ((s.getEng 0).gr 1).toNat % 4 = 0 :=
  ⟨by decide +kernel, by decide +kernel, runs_of (by decide +kernel), runs_of (by decide +kernel), by decide +kernel, by decide +kernel,
    runs_of (by decide +kernel), by decide +kernel, by decide +kernel⟩
theorem witness_SystemInstructions :
    let s := (run []).wr R.ENG_DBG_DBGEN 1
    let h := dev.setEng 0 { thr := some thr, xact := true }
    s.runs 0 true [] ∧ s.erd R.ENG_DBG_DBGEN 0 = 1 ∧ s.runs 0 true [1] ∧ h.runs 0 false [] ∧ (h.getEng 0).xact = true :=
  ⟨runs_of (by decide +kernel), by decide +kernel, runs_of (by decide +kernel), runs_of (by decide +kernel), by decide +kernel⟩
/-- The vector sources of the ACP rows; LaneOperations, FloatLaneOperations, Accumulators, ConversionsAndMoves. -/
theorem witness_LaneOperations :
    (run []).runs 0 true [32 + 15, 32 + 1] ∧ (run []).runs 0 true [32 + 15] ∧ (run []).runs 0 true [32 + 15, 32 + 1, 32 + 2] :=
  ⟨runs_of (by decide +kernel), runs_of (by decide +kernel), runs_of (by decide +kernel)⟩
theorem witness_FloatLaneOperations :
    (run []).runs 0 true [32, 32] ∧ (run []).runs 0 true [32, 32, 32] ∧ (run []).runs 0 true [32] :=
  ⟨runs_of (by decide +kernel), runs_of (by decide +kernel), runs_of (by decide +kernel)⟩
theorem witness_Accumulators :
    (run []).runs 0 true [32, 33] ∧ (run []).runs 0 true [32] ∧ (run []).runs 0 true [] ∧ (2 : BitVec 2) ≠ 3 :=
  ⟨runs_of (by decide +kernel), runs_of (by decide +kernel), runs_of (by decide +kernel), by decide⟩
theorem witness_ConversionsAndMoves :
    (run []).runs 0 true [32] ∧ (run []).runs 0 true [32, 33] ∧ (run []).runs 0 true [1, 32] ∧ (run []).runs 0 true [1] ∧
      (run []).runs 0 true [] :=
  ⟨runs_of (by decide +kernel), runs_of (by decide +kernel), runs_of (by decide +kernel), runs_of (by decide +kernel),
    runs_of (by decide +kernel)⟩
/-- The last 16 bytes of data memory, of the thread window and of rope shared memory. -/
theorem witness_VectorMemoryAndLocalRegisters :
    let s := run [(1, 0x17FF0), (2, 0x201F0), (3, 0xFFFF0)]
    s.runs 0 true [1] ∧ s.holdsWords 0 0x17FF0 [0, 0, 0, 0] ∧ s.runs 0 true [2] ∧ s.holdsWords 0 0x201F0 [0, 0, 0, 0] ∧
      s.runs 0 true [3] ∧ s.holdsWords 0 0xFFFF0 [0, 0, 0, 0] ∧ s.runs 0 true [1, 32 + 15] ∧ s.storesAt 0 0x17FF0 0x200000FFF0 ∧
      s.runs 0 true [3, 32 + 15] ∧ s.storesAt 0 0xFFFF0 0x100007FFF0 ∧ s.runs 0 true [] :=
  ⟨runs_of (by decide +kernel), ⟨_, rfl, fun k _ => ⟨clean_of _ _ rfl rfl, by rcases k with _ | _ | _ | _ | k <;> rfl⟩⟩,
    runs_of (by decide +kernel), fun k _ => ⟨by decide +revert, by rcases k with _ | _ | _ | _ | k <;> rfl⟩,
    runs_of (by decide +kernel), ⟨_, rfl, fun k _ => ⟨clean_of _ _ rfl rfl, by rcases k with _ | _ | _ | _ | k <;> rfl⟩⟩,
    runs_of (by decide +kernel), stores_of (by decide +kernel) (by decide +kernel) (by decide) (by decide) rfl rfl,
    runs_of (by decide +kernel), stores_of (by decide +kernel) (by decide +kernel) (by decide) (by decide) rfl rfl,
    runs_of (by decide +kernel)⟩
/-- XRET outside the handler, a branch beyond either end, ADD with a bad field, DIV by 0, a load that maps nowhere, one that is
misaligned. -/
theorem witness_ExceptionsEnterTheHandler :
    let s := ((run [(1, 0xC0000000), (3, 0x80001)]).wr R.ENG_XVEC_XEN 1).wr R.ENG_CTL_TRAPDZ 1
    let x := s.getEng 0
    x.xact = false ∧ s.erd R.ENG_XVEC_XEN 0 = 1 ∧ s.runs 0 false [] ∧ condHolds x 0 = true ∧
      (x.pc.toNat : Int) + 4 * (0x3FFFFF : BitVec 22).toInt < 0 ∧ 0x4000 ≤ (x.pc.toNat : Int) + 4 * (0x1000 : BitVec 22).toInt ∧
      s.runs 0 true [1, 2] ∧ x.gr 2 = 0 ∧ s.erd R.ENG_CTL_TRAPDZ 0 = 1 ∧ s.runs 0 true [1] ∧ x.localMap 0xC0000000 = .none ∧
      s.runs 0 true [3] ∧ x.gr 3 = 0x80001 ∧ s.runs 0 true [] ∧ decodeEngineWord 0 0x18000000 = none :=
  ⟨by decide +kernel, by decide +kernel, runs_of (by decide +kernel), by decide +kernel, by decide +kernel, by decide +kernel,
    runs_of (by decide +kernel), by decide +kernel, by decide +kernel, runs_of (by decide +kernel), by decide +kernel,
    runs_of (by decide +kernel), by decide +kernel, runs_of (by decide +kernel), by decide +kernel⟩
theorem witness_FaultsEndTheThread :
    let s := run []
    let h := dev.setEng 0 { thr := some thr, xact := true }
    let l := (dev.setEng 0 { thr := some thr, lcyc := 256 }).wr R.ENG_RUNLIM_LIMIT 1
    s.erd R.ENG_XSTAT_VALID 0 = 0 ∧ (s.getEng 0).cbuf = none ∧ s.runs 0 false [] ∧ (s.getEng 0).xact = false ∧
      s.erd R.ENG_XVEC_XEN 0 = 0 ∧ h.erd R.ENG_XSTAT_VALID 0 = 0 ∧ (h.getEng 0).cbuf = none ∧ h.runs 0 true [] ∧
      (h.getEng 0).xact = true ∧ h.erd R.ENG_DBG_DBGEN 0 = 0 ∧ l.erd R.ENG_XSTAT_VALID 0 = 0 ∧ (l.getEng 0).cbuf = none ∧
      (l.getEng 0).thr.isSome = true ∧ l.erd R.ENG_RUNLIM_LIMIT 0 ≠ 0 ∧ l.erd R.ENG_DBG_HALTED 0 = 0 ∧ (l.physOf 0).isSome = true ∧
      (l.getEng 0).xact = false :=
  ⟨by decide +kernel, by decide +kernel, runs_of (by decide +kernel), by decide +kernel, by decide +kernel, by decide +kernel,
    by decide +kernel, runs_of (by decide +kernel), by decide +kernel⟩
theorem witness_ThreadsYieldAndEnd :
    let s := run [(1, 100), (2, 5)]
    (s.getEng 0).cbuf = none ∧ s.runs 0 false [] ∧ s.runs 0 true ([1] ++ [2]) ∧ s.runs 0 true ([] ++ []) ∧ (1 : Byte) ≠ 0 :=
  ⟨by decide +kernel, runs_of (by decide +kernel), runs_of (by decide +kernel), runs_of (by decide +kernel), by decide⟩

/-! ## Messages, engine control and cairns -/

/-- Words of a cairn stored from word 0 on. -/
def cairn (s : State) (c : Nat) (ws : List Word) : State :=
  (ws.foldl (fun (a : Nat × State) w => (a.1 + 1, a.2.putRaw (saCairn c a.1) w)) (0, s)).2
theorem slot_of {s : State} {c k : Nat} (h : k < 8 ∧ (s.cst c = 2 ∨ s.cst c = 3 ∨ s.cst c = 5) ∧ s.cCnt c k < s.cDepth c k)
    (u : s.upset = []) (p : s.poison = []) : s.slotOpen c k :=
  ⟨h.1, cairnClean_of s c u p, h.2.1, h.2.2, clean_of _ _ u p, clean_of _ _ u p⟩
/-- A PTD of instance 1 with OMAX 256. -/
def reply : Pair :=
  { desc := 0, words := [0, 1, 0, 0, 0, 0, 0, 0, 256], inbound := true, late := false, bsusp := false, emit := none, done := 0 }

theorem witness_MessagesWaitsAndNudges_send :
    let s := cairn (run [(1, 9)]) 9 [0x50000001, 0, 0, 0, 0x10000000]
    let t := cairn (run [(1, 9)]) 9 [0x20000002, 0, 0, 0, 0x10000000]
    (run [(1, 65535)]).runs 0 true [1, 2] ∧ (run [(1, 65535)]).cairnClean 65535 ∧ (run [(1, 65535)]).cst 65535 = 0 ∧
      s.runs 0 true [1, 2] ∧ s.slotOpen 9 7 ∧ s.cInst 9 = (s.getEng 0).tinst ∧
      s.outranked (.send 0) 9 7 = false ∧ t.runs 0 true [1, 2] ∧ t.slotOpen 9 7 ∧ t.cInst 9 ≠ (t.getEng 0).tinst ∧
      (t.getEng 0).tinst ≠ t.mgr :=
  ⟨runs_of (by decide +kernel), cairnClean_of _ _ rfl rfl, by decide +kernel, runs_of (by decide +kernel),
    slot_of (by decide +kernel) rfl rfl, by decide +kernel, by decide +kernel, runs_of (by decide +kernel),
    slot_of (by decide +kernel) rfl rfl, by decide +kernel⟩
/-- EMIT of a reserved bit, of an address outside, of a pair that is not open, and of 256 bytes at the end of data memory. -/
theorem witness_MessagesWaitsAndNudges_emit :
    let n := b2n (emitAddrOk 0x17F01 256)
    let s := ((run [(1, 0x17F00), (2, 0x0F1F0100)]).wr R.EWZ_LSTAT_STATE 2 15).setPort 15 { pairs := [(31, reply)] }
    s.runs 0 true [1, 2] ∧ n = 0 ∧ emitAddrOk 0x17F00 256 = true ∧ 0x0F1F0100 / 2 ^ 24 % 16 = 15 ∧ 0x0F1F0100 / 2 ^ 16 % 32 = 31 ∧
      0x0F1F0100 / 2 ^ 28 = 0 ∧ 0x0F1F0100 / 2 ^ 21 % 8 = 0 ∧ 0x0F1F0100 / 2 ^ 9 % 128 = 0 ∧ 0x0F1F0100 % 512 = 256 ∧
      smFind (s.getPort 15).pairs 30 = none ∧ smFind (s.getPort 15).pairs 31 = some reply ∧
      Desc.inst reply.words = (s.getEng 0).tinst ∧ (reply.inbound = true ∧ reply.emit = none) ∧ 256 ≤ Desc.omax reply.words ∧ s.linkUp 15 = true ∧
      (List.replicate 64 (0 : Word)).length = (0x17F00 + 256 - 1) / 4 + 1 - 0x17F00 / 4 ∧
      s.holdsWords 0 0x17F00 (List.replicate 64 0) ∧ 0x10000000 / 2 ^ 28 ≠ 0 :=
  ⟨runs_of (by decide +kernel), by decide +kernel, by decide +kernel, by decide, by decide, by decide, by decide, by decide, by decide,
    by decide +kernel, by decide +kernel, by decide +kernel, by decide +kernel, by decide +kernel, by decide +kernel, by decide +kernel,
    ⟨_, rfl, fun k hk => ⟨clean_of _ _ rfl rfl, by
      have e : ∀ k, k < (List.replicate 64 (0 : Word)).length → (List.replicate 64 (0 : Word)).getD k 0 = 0 := by decide
      rw [e k hk]; rfl⟩⟩, by decide⟩
theorem witness_MessagesWaitsAndNudges_wait :
    let s := run [(1, 1024), (2, 1023)]
    let h := dev.setEng 0 { thr := some thr, nudge := true }
    let w := dev.setEng 0 { thr := some thr, wait := some ⟨5, some 0⟩ }
    let r := dev.setEng 0 { thr := some thr, send := some ⟨5, 9, 0, 0⟩ }
    s.runs 0 true [1] ∧ (s.getEng 0).nudge = false ∧ h.runs 0 true [1] ∧ (h.getEng 0).nudge = true ∧
      1024 ≤ ((s.getEng 0).gr 1).toNat ∧ s.runs 0 true [2] ∧ ((s.getEng 0).gr 2).toNat = 1023 ∧ (s.physOf 1023).isSome = true ∧
      s.swapping 1023 = false ∧ s.inEntry 1023 = false ∧ (s.getEng 1023).wait = none ∧ (r.getEng 0).send = some ⟨5, 9, 0, 0⟩ ∧
      (w.getEng 0).wait = some ⟨5, some 0⟩ ∧ 0 ≤ w.ns.toNat ∧ (w.getEng 0).nudge = false ∧ w.erd R.ENG_STAT_PSTATE 0 ≤ 1 :=
  ⟨runs_of (by decide +kernel), by decide +kernel, runs_of (by decide +kernel), by decide +kernel, by decide +kernel,
    runs_of (by decide +kernel), by decide +kernel⟩
theorem witness_EngineControl :
    let s := (((((dev.wr R.ENG_ACCADDR_SLOT 32 31).wr R.ENG_RSTAT_RESV 32 31).wr R.ENG_ACCADDR_REGION 1 31).wr
      R.ENG_ACCADDR_OFFSET 8191 31).wr R.ENG_ACCADDR_REGION 3 30).wr R.ENG_DBG_DBGEN 1 31 31
    let h := s.wr R.ENG_DBG_HALTED 1 31 31
    (s.gate 0 (R.ENG_CTL_CLOAD.off 31 31) true).1 = true ∧ (s.gate 0 (R.ENG_CTL_CGRP.off 31 31) true).1 = true ∧
      (s.getEng 1023).pref = none ∧ (s.gate 0 (R.ENG_ACCDATA_DATA.off 31) false).1 = true ∧
      (s.gate 0 (R.ENG_ACCDATA_DATA.off 31) true).1 = true ∧ (s.accSa 31 false).isSome = true ∧ (s.accSa 31 true).isSome = true ∧
      s.accSa 30 false = none ∧ s.accSa 30 true = none ∧ (s.gate 0 (R.ENG_DBG_HALTREQ.off 31 31) true).1 = true ∧
      s.erd R.ENG_DBG_DBGEN 1023 = 1 ∧ s.erd R.ENG_DBG_HALTED 1023 = 0 ∧ (h.gate 0 (R.ENG_DBG_STEP.off 31 31) true).1 = true ∧
      (h.gate 0 (R.ENG_DBG_RESUME.off 31 31) true).1 = true ∧ h.erd R.ENG_DBG_DBGEN 1023 = 1 ∧ h.erd R.ENG_DBG_HALTED 1023 = 1 ∧
      s.inService 1023 = true ∧ s.erd R.ENG_STAT_PSTATE 1023 ≤ 1 ∧ s.issues 1023 = false := by decide +kernel
theorem witness_EngineControl_clean (a : Nat) : dev.clean a := clean_of _ _ rfl rfl
/-- Cairn 65535: FREE and well formed, FREE and malformed (no word), IDLE, RUNNING. -/
theorem witness_CairnsActivateAndDeactivate :
    let a := cairn dev 65535 [0x00010000, 0, 1, 0, 1]
    let i := cairn dev 65535 [0x10010000, 0, 1, 0, 1]
    let r := cairn dev 65535 [0x50010000, 0, 1, 0, 1]
    (dev.gate 0 R.TSC_CMD_GO.off true).1 = true ∧ (a.gate 0 R.TSC_CMD_GO.off true).1 = true ∧ a.cst 65535 = 0 ∧ a.cw 65535 5 = 0 ∧
      smGet a.heldJobs [] 65535 = [] ∧ a.cairnMalformed 65535 = false ∧ a.cairnSpoof 65535 = none ∧ a.cTmode 65535 = false ∧
      i.cst 65535 = 1 ∧ i.cw 65535 5 = 0 ∧ dev.cst 65535 = 0 ∧ dev.cairnMalformed 65535 = true ∧ r.cst 65535 = 5 := by decide +kernel
theorem witness_CairnsActivateAndDeactivate_clean : (cairn dev 65535 [0x00010000, 0, 1, 0, 1]).cairnClean 65535 :=
  cairnClean_of _ _ rfl rfl
/-- A device whose cairn 9, IDLE, RUNNING or WAITING, has slot 7 free. -/
def waiting (st : Word) (l : List Word) : State := cairn dev 9 ([st <<< 28 ||| 0x00800000, 0, 1, 0, 0x10000000] ++ l)
theorem witness_OperandSources_marker :
    let s := (((((waiting 5 []).wr R.TSC_MKROUTE_CAIRN 9 31).wr R.TSC_MKROUTE_SLOT 7 31).wr R.TSC_MKROUTE_EN 1 31).wr
      R.PTU_MKSTAT_PEND 1 31).setMarker 31 { nf := 70000 }
    s.rd R.TSC_MKROUTE_EN 31 ≠ 0 ∧ s.rd R.PTU_MKSTAT_PEND 31 ≠ 0 ∧ (s.getMarker 31).nf ≠ 0 ∧
      s.slotOpen (s.rd R.TSC_MKROUTE_CAIRN 31) (s.rd R.TSC_MKROUTE_SLOT 31) ∧ s.outranked (.marker 31) 9 7 = false :=
  ⟨by decide +kernel, by decide +kernel, by decide +kernel, slot_of (by decide +kernel) rfl rfl, by decide +kernel⟩
/-- A one-shot timer that is due, a periodic one, and a YIELD whose timeout has come. -/
theorem witness_OperandSources_timers :
    let one := { (waiting 5 [0, 0, 0xF000]) with tsc := { tmrP := [9] } }
    let per := { (waiting 5 [0, 0, 0xF000, 0, 0, 1000]) with tsc := { tmrP := [9] } }
    let y := { (waiting 6 []) with tsc := { tmrY := [(9, 0)] } }
    (9 ∈ one.tsc.tmrP ∧ one.cTmode 9 = true ∧ one.outranked .timer 9 (one.cTslot 9) = false ∧ per.cTmode 9 = true ∧
        per.outranked .timer 9 (per.cTslot 9) = false) ∧ (one.ns48 + 2 ^ 48 - one.cTdl 9) % 2 ^ 48 < 2 ^ 47 ∧ one.slotOpen 9 (one.cTslot 9) ∧ (one.cw 9 10).toNat = 0 ∧
      9 ∈ per.tsc.tmrP ∧ (per.ns48 + 2 ^ 48 - per.cTdl 9) % 2 ^ 48 < 2 ^ 47 ∧ per.slotOpen 9 (per.cTslot 9) ∧
      (per.cw 9 10).toNat ≠ 0 ∧ smFind y.tsc.tmrY 9 = some 0 ∧ (y.ns48 + 2 ^ 48 - 0 % 2 ^ 48) % 2 ^ 48 < 2 ^ 47 ∧ y.cairnClean 9 ∧
      y.cst 9 = 6 ∧ y.cFlow 9 = 0 :=
  ⟨by decide +kernel, by decide +kernel, slot_of (by decide +kernel) rfl rfl, by decide +kernel, by decide +kernel, by decide +kernel,
    slot_of (by decide +kernel) rfl rfl, by decide +kernel, by decide +kernel, by decide +kernel, cairnClean_of _ _ rfl rfl,
    by decide +kernel⟩
theorem witness_OperandSources_queue :
    let e : CqEnt := ⟨9, 7, 1, 2⟩
    let s := (waiting 5 []).setPort 15 { cq := [⟨8, 7, 1, 2⟩, e] }
    (s.getPort 15).cq[1]? = some e ∧ (∀ z ∈ (s.getPort 15).cq.take 1, ¬(z.c = e.c ∧ z.slot = e.slot)) ∧ e.c < 65536 ∧
      s.slotOpen e.c e.slot ∧ s.outranked (.completion 15) e.c e.slot = false :=
  ⟨by decide +kernel, by decide +kernel, by decide, slot_of (by decide +kernel) rfl rfl, by decide +kernel⟩
/-- Two READY cairns of which the first chooses engine 0 of rope 0, and no other rope takes either. -/
theorem witness_DispatchStartAndMerge_dispatch :
    let y : ReadyEnt := { c := 9, prio := 7, tr := 0 }
    let s := { ((waiting 2 []).wr R.TSC_CTL_EN 1) with tsc := { ready := [y] } }
    let s1 : State := { s with tsc := { s.tsc with cyc := s.tsc.cyc + 1, rope0 := (s.tsc.rope0 + 1) % 32 } }
    s.rd R.TSC_CTL_EN = 1 ∧ (∀ d ∈ s.eng, d.2.send = none) ∧ y ∈ s.tsc.ready ∧ y.prio < 8 ∧ s.tsc.ready.length ≤ 64 ∧
      s.cairnClean y.c ∧ y.c < 65536 ∧ s1.chooseEng 0 y = some 0 ∧
      (∀ q, q < 32 → ∀ z ∈ s.tsc.ready, q ≠ 0 ∨ z ≠ y → s1.chooseEng q z = none) ∧ (s.wr R.TSC_CTL_EN 0).rd R.TSC_CTL_EN = 0 :=
  ⟨by decide +kernel, by decide +kernel, by decide +kernel, by decide, by decide +kernel, cairnClean_of _ _ rfl rfl, by decide,
    by decide +kernel, by decide +kernel, by decide +kernel⟩
/-- A prefetched cairn of engine 1023, on an engine of nobody, and on one that another instance owns. -/
theorem witness_DispatchStartAndMerge_start :
    let pf : Prefetch := ⟨9, [1], [], [], 0, 0, 0⟩
    let s := (waiting 4 []).setEng 1023 { pref := some pf }
    let o := (s.wr R.ENG_OWN_OWNEN 1 31 31).wr R.ENG_OWN_INST 2 31 31
    (s.getEng 1023).pref = some pf ∧ (s.getEng 1023).thr = none ∧ (s.getEng 1023).stalled = none ∧ s.erd R.ENG_STAT_PSTATE 1023 ≤ 1 ∧
      s.swapping 1023 = false ∧ (s.physOf 1023).isSome = true ∧ pf.c < 65536 ∧ s.cairnClean pf.c ∧ s.cst pf.c = 4 ∧
      s.erd R.ENG_OWN_OWNEN 1023 = 0 ∧
      (¬(o.erd R.ENG_OWN_OWNEN 1023 = 0 ∨ o.erd R.ENG_OWN_INST 1023 = bits (pf.words.getD 0 0) 6 0 ∨ bits (pf.words.getD 0 0) 6 0 = o.mgr) ∧
        o.cst pf.c = 4 ∧ o.erd R.ENG_XSTAT_VALID 1023 = 0 ∧ (o.getEng 1023).cbuf = none) :=
  ⟨by decide +kernel, by decide +kernel, by decide +kernel, by decide +kernel, by decide +kernel, by decide +kernel, by decide,
    cairnClean_of _ _ rfl rfl, by decide +kernel, by decide +kernel, by decide +kernel⟩
/-- Records of END, of a fault and of YIELD; a cairn that ends, one that persists. -/
theorem witness_DispatchStartAndMerge_merge :
    let y : YieldRec := ⟨1, none, none, 7⟩
    let z : EndRec := ⟨9, some 1, none, false, [], 0, 0⟩
    let h : EndRec := ⟨9, some 0x80, none, true, [], 0, 0⟩
    let w : EndRec := ⟨9, none, some y, false, [], 0, 0⟩
    let s (r : EndRec) := (waiting 5 []).setEng 1023 { cbuf := some r }
    let k := (cairn dev 9 [0x50800100, 0, 1, 0, 0x10000000]).setEng 1023 { cbuf := some z }
    ((s z).getEng 1023).cbuf = some z ∧ z.c < 65536 ∧ (s z).cairnClean z.c ∧ (s z).cst z.c = 5 ∧
      ((s z).rd R.TSC_CTL_LOGEN = 0 ∧ z.lstat = some 1 ∧ z.halted = false ∧ (s z).cPersist z.c = false) ∧
      (k.cPersist 9 = true ∧ k.slotsMet 9 (k.cReq 9) = false ∧ k.cst 9 = 5) ∧
      (h.lstat = some 0x80 ∧ h.halted = true ∧ (s h).cst 9 = 5) ∧
      (w.lstat = none ∧ w.yield = some y ∧ y.timeout = none ∧ (s w).slotsMet 9 y.wreq.toNat = false ∧ (s w).cst 9 = 5) :=
  ⟨by decide +kernel, by decide, cairnClean_of _ _ rfl rfl, by decide +kernel, by decide +kernel, by decide +kernel, by decide +kernel,
    by decide +kernel⟩
/-- Two cairns that wait on each other; a rope that has settled and one on which a reflex thread still stands. -/
theorem witness_ReflexSetsAndCycles :
    let w (d : Word) : List Word := [0x60000000, 0, 1, 0, 0, 0, 0, 0, 0, 0, 0, 0x10000000 ||| d]
    let s := cairn (cairn dev 3 (w 4)) 4 (w 3)
    let r := dev.setEng 0 { thr := some { thr with rfx := true } }
    (dev.gate 0 (R.TSC_ROPECFG_RFXN.off 31) true).1 = true ∧ (∀ k, k < 32 → (dev.getEng (32 * 31 + k)).pref = none) ∧
      dev.reflexSettled 31 = true ∧ r.reflexSettled 0 = false ∧ (dev.wr R.TSC_CTL_DETEN 0).rd R.TSC_CTL_DETEN = 0 ∧
      s.rd R.TSC_CTL_DETEN = 1 ∧ (∀ a ∈ s.usedCairns, s.cst a = 6 → s.cairnClean a) ∧ Memory.wf s.mem ∧ 3 ∈ s.usedCairns ∧
      s.cycleFrom 3 s.usedCairns.length 3 [] = some [3, 4] ∧ (∀ d ∈ [3, 4], 3 ≤ d) ∧
      (∀ a ∈ s.usedCairns, a ∉ [3, 4] → s.cycleFrom a s.usedCairns.length a [] = none) ∧ s.cFlow (s.youngest [3, 4]) = 0 ∧
      (dev.rd R.TSC_CTL_DETEN = 1 ∧ dev.usedCairns = []) :=
  ⟨by decide +kernel, by decide +kernel, by decide +kernel, by decide +kernel, by decide +kernel, by decide +kernel,
    fun _ _ _ => cairnClean_of _ _ rfl rfl, by decide +kernel, by decide +kernel, by decide +kernel, by decide +kernel,
    by decide +kernel, by decide +kernel⟩

/-! ## Position time base -/

/-- The ends of the trim range and the value below it; the frame limits at their ends and one below; PFNUM with and without frames. -/
theorem witness_TimeBaseWrites :
    let f := dev.wr R.PTU_PFRM_FEN 1 15
    (dev.gate 0 R.PTU_TINC_INC.off true).1 = true ∧ 0x0001FF00 % 2 ^ 24 = 0x1FF00 ∧ 0x00020100 % 2 ^ 24 = 0x20100 ∧
      ¬(0x1FF00 ≤ 0x0001FEFF % 2 ^ 24) ∧ (dev.gate 0 R.PTU_CTL_TLOAD.off true).1 = true ∧
      (dev.gate 0 R.PTU_CTL_TSTEP.off true).1 = true ∧ (dev.gate 0 (R.PTU_TRKCTL_PRESET.off 15) true).1 = true ∧
      (dev.gate 0 (R.PTU_PFNUM_FNUM.off 15) true).1 = true ∧ dev.rd R.PTU_PFRM_FEN 15 = 0 ∧
      (f.gate 0 (R.PTU_PFNUM_FNUM.off 15) true).1 = true ∧ f.rd R.PTU_PFRM_FEN 15 ≠ 0 ∧
      (dev.gate 0 (R.PTU_PFRM_FEN.off 15) true).1 = true ∧ 0x1F40007D % 2 ^ 13 = 125 ∧ 0x1F40007D / 2 ^ 16 % 2 ^ 13 = 8000 ∧
      ¬(125 ≤ 0x1F40007C % 2 ^ 13) := by decide +kernel
theorem witness_ClockTickAdvancesTime : dev.phase = .running := rfl
theorem witness_ReadsLatchWhatBelongsTogether :
    (dev.gate 0 R.PTU_TIMELO_NS_LO.off false).1 = true ∧ (dev.gate 0 (R.PTU_TRKPOSF_POSF.off 15) false).1 = true := by decide +kernel
/-- Track 7 counts; it last saw an edge one PTU step more than TOUT ago, and its report of track 15 is just TOUT old. A change of
neither input, of one and of both; one that the filter does not pass, and one from before the start. -/
theorem witness_TracksFollowTheirInputs :
    let e (t : Nat) (k : Nat) : State := ((((dev.wr R.PTU_CTL_EN 1).wr R.PTU_TRKCTL_EN 1 t).setTime (BitVec.ofNat 80 k)).setTrack t
      { running := true, a := true, count := 5, tStart := 1 })
    let s := e 7 (100000 * 2 ^ 16 + 1)
    let b := s.setTrack 7 { s.getTrack 7 with tStart := s.time }
    let z := s.wr R.PTU_TRKCTL_ZCLR 1 7
    let v := e 15 (100000 * 2 ^ 16)
    let one : EncEdge := ⟨false, false, 15, 0⟩
    let two : EncEdge := ⟨false, true, 15, 0⟩
    s.trkRuns 7 = true ∧ (s.getTrack 7).running = true ∧ s.encStable 7 15 = true ∧ s.encStable 7 2 = false ∧
      (s.getTrack 7).afterStart (s.encTime 7 0) = true ∧
      (b.encStable 7 15 = true ∧ (b.getTrack 7).afterStart (b.encTime 7 0) = false) ∧ s.rd R.PTU_TRKCTL_MODE 7 = 0 ∧
      ((one.a != (s.getTrack 7).a) != (one.b != (s.getTrack 7).b)) = true ∧ (two.a ≠ (s.getTrack 7).a ∧ two.b ≠ (s.getTrack 7).b) ∧
      s.rd R.PTU_TRKCTL_ZCLR 7 = 0 ∧ z.trkRuns 7 = true ∧ z.rd R.PTU_TRKCTL_ZCLR 7 ≠ 0 ∧
      (match exec (.encoderEdge 7 ⟨one.stable, one.skew⟩ one.a one.b) s with | .next _ => true | _ => false) = true ∧
      (s.trkTout 7 : Int) < (s.time.toNat : Int) - (s.getTrack 7).tEdge.toNat ∧
      v.trkRuns 15 = true ∧ (v.getTrack 15).running = true ∧
      (v.trkTout 15 : Int) ≤ (v.time.toNat : Int) - (v.getTrack 15).tEdge.toNat := by decide +kernel
/-- A marker that is due, without a step, with one, and with a write in the same clock. -/
theorem witness_MarkersTargetStepAndFire :
    let s := ((((dev.wr R.PTU_CTL_EN 1).wr R.PTU_MKCTL_EN 1 31).wr R.PTU_MKCTL_TMODE 1 31).wr R.PTU_MKSTAT_ARMU 1 31)
    let t := s.setMarker 31 { s := 1 }
    let w := s.setMarker 31 { s := 1, snap := some ⟨0, 0, true, true⟩ }
    (dev.gate 0 (R.PTU_MKTGT1_TGT_HI.off 31) true).1 = true ∧ (dev.gate 0 (R.PTU_MKSTEP1_STEP.off 31) true).1 = true ∧
      (s.mkDue 31 = some false ∧ (s.getMarker 31).s = 0) ∧
      (t.mkDue 31 = some false ∧ (t.getMarker 31).s ≠ 0 ∧ (t.getMarker 31).snap = none) ∧
      (w.mkDue 31 = some false ∧ (w.getMarker 31).s ≠ 0 ∧ (w.getMarker 31).snap ≠ none) ∧
      (∀ q, q < 16 → s.rd R.PTU_PFRM_FEN q ≠ 0 → s.leader q = q → s.bound q 31 = false) := by decide +kernel
/-- A port at the last clock before its limit of 125 µs, and one whose deferred start stands when FMIN passes; a marker bound to port 15
alone, before FMIN and after it. -/
theorem witness_FramesStartAndSofLeaves :
    let b := (dev.wr R.PTU_PFRM_FEN 1 15).wr R.EWZ_LSTAT_STATE 2 15
    let s := b.setFrame 15 { since := limClk 8000 }
    let x : SofPend := ⟨9, true, false, false, 0, [], none, false⟩
    let d := b.setFrame 15 { since := limClk 125, first := false, deferred := some (31, 3), sof := some x }
    let m (c : Nat) : State := (((((b.wr R.PTU_CTL_EN 1).wr R.PTU_MKCTL_EN 1 31).wr R.PTU_MKCTL_TMODE 1 31).wr R.PTU_MKSTAT_ARMU 1 31).wr
      R.PTU_PBIND_MKMASK 0x80000000 15).setFrame 15 { since := c, first := false }
    s.rd R.PTU_PFRM_FEN 15 = 1 ∧ s.rd R.PTU_PCFG_GANG_EN 15 = 0 ∧ (s.getFrame 15).now = none ∧ s.boundDue 15 = false ∧
      (s.getFrame 15).deferred = none ∧ limClk (s.rd R.PTU_PFRM_FMAX 15) ≤ (s.getFrame 15).since ∧ d.rd R.PTU_PFRM_FEN 15 = 1 ∧
      d.rd R.PTU_PCFG_GANG_EN 15 = 0 ∧ (d.getFrame 15).now = none ∧ d.boundDue 15 = false ∧
      (d.getFrame 15).deferred = some (31, 3) ∧ d.fminPassed 15 = true ∧
      (∀ c ∈ [0, limClk 125], (m c).mkDue 31 = some false ∧ (m c).bound 15 31 = true ∧ (m c).rd R.PTU_PFRM_FEN 15 = 1 ∧
        ((m c).getFrame 15).now = none ∧
        ∀ q, q < 16 → q ≠ 15 → (m c).rd R.PTU_PFRM_FEN q ≠ 0 → (m c).leader q = q → (m c).bound q 31 = false) ∧
      (m (limClk 125)).fminPassed 15 = true ∧ ((m 0).fminPassed 15 = false ∧ ((m 0).getFrame 15).deferred = none) ∧
      (d.getFrame 15).sof = some x ∧ d.lstate 15 = lL0 ∧ d.sofHeld 15 x = false := by
  decide +kernel

/-! ## Root links -/

/-- The device with root port 15 in a link state of R77, holding `x`. -/
def link (st : Nat) (x : Port) : State := (dev.wr R.EWZ_LSTAT_STATE st 15).setPort 15 x
def restsB (s : State) (p : Nat) : Bool :=
  decide ((s.getWalk p).live = false ∨ ((s.getWalk p).closed = true ∧ (s.getWalk p).sync = [])) && decide ((s.getPort p).held = []) &&
    decide ((s.getPort p).fw = []) && decide ((s.getPort p).enum = none) &&
    decide ((s.getPort p).attach = [] ∨ s.rd R.CMD_STAT_FWRDY = 0) && decide (∀ e ∈ s.cmds.cmd, e.2.wait ≠ .enum p)
theorem rests_of {s : State} {p : Nat} (h : restsB s p = true) : s.rests p := by
  unfold restsB at h
  unfold State.rests
  simpa [and_assoc] using h
def bareB (s : State) (p : Nat) : Bool :=
  decide (s.addrs p = []) && decide ((s.getPort p).xfers = []) && decide ((s.getPort p).pairs = []) && (s.getPort p).cur.isNone &&
    (s.getPort p).cur0.isNone && decide ((s.getPort p).fw = []) && (s.getPort p).enum.isNone && s.rd R.SCH_CANCEL_GO p == 0
theorem bare_of {s : State} {p : Nat} (h : bareB s p = true) : s.bare p := by
  unfold bareB at h
  unfold State.bare
  simpa [and_assoc] using h
/-- TRAIN of step 1 from the downstream side: it supports the rates of a mask (R79). -/
def offers (rates : Nat) : BitVec 64 := (ctrlBlock bTRAIN [BitVec.ofNat 8 rates, 1]).bits

/-- PRESENCE at both ends of its range; a partner that names every rate, none in common, or no rate yet. -/
theorem witness_PresenceAndTraining :
    let d := link 0 {}
    let q := link 0 { quiet := true, presLast := true }
    let l := link 0 { presLast := true }
    let t := link 1 { echoes := 62, train := [offers 7] }
    let u := link 1 { echoes := 63, train := [offers 7] }
    let c := link 1 { echoes := 64 }
    d.lstate 15 = lDISC ∧ ((d.getPort 15).quiet = false ∧ (d.getPort 15).presLast = false) ∧ q.lstate 15 = lDISC ∧
      (q.getPort 15).quiet = true ∧ l.lstate 15 = lDISC ∧ (l.getPort 15).presLast = true ∧ (l.getPort 15).quiet = false ∧
      (∀ n ∈ [1600, 2400], 1600 ≤ n ∧ n ≤ 2400) ∧ ¬(1600 ≤ 1599 ∧ 1599 ≤ 2400) ∧ ¬(1600 ≤ 2401 ∧ 2401 ≤ 2400) ∧
      ([] : List (BitVec 64)).findSome? trainRates = none ∧ [offers 7].findSome? trainRates = some 7 ∧ l.bestRate 15 7 = some 2 ∧
      [offers 0].findSome? trainRates = some 0 ∧ l.bestRate 15 0 = none ∧ l.rd R.EWZ_CTL_RESET 15 = 0 ∧
      (t.lstate 15 = lTRAIN ∧ (t.getPort 15).train.findSome? trainRates ≠ none ∧ (62 : BitVec 16).toNat = (t.getPort 15).echoes ∧
        (t.getPort 15).echoes + 1 < 64) ∧
      (u.lstate 15 = lTRAIN ∧ (63 : BitVec 16).toNat = (u.getPort 15).echoes ∧ (u.getPort 15).echoes + 1 = 64) ∧
      (c.lstate 15 = lTRAIN ∧ 64 ≤ (c.getPort 15).echoes ∧ 64 ≤ (64 : Byte).toNat ∧ (63 : Byte).toNat < 64 ∧
        c.rd R.EWZ_CTL_RESET 15 = 0 ∧ c.rd R.CMD_STAT_FWRDY = 0 ∧
        (c.wr R.CMD_STAT_FWRDY 1).rd R.CMD_STAT_FWRDY ≠ 0) ∧ restsB c 15 = true ∧ restsB (c.wr R.CMD_STAT_FWRDY 1) 15 = true := by
  decide +kernel
/-- KEEP and WAKE at both ends of their ranges. -/
theorem witness_SuspendAndResume :
    let a := link 4 {}
    let b := link 5 { resuming := true }
    let l := link 2 {}
    let e := link 7 {}
    a.lstate 15 = lL1 ∧ (a.getPort 15).resuming = false ∧ (a.gate 0 (R.EWZ_CTL_RESUME.off 15) true).1 = true ∧ b.lstate 15 = lL2 ∧
      (∀ n ∈ [160, 240], 160 ≤ n ∧ n ≤ 240) ∧ ¬(160 ≤ 159 ∧ 159 ≤ 240) ∧ (∀ n ∈ [320, 480], 320 ≤ n ∧ n ≤ 480) ∧
      ¬(320 ≤ 481 ∧ 481 ≤ 480) ∧ (b.getPort 15).resuming = true ∧ b.rd R.EWZ_CTL_RESET 15 = 0 ∧ restsB b 15 = true ∧
      l.lstate 15 = lL0 ∧ (l.gate 0 (R.EWZ_CTL_SUSPREQ.off 15) true).1 = true ∧ e.lstate 15 = lENTRY ∧
      e.rd R.EWZ_CTL_RESET 15 = 0 ∧ restsB e 15 = true := by decide +kernel
/-- Measurements that make a run of HOLD of either kind, and that make neither; 8 invalid sync headers among the last 64 blocks, and 7. -/
theorem witness_RetrainAndRecovery :
    let l := link 2 { lowWidth := 7, lowHeight := 7 }
    let r := link 8 {}
    let v := link 3 {}
    let low (k : Nat) : List (Option (BitVec 66)) := List.replicate k (some 3) ++ List.replicate 56 (some 1)
    let bad (a : List (Option (BitVec 66))) : Nat := ((a.reverse.take 64).filter (fun b => !b.any syncOk)).length
    l.lstate 15 = lL0 ∧ (l.gate 0 (R.EWZ_CTL_FORCERT.off 15) true).1 = true ∧
      (15 < l.rd R.EWZ_MARGIN_TH_WTH 15 ∧ ¬255 < l.rd R.EWZ_MARGIN_TH_HTH 15 ∧
        max 1 (l.rd R.EWZ_MARGIN_TH_HOLD 15) ≤ (l.getPort 15).lowWidth + 1) ∧
      0 < max 1 (l.rd R.EWZ_MARGIN_TH_HOLD 15) ∧ l.rd R.EWZ_LSTAT_RTPEND 15 = 0 ∧ r.lstate 15 = lRETRAIN ∧
      r.rd R.EWZ_CTL_RESET 15 = 0 ∧ restsB r 15 = true ∧ v.lstate 15 = lRECOV ∧ v.rd R.EWZ_CTL_RESET 15 = 0 ∧ restsB v 15 = true ∧
      (r.getPort 15).cur = none ∧ (r.getPort 15).cur0 = none ∧ (l.getPort 15).cur = none ∧ (l.getPort 15).cur0 = none ∧
      8 ≤ bad (low 8) ∧ bad (low 7) < 8 ∧ (low 7).getLast? ≠ some none := by decide +kernel
theorem witness_LinkEnableResetAndLoss :
    let l := link 2 { walk := { bTime := some 0 } }
    let b := l.setTime (BitVec.ofNat 80 ((l.tseg 15 + 100) * 65536))
    let o := link 6 {}
    let d := link 0 {}
    let t := link 1 {}
    let k := link 4 { keepMiss := 3 }
    let v := link 3 {}
    l.lstate 15 = lL0 ∧ (o.gate 0 (R.EWZ_CTL_EN.off 15) true).1 = true ∧ o.lstate 15 = lDISABLED ∧ o.rd R.EWZ_CTL_RESET 15 = 0 ∧
      (t.gate 0 (R.EWZ_CTL_EN.off 15) true).1 = true ∧ t.lstate 15 = lTRAIN ∧ (t.getPort 15).pass = [] ∧ bareB l 15 = true ∧
      (d.gate 0 (R.EWZ_CTL_RESET.off 15) true).1 = true ∧ restsB d 15 = true ∧ (d.getPort 15).cur = none ∧ d.lstate 15 = lDISC ∧
      restsB l 15 = true ∧ (l.getPort 15).cur = none ∧ restsB t 15 = true ∧ (t.getPort 15).cur = none ∧
      bareB k 15 = true ∧ k.rd R.EWZ_CTL_RESET 15 = 0 ∧ k.lstate 15 = lL1 ∧ 3 ≤ (k.getPort 15).keepMiss ∧ bareB v 15 = true ∧
      v.lstate 15 = lRECOV ∧ bareB b 15 = true ∧ b.lstate 15 = lL0 ∧ (b.getPort 15).walk.bTime = some 0 ∧
      (0 : Time80).toNat + (b.tseg 15 + 100) * 65536 ≤ b.time.toNat := by decide +kernel

/-! ## Packets -/

/-- Blocks as they come over a lane whose scrambler has run on bits that are not all 0. -/
def onLane (l : List Block) : RxLine := ⟨0x2AAAAAAAAAAAAAA, scramble 0x2AAAAAAAAAAAAAA l⟩
/-- A whole packet with header `h` and payload `l`. -/
def pkt (h : Hdr) (l : List Byte) : RxLine := onLane (h.packet l)
/-- Check values of the CRC catalogue for the nine bytes "123456789": CRC-16/MCRF4XX before its register is read, and CRC-32 (R143,
R144). -/
theorem test_crc16 : crc16 [0x31, 0x32, 0x33, 0x34, 0x35, 0x36, 0x37, 0x38, 0x39] = 0x6F91 := by decide +kernel
theorem test_crc32 : crc32 [0x31, 0x32, 0x33, 0x34, 0x35, 0x36, 0x37, 0x38, 0x39] = 0xCBF43926 := by decide +kernel
/-- Nine bytes of payload take four data blocks with their header and CRC, the last of which holds 5 valid bytes (R131, R132). -/
theorem test_packet_blocks :
    let l := Hdr.packet { ty := 4 } (List.replicate 9 0xAA)
    l.length = 6 ∧ l.getD 0 skipBlock = ⟨true, 0x4B⟩ ∧ l.getD 5 skipBlock = ⟨true, 0x0555⟩ ∧ (l.getD 1 skipBlock).bits = 0x0048000040000000 := by
  decide +kernel
/-- With a history of 0 the first block leaves as it is but for its taps at 39 and 58 (R72). -/
theorem test_scrambler : scramble64 0 1 = (0x0400008000000001, 0x0010000200000000) := by decide +kernel
/-- A packet cut after its header by another packet, and one that ends in ABORT (R75, R169, R181). -/
theorem test_cut_and_abort :
    let h : Hdr := { ty := 4, addr := 126 }
    let l := h.packet [1, 2, 3]
    let c := onLane (l.take 3 ++ cutBlock :: (Hdr.packet { ty := 2 } [] ++ contBlock :: l.drop 3))
    let k := onLane (l.take 3 ++ [abortBlock aRESET])
    c.packet = (pkt h [1, 2, 3]).packet ∧ k.packet.abort = some 1 ∧ k.packet.framed = false := by decide +kernel
/-- The device with a device of generation 7 at address 126 of root port 15, in L0. -/
def attached (x : Port) : State := ((link 2 x).wr R.EWZ_ADDRTAB0_VALID 1 15 126).wr R.EWZ_ADDRTAB0_GEN 7 15 126
def acceptsB (s : State) (p : Nat) (ln : RxLine) (ty : Nat) : Bool :=
  let k := ln.packet
  decide (s.lstate p = lL0 ∨ s.lstate p = lENTRY) && k.crcOk && k.formOk && decide (k.ty = ty) && decide (k.addr ≠ 0) &&
    decide (k.addr ≠ 127) && s.genOk p k.addr k.gen
theorem accepts_of {s : State} {p : Nat} {k : RxLine} {ty : Nat} (h : acceptsB s p k ty = true) : s.accepts p k.packet ty := by
  unfold acceptsB at h
  unfold State.accepts
  simpa [and_assoc] using h

/-- A packet of every kind that PacketAcceptance tells apart; the scrambled line of a header alone and of 4,096 bytes. -/
theorem witness_PacketAcceptance :
    let s := attached {}
    let h : Hdr := { ty := 5, addr := 126, gen := 7 }
    let k := pkt h []
    let w := h.words
    let bad := onLane (packetBlocks [w.getD 0 0, w.getD 1 0, w.getD 2 0, w.getD 3 0 ^^^ 0x10000] [])
    let cut := onLane ((h.packet []).take 2 ++ [abortBlock aDISABLE])
    let long := onLane (packetBlocks w [1])
    let u := pkt { h with addr := 1 } []
    let o := pkt { h with gen := 6 } []
    let whole (k : RxPacket) : Bool := k.crcOk && k.formOk && decide (k.ty = 5 ∧ k.addr ≠ 0 ∧ k.addr ≠ 127)
    ((7 < 8) ∧ (65535 < 2 ^ 16) ∧ (List.replicate 4096 (0 : Byte)).length ≤ 4096) ∧
      ((link 0 {}).lstate 15 ≠ lL0 ∧ (link 0 {}).lstate 15 ≠ lENTRY) ∧ s.lstate 15 = lL0 ∧
      (bad.packet.framed = true ∧ bad.packet.crcOk = false) ∧ cut.packet.framed = false ∧
      (long.packet.crcOk = true ∧ long.packet.formOk = false) ∧ whole u.packet = true ∧
      s.rd R.EWZ_ADDRTAB0_VALID 15 u.packet.addr = 0 ∧ whole o.packet = true ∧ s.rd R.EWZ_ADDRTAB0_VALID 15 o.packet.addr ≠ 0 ∧
      s.genOk 15 o.packet.addr o.packet.gen = false ∧ whole k.packet = true ∧ s.genOk 15 k.packet.addr k.packet.gen = true ∧
      (s.getPort 15).cur = none ∧ (s.getPort 15).cur0 = none ∧ restsB s 15 = true := by decide +kernel

/-- A descriptor of class 1: word 1, MPS and length `n`, and its buffer in list memory. -/
def descOf (w1 : Word) (n : Nat) : List Word := [0x80000000, w1, w32 n, w32 (4 * n), 0x10, 0x20000000, 0, 0]
/-- A transaction of kind `k` on endpoint 15 of the device at address 126. -/
def txn (k : TxKind) (din : Bool) (ws : List Word) : Txn :=
  { kind := k, desc := 64, words := ws, src := .periodic, addr := 126, gen := 7, dirIn := din, ep := 15, tc := 1, n := 16, seq0 := 60,
    answered := false, ended := none, full := false }
/-- The answer of type `ty` with sequence number `q`. -/
def ans (ty : Nat) (din : Bool) (q : Nat) (l : List Byte) : RxLine :=
  pkt { ty := ty, tc := 1, addr := 126, gen := 7, dir := din, ep := 15, seq := q } l
def held (t : Txn) : State := attached { cur := some t, xfers := [(64, { btd := false })] }
/-- What every clause asks for. -/
def common (s : State) (t : Txn) (k : RxLine) : Bool :=
  decide (s.phase = .running) && restsB s 15 && decide ((s.getPort 15).cur = some t) && (s.getPort 15).cur0.isNone && t.meets k.packet &&
    decide (s.xfer 15 t.desc = some { btd := false }) && decide (t.src ≠ .bulk) && !s.cancelDue 15 t.desc &&
    (s.getPort 15).walk.owed.isNone && (s.getPort 15).walk.sync.isEmpty
/-- A packet of type `ty` that goes on an IN burst of the descriptor `ws`. -/
def goesOn (s : State) (t : Txn) (ln : RxLine) (ty : Nat) : Bool :=
  let d : Desc := t.words
  let k := ln.packet
  common s t ln && acceptsB s 15 ln ty && decide (t.kind = .inn ∧ t.ended = none ∧ k.seq = (s.pipe 15 126 true 15).seq.toNat ∧
    d.dop = false ∧ 0 < k.len ∧ 0 + k.len ≤ d.tlen ∧ s.bufRoom 15 k.len = true ∧ k.bend = false ∧
    (s.pipe 15 126 true 15).waiting = false)

/-- Four bytes of DATA into list memory. -/
theorem witness_PacketsAnswerTransactions_data :
    let t := txn .inn true (descOf 0x9FFE7000 4)
    let d : Desc := t.words
    let k := ans 4 true 0 [1, 2, 3, 4]
    let s := held t
    goesOn s t k 4 = true ∧ k.packet.payload.length = 4 ∧ (d.buf + 0) % 4 = 0 ∧ s.globalSa (d.buf + 0) = some 0x1020000000 ∧
      s.imemShut (d.buf + 0) = false := by decide +kernel
/-- A POSITION_REPORT for virtual track 15. -/
theorem witness_PacketsAnswerTransactions_report :
    let t := txn .inn true [0x80000000, 0x9FFE7000, 64, 64, 0, 0, 0, 0]
    let d : Desc := t.words
    let k := ans 12 true 0 [0, 0, 0, 0, 1, 0, 0, 0, 5, 0, 0, 0, 0, 0, 0, 0]
    let s := ((((((held t).wr R.PTU_TRKSRC_PORT 15 15).wr R.PTU_TRKSRC_ADDR 126 15).wr R.PTU_TRKSRC_GEN 7 15).wr R.PTU_TRKSRC_EP 15
      15).wr R.PTU_CTL_EN 1).wr R.PTU_TRKCTL_EN 1 15
    let s := s.setFrame 15 { sofs := [(5, some 1000)] }
    goesOn s t k 12 = true ∧ k.packet.len = 16 ∧ s.rd R.PTU_TRKSRC_PORT 15 = 15 ∧ s.rd R.PTU_TRKSRC_ADDR 15 = k.packet.addr ∧
      s.rd R.PTU_TRKSRC_GEN 15 = k.packet.gen ∧ s.rd R.PTU_TRKSRC_EP 15 = k.packet.ep ∧ s.trkRuns 15 = true ∧
      d.buf + 0 + 16 ≤ 0x1000000000 ∧
      (s.getFrame 15).sofs.find? (fun f => f.1.toNat == bits ((bytesWords k.packet.payload).getD 2 0) 15 0) = some (5, some 1000) ∧
      (s.getTrack 15).lastAt = none := by decide +kernel
/-- ACK and NOTYET that release 3 packets of 4, across the wrap of the sequence, NAK and STALL; word 3 gives 4 packets. -/
theorem witness_PacketsAnswerTransactions_out :
    let t := txn .out false (descOf 0x97FE7000 4)
    let d : Desc := t.words
    let s := held t
    let rel (k : RxLine) : Nat := (k.packet.seq + 64 - t.seq0.toNat) % 64
    d.dirIn = false ∧ common s t (ans 5 false 63 []) = true ∧ acceptsB s 15 (ans 5 false 63 []) 5 = true ∧ rel (ans 5 false 63 []) = 3 ∧
      3 ≤ t.n ∧ 0 + 3 < d.packets ∧ common s t (ans 7 false 60 []) = true ∧ acceptsB s 15 (ans 7 false 60 []) 7 = true ∧
      rel (ans 7 false 60 []) = 0 ∧ common s t (ans 6 false 60 []) = true ∧ acceptsB s 15 (ans 6 false 60 []) 6 = true ∧
      common s t (ans 8 false 60 []) = true ∧ acceptsB s 15 (ans 8 false 60 []) 8 = true ∧ t.desc % 64 = 0 ∧ d.cop = false := by
  decide +kernel
/-- DATA on a waiting pipe, PROBE, READY that releases 3 packets sent, and a port status record. -/
theorem witness_PacketsAnswerTransactions_probes :
    let a := txn .inn true (descOf 0x9FFE7000 4)
    let b := txn .probe false (descOf 0x97FE7000 4)
    let h := { txn .hub true [] with desc := 64 }
    let s := held a
    let w := s.setPipe 15 126 true 15 { waiting := true }
    let r := attached { cur := some b, xfers := [(64, { btd := false, sent := 3 })] }
    let y := ans 10 false 63 []
    let e := ans 11 true 0 [1, 0, 0, 0, 0, 0, 0, 0]
    common w a (ans 4 true 0 []) = true ∧ acceptsB w 15 (ans 4 true 0 []) 4 = true ∧ (w.pipe 15 126 true 15).waiting = true ∧
      (ans 4 true 0 []).packet.bend = false ∧ common s a (ans 9 true 0 []) = true ∧ acceptsB s 15 (ans 9 true 0 []) 9 = true ∧
      Desc.dop a.words = false ∧ 0 < s.credit 15 a.words ∧ s.rd R.PTU_PSTAT_PREWARN 15 = 0 ∧
      (restsB r 15 = true ∧ (r.getPort 15).cur = some b ∧ b.meets y.packet = true ∧ acceptsB r 15 y 10 = true ∧
        r.xfer 15 64 = some { btd := false, sent := 3 } ∧ (y.packet.seq + 64 - b.seq0.toNat) % 64 ≤ 3 - 0 ∧ 0 + 3 < Desc.packets b.words ∧
        (r.getPort 15).cur0 = none ∧ r.cancelDue 15 64 = false ∧ (r.getWalk 15).owed = none ∧ (r.getWalk 15).sync = []) ∧
      common (held h) h e = true ∧ acceptsB (held h) 15 e 11 = true ∧ e.packet.seq = ((held h).pipe 15 126 true 15).seq.toNat ∧
      e.packet.bend = false ∧ bytesWords e.packet.payload = [1, 0] ∧
      (bits ((1 : Word) &&& ~~~(smGet ((held h).getPort 15).hubRec (0, 0) (126 * 16 + 1)).1) 12 8 = 0 ∧ (1 : Word).getLsbD 8 = false) := by
  decide +kernel
/-- Timeouts: an OUT burst, a class-0 token, an IN burst that ends without and with PREWARN, a waiting pipe. -/
theorem witness_TransactionTimeouts :
    let o := txn .out false (descOf 0x97FE7000 4)
    let i := { txn .inn true (descOf 0x9FFE7000 4) with answered := true }
    let z : Pair := { reply with desc := 64 }
    let p := attached { cur0 := some ⟨31, 126, 7, 15⟩, pairs := [(31, z)] }
    let w := attached (({} : Port).setPipe 126 false 15 { waiting := true })
    let v := (held i).wr R.PTU_PSTAT_PREWARN 1 15
    restsB (held o) 15 = true ∧ ((held o).getPort 15).cur = some o ∧ ((held o).pipe 15 126 false 15).waiting = false ∧
      (held o).rd R.EWZ_ADDRTAB0_TOCNT 15 126 + 1 < max 1 ((held o).rd R.EWZ_CTL_LOSTLIM 15) ∧
      (held o).rd R.EWZ_ADDRTAB0_TOCNT 15 126 < 15 ∧ (held o).cancelDue 15 64 = false ∧ o.addr ≠ 0 ∧
      restsB p 15 = true ∧ (p.getPort 15).cur0 = some ⟨31, 126, 7, 15⟩ ∧ smFind (p.getPort 15).pairs 31 = some z ∧
      p.rd R.EWZ_ADDRTAB0_TOCNT 15 126 + 1 < max 1 (p.rd R.EWZ_CTL_LOSTLIM 15) ∧ p.cancelDue 15 64 = false ∧
      Desc.cop z.words = false ∧ z.desc % 64 = 0 ∧ restsB (held i) 15 = true ∧ ((held i).getPort 15).cur = some i ∧ i.full = false ∧
      ((held i).pipe 15 126 true 15).waiting = false ∧ 0 < (held i).credit 15 i.words ∧ (held i).cancelDue 15 64 = false ∧
      (held i).rd R.PTU_PSTAT_PREWARN 15 = 0 ∧ (restsB v 15 = true ∧ (v.getPort 15).cur = some i ∧ 0 < v.credit 15 i.words ∧
        v.cancelDue 15 64 = false ∧ v.rd R.PTU_PSTAT_PREWARN 15 ≠ 0) ∧ restsB w 15 = true ∧
      (w.pipe 15 126 false 15).waiting = true ∧ (held o).getWalk 15 = {} ∧ p.getWalk 15 = {} := by decide +kernel

/-! ## Schedule -/

/-- Words of a descriptor at list address a. -/
def desc (s : State) (a : Nat) (ws : List Word) : State :=
  (ws.foldl (fun (n : Nat × State) w => (n.1 + 4, n.2.putRaw n.1 w)) (saList a, s)).2
def passesB (s : State) (p a : Nat) : Bool :=
  let d := s.peekDesc a
  let q := s.pipe p d.addr true d.ep
  decide (a % 64 = 0) && d.active && !s.instStopped d.inst && decide ((s.descCheck p d (List.replicate 16 false) false).1 = none) &&
    d.dirIn && !q.halted && !q.sync && !s.cqBars p d
/-- No command waits for an enumeration, and the firmware starts none. -/
def settledB (s : State) (p : Nat) : Bool :=
  decide ((∀ e ∈ s.cmds.cmd, e.2.wait ≠ .enum p) ∧ ((s.getPort p).enum ≠ none ∨ (s.getPort p).attach = [] ∨ s.rd R.CMD_STAT_FWRDY = 0))
/-- The last descriptor of list memory, class 1, IN, of one packet of 1,024 bytes. -/
theorem witness_WalkerAndGuard_token :
    let a := 0x6FFFC0
    let s := ((desc (attached { walk := { live := true, todo := [a] } }) a (descOf 0x9FFE7000 256)).wr R.SCH_CTL_EN 1 15).wr
      R.PTU_PFRM_FEN 1 15
    let d := s.peekDesc a
    let q := s.pipe 15 d.addr true d.ep
    s.lstate 15 = lL0 ∧ s.windowOpen 15 = true ∧ s.inFrame 15 = true ∧ s.laneFree 15 = true ∧ settledB s 15 = true ∧
      (s.getPort 15).psyncs = [] ∧ s.rd R.SCH_CTL_EN 15 = 1 ∧ (s.getWalk 15).cont = none ∧ (s.getWalk 15).todo = [a] ∧
      (s.getWalk 15).sync = [] ∧ passesB s 15 a = true ∧ d.cls = 1 ∧ a ∉ (s.getWalk 15).fin ∧ q.waiting = false ∧
      0 < s.credit 15 d ∧ s.xfer 15 a = none ∧
      0 + s.estimate 15 d.addr true (d.lens 0 (s.credit 15 d)) ≤ s.pwmax 15 ∧
      (s.fitBurst 15 d.addr true (d.lens 0 (s.credit 15 d)) (s.credit 15 d)).isSome = true := by decide +kernel
theorem witness_WalkerAndGuard_setup :
    let j : FwJob := ⟨.clear 0, false, 126, 7, false, 0, 2, 1, 2, false, false, []⟩
    let s := attached { fw := [j] }
    s.lstate 15 = lL0 ∧ s.inFrame 15 = false ∧ (s.getPort 15).fw = j :: [] ∧ s.laneFree 15 = true ∧ settledB s 15 = true ∧
      j.isClear = false ∧ j.setupDone = false ∧ s.genOk 15 j.addr j.gen = true := by decide +kernel
/-- A class-0 PTD of pair 31, with the bound and while it is suspended, and the EMIT of pair 31. -/
theorem witness_WalkerAndGuard_class0 :
    let a := 0x6FFFC0
    let ws : List Word := [0x80000000, 0x8FFE7F80, 256, 256, 0, 0, 0x80000009, 0, 0x07FE7100]
    let t (u : Bool) := ((desc (attached { unbound := u, walk := { live := true, c0 := [a] } }) a ws).wr R.SCH_CTL_EN 1 15).wr
      R.SCH_RFXCFG_MAXOPEN 1 15
    let s := t false
    let d := s.peekDesc a
    let e := attached { pairs := [(31, { reply with emit := some ⟨[1, 2]⟩ })], emitq := [31] }
    s.lstate 15 = lL0 ∧ (s.getWalk 15).guarded = false ∧ (s.getFrame 15).sof = none ∧ (s.getPort 15).cur0 = none ∧
      (s.getPort 15).emitq = [] ∧ (s.getPort 15).pairs.length < s.maxOpen 15 ∧ s.rd R.SCH_CTL_EN 15 = 1 ∧ (s.getWalk 15).c0 = [a] ∧
      passesB s 15 a = true ∧ d.cls = 0 ∧ d.pair = 31 ∧ d.pair ∉ (s.getWalk 15).issued ∧
      0 + (4 + pBlocks d.omax) * s.tblk 15 ≤ s.pwmax 15 ∧ s.adelay 15 d.addr + 24000 ≤ s.rd R.PTU_PNEXT_NEXT 15 * 8 ∧
      s.clkSusp = false ∧ s.swap = [] ∧ ((t true).getPort 15).unbound = true ∧ passesB (t true) 15 a = true ∧
      smFind (e.getPort 15).pairs 31 = some { reply with emit := some ⟨[1, 2]⟩ } ∧
      ((e.getPort 15).emitq.head? = some 31 ∧ (e.getFrame 15).sof = none) ∧ e.lstate 15 = lL0 ∧ e.cancelDue 15 0 = false ∧
      Desc.cop reply.words = false := by decide +kernel
/-- A frame that ends with no retrain pending, with one that software forces, and with one that fits. -/
theorem witness_WalkerAndGuard_guard :
    let s := attached { walk := { live := true, closed := true } }
    let r := s.wr R.EWZ_LSTAT_RTPEND 1 15
    let w := s.getWalk 15
    s.lstate 15 = lL0 ∧ ((s.getPort 15).cur = none ∧ (s.getPort 15).cur0 = none ∧ (s.getPort 15).held = [] ∧ (s.getPort 15).psyncs = [] ∧
        w.owed = none ∧ w.live = true ∧ w.closed = true ∧ w.guarded = false ∧ w.set = [] ∧ w.c0 = [] ∧ w.sync = []) ∧
      s.rd R.EWZ_LSTAT_RTPEND 15 = 0 ∧ r.rd R.EWZ_LSTAT_RTPEND 15 ≠ 0 ∧ r.getWalk 15 = w ∧
      (r.wr R.EWZ_CTL_FORCERT 1 15).rd R.EWZ_CTL_FORCERT 15 ≠ 0 ∧ (r.wr R.PTU_PNEXT_NEXT 8000 15).retrainFits 15 = true := by
  decide +kernel
theorem witness_descClean : (desc (attached {}) 0x6FFFC0 (descOf 0x9FFE7000 256)).descClean 0x6FFFC0 :=
  ⟨by decide, fun _ _ => clean_of _ _ rfl rfl⟩
theorem witness_ListSyncAndCancel :
    let s := dev.wr R.SCH_CTL_LISTSYNC 1 15
    let h := dev.setPort 15 { walk := { todo := [128], sync := [64, 128] } }
    let t := txn .inn true (descOf 0x9FFE7000 256)
    let a := desc dev 0x6FFFC0 (descOf 0x9FFE7000 256)
    (dev.gate 0 (R.SCH_CTL_LISTSYNC.off 15) true).1 = true ∧ s.rd R.SCH_CTL_LISTSYNC 15 = 1 ∧ (s.getPort 15).walk.sync = [] ∧
      s.cmds.cmd = [] ∧ 128 ∈ (h.getPort 15).walk.sync ∧ 128 ∈ h.heldAll 15 ∧ (dev.gate 0 (R.SCH_CANCEL_GO.off 15) true).1 = true ∧
      ((held t).gate 0 (R.SCH_CANCEL_GO.off 15) true).1 = true ∧ ((held t).getPort 15).cur = some t ∧ t.desc = 64 ∧
      (dev.getPort 15).cur = none ∧ (dev.getPort 15).cur0 = none ∧ (dev.getPort 15).pairs = [] ∧ dev.cmds.cmd = [] ∧
      (dev.peekDesc 0x6FFFC0).active = false ∧ (a.gate 0 (R.SCH_CANCEL_GO.off 15) true).1 = true ∧ (a.getPort 15).cur = none ∧
      (a.peekDesc 0x6FFFC0).active = true ∧ (a.peekDesc 0x6FFFC0).cop = false ∧ a.xfer 15 0x6FFFC0 = none ∧
      (dev.gate 0 (R.SCH_RFXMAX_MAXLAT.off 15) false).1 = true := by decide +kernel

/-! ## Work queues -/

/-- Context 2047 is queue 63 of instance 127, in STATE `st`, with a ring of 2 ^ `log` entries. -/
def queue (st log : Nat) (x : Wqc) : State :=
  ((((((dev.wr R.WQ_QCFG_VALID 1 2047).wr R.WQ_QCFG_INST 127 2047).wr R.WQ_QCFG_QNUM 63 2047).wr R.WQ_QSTATE_STATE st 2047).wr
    R.WQ_FCTL_LOG2N log 127 63).wr R.VIM_ISTATE_STATE 1 127).setWq 2047 x
theorem witness_QueueConfigurationAndStop :
    let o := queue 0 4 {}
    let e := queue 1 16 {}
    let s := queue 3 4 {}
    let w := (queue 3 4 {}).wr R.WQ_QIDX_TAIL 15 2047
    let j := queue 3 4 { jobs := [⟨0, 1, 0, .ready, 0⟩] }
    let d := queue 1 4 { jobs := [⟨0, 1, 0, .delivered, 9⟩, ⟨1, 1, 1, .ready, 0⟩] }
    let h := queue 1 4 { headWait := true }
    (dev.gate 0 (R.WQ_QCFG_VALID.off 2047) true).1 = true ∧ dev.wqState 2047 = 0 ∧ dev.wqCtx 127 63 = none ∧
      (e.gate 0 (R.WQ_QCFG_VALID.off 2047) true).1 = true ∧ e.wqState 2047 ≠ 0 ∧ o.wqCtx 127 63 = some 2047 ∧ o.ringN 2047 ≤ 16 ∧
      15 < o.ringN 2047 ∧ o.wqf R.WQ_FCTL_PMODE 2047 = 0 ∧ o.wqState 2047 = 0 ∧ e.wqCtx 127 63 = some 2047 ∧ 65535 < e.ringN 2047 ∧
      16 = e.wqf R.WQ_FCTL_LOG2N 2047 ∧ 0 = e.wqf R.WQ_FCTL_PMODE 2047 ∧ e.wqState 2047 = 1 ∧ (e.getWq 2047).jobs = [] ∧
      (e.getWq 2047).reads = [] ∧ (e.getFunc 127).mute = false ∧ s.wqState 2047 = 3 ∧ (s.getWq 2047).jobs = [] ∧
      (s.getWq 2047).reads = [] ∧ (s.getWq 2047).clear = false ∧ s.rd R.WQ_QIDX_HEAD 2047 = s.rd R.WQ_QIDX_TAIL 2047 ∧
      s.rd R.WQ_QSTATE_FETCH 2047 = s.rd R.WQ_QIDX_HEAD 2047 ∧ s.rd R.WQ_QIDX_HEAD 2047 < s.ringN 2047 ∧ j.wqState 2047 = 3 ∧
      (j.getWq 2047).jobs ≠ [] ∧ (h.getWq 2047).headWait = true ∧ h.wqWrites 2047 = true ∧ (e.getWq 2047).headWait = false ∧
      (w.wqState 2047 = 3 ∧ (w.getWq 2047).jobs = [] ∧ (w.getWq 2047).reads = [] ∧ w.wqf R.WQ_FCTL_LOG2N 2047 ≤ 16) ∧
      (d.wqCtx 127 63 = some 2047 ∧ d.wqState 2047 ≠ 0 ∧ d.wqState 2047 ≠ 3 ∧ 4 = d.wqf R.WQ_FCTL_LOG2N 2047 ∧
        ∃ x ∈ (d.getWq 2047).jobs, x.st = .delivered ∧ ∀ i ∈ (d.getWq 2047).jobs, i.st ≠ .delivered → i.first ≠ x.first) ∧
      (h.setFunc 127 { mute := true }).wqWrites 2047 = false := by decide +kernel
/-- A ring read of the last entry of a ring of 16: a discarded one, one of which no word is valid, and a whole small entry; a cached
queue; a job that its cairn takes, and one that waits behind an earlier source. -/
theorem witness_QueueFetchStageAndOffer :
    let f := ((queue 1 4 {}).wr R.WQ_CTL_EN 1).wr R.WQ_QIDX_TAIL 15 2047
    let g := f.wr R.WQ_FCTL_PMODE 1 127 63
    let r : RingRead := { first := 14, n := 1, tag := 1023, drop := false }
    let rd (r : RingRead) : State := { (queue 1 4 { reads := [r] }).wr R.WQ_QSTATE_FETCH 15 2047 with
      hostReads := [(3 * 1024 + 1023, { who := .wq 2047, fn := 127, flr := false })] }
    let q := rd r
    let p := (queue 1 4 { stopped := true }).wr R.WQ_QARB_REPOLL 1 2047 |>.setTime (BitVec.ofNat 80 (1000 * 2 ^ 16))
    let j : WJob := ⟨14, 1, 15, .ready, 0⟩
    let o := ((cairn (queue 1 4 { jobs := [j] }) 9 [0x50800000, 0, 1, 0, 0x10000000]).wr R.WQ_QTGT_CAIRN 9 2047).wr R.WQ_QTGT_SLOT 7 2047
    let w := ((((o.wr R.TSC_MKROUTE_CAIRN 9 31).wr R.TSC_MKROUTE_SLOT 7 31).wr R.TSC_MKROUTE_EN 1 31).wr R.PTU_MKSTAT_PEND 1 31).setMarker 31 { nf := 1 }
    (∀ s ∈ [f, g], s.rd R.WQ_CTL_EN = 1 ∧ s.readsAt 3 < 256 ∧ 2047 ∈ s.portCtxs 3 ∧ s.fetchable 2047 = true ∧
        (∀ k ∈ s.portCtxs 3, (s.wqf R.WQ_FCTL_PMODE k = 0 ∨ (s.getWq k).lines = []) ∧ (k ≠ 2047 → s.fetchable k = false)) ∧
        s.wqf R.WQ_FCTL_LOG2N 2047 ≤ 16) ∧ g.wqf R.WQ_FCTL_PMODE 2047 = 1 ∧
      q.wqf R.WQ_FCTL_PMODE 2047 = 0 ∧ q.wqInst 2047 / 32 = 3 ∧
      smFind q.hostReads (3 * 1024 + r.tag) = some { who := .wq 2047, fn := 127, flr := false } ∧ (q.getWq 2047).reads = [r] ∧ r.got = none ∧
      ((rd { r with drop := true }).getWq 2047).reads = [{ r with drop := true }] ∧ r.first < q.rd R.WQ_QSTATE_FETCH 2047 ∧
      (0 : Word).getLsbD 31 ≠ (q.rd R.WQ_QSTATE_PHASE 2047 == 1) ∧
      (0xE000007F : Word).getLsbD 31 = (q.rd R.WQ_QSTATE_PHASE 2047 == 1) ∧ bits 0xE000007F 30 29 = 3 ∧ bits 0xE000007F 28 7 = 0 ∧
      bits 0xE000007F 6 0 = q.wqInst 2047 ∧ (q.getWq 2047).openJob = none ∧ (p.getWq 2047).stopped = true ∧
      0 < p.rd R.WQ_QARB_REPOLL 2047 ∧ (p.getWq 2047).stopAt + 1000 * p.rd R.WQ_QARB_REPOLL 2047 ≤ p.ns.toNat ∧
      o.wqState 2047 = 1 ∧ (o.getWq 2047).jobs = [j] ∧ o.jobTarget 2047 j = (9, 7) ∧ o.cst 9 = 5 ∧ o.cCnt 9 7 < o.cDepth 9 7 ∧
      o.outranked (.queue 2047) 9 7 = false ∧ w.outranked (.queue 2047) 9 7 = true ∧ w.drops 9 7 = false ∧ w.wqState 2047 = 1 ∧
      w.jobTarget 2047 j = (9, 7) ∧ w.cst 9 = 5 ∧ w.cCnt 9 7 < w.cDepth 9 7 ∧ (w.getWq 2047).jobs = [j] := by decide +kernel

/-! ## Instances and host ports -/

/-- Instance 127, a VF, and instance 96, a PF, in each STATE; their queues are off and their ranges empty. -/
theorem witness_InstancesResetAndQuiet :
    let i (st : Nat) : State := dev.wr R.VIM_ISTATE_STATE st 127
    let l := (i 1).wr R.VIM_ISTATE_LEGACY 1 127
    let r := (i 2).wr R.VIM_ISTATE_SELFRST 1 127
    let g := (i 0).setFunc 127 { vfGone := true }
    let m := (i 4).setFunc 127 { removing := true }
    let o := ((dev.wr R.VIM_ICAIRN_BASE 5 126).wr R.VIM_ICAIRN_LIMIT 9 126)
    (i 0).inst 127 = 0 ∧ (i 1).inst 127 = 1 ∧ 127 % 32 ≠ 0 ∧ 127 ≠ (i 1).mgr ∧ dev.inst dev.mgr ≠ 0 ∧ dev.inst 96 ≠ 0 ∧ ¬(96 % 32 ≠ 0) ∧
      (i 3).inst 127 = 3 ∧ ((i 0).getFunc 127).vfGone = false ∧ (i 3).inst 127 ≠ 0 ∧ l.legacy 127 = true ∧ l.inst 127 = 1 ∧
      ((i 3).wr R.VIM_ISTATE_LEGACY 1 127).legacy 127 = true ∧ ((i 3).wr R.VIM_ISTATE_LEGACY 1 127).inst 127 ≠ 1 ∧ dev.legacy 127 = false ∧
      (i 2).quiet 127 = true ∧ (i 2).inst 127 = 2 ∧ (i 2).cmds.cmd = [] ∧
      ¬(((i 2).rd R.VIM_ISTATE_FLR 127 = 1 ∧ (i 2).rd R.VIM_ISTATE_AUTORST 127 = 1) ∨ (i 2).rd R.VIM_ISTATE_SELFRST 127 = 1) ∧
      (r.quiet 127 = true ∧ r.inst 127 = 2 ∧ r.rd R.VIM_ISTATE_SELFRST 127 = 1) ∧
      (g.quiet 127 = true ∧ g.inst 127 = 0 ∧ (g.getFunc 127).vfGone = true) ∧
      ((i 4).inst 127 = 4 ∧ ((i 4).getFunc 127).removing = false) ∧ (m.inst 127 = 4 ∧ (m.getFunc 127).removing = true) ∧
      (dev.gate 0 (R.VIM_ICAIRN_BASE.off 127) true).1 = true ∧ (dev.gate 0 (R.VIM_IFLOW_BASE.off 127) true).1 = true ∧
      (dev.gate 0 (R.VIM_IPOOL_BASE.off 127) true).1 = true ∧
      (bits 0x00090009 15 0 ≤ bits 0x00090009 31 16 ∧ o.rd R.VIM_ICAIRN_BASE 126 ≤ o.rd R.VIM_ICAIRN_LIMIT 126 ∧
        o.rd R.VIM_ICAIRN_BASE 126 ≤ bits 0x00090009 31 16 ∧ bits 0x00090009 15 0 ≤ o.rd R.VIM_ICAIRN_LIMIT 126) ∧
      ¬(bits 0x00000001 15 0 ≤ bits 0x00000001 31 16) ∧
      (dev.gate 0 (R.VIM_ISTATE_LEGACY.off 127) true).1 = true := by decide +kernel
theorem witness_InstancesResetAndQuiet_queues :
    let s := dev.wr R.VIM_ISTATE_STATE 4 127
    (∀ c ∈ s.wqOf 127, s.wqState c = 0) ∧ (((cairn dev 9 [0x50000000]).wr R.VIM_ICAIRN_BASE 9 127).wr R.VIM_ICAIRN_LIMIT 9 127).quiet 127 = false := by decide +kernel
/-- A queue of instance 127 whose read is under way, one whose read was issued before an FLR, and a command that reads. -/
theorem witness_HostPortsAndReads :
    let q (f : Bool) : HostRead := { who := .wq 2047, fn := 127, flr := f }
    let s (f : Bool) : State := { queue 1 4 {} with hostReads := [(3 * 1024 + 1023, q f)] }
    let m : Cmd := { ctx := 127, idx := 65535, words := [], wait := .hostRead, tag := 1023 }
    let c : State := { dev with hostReads := [(3 * 1024 + 1023, { who := .cmd 4, fn := 127, flr := false })], cmds := { cmd := [(4, m)] } }
    (dev.wr R.VIM_ISTATE_STATE 0 96).inst (32 * 3) = 0 ∧ dev.inst 96 ≠ 0 ∧ 96 ≠ dev.mgr ∧ (dev.inst 0 ≠ 0 ∧ 32 * 0 = dev.mgr) ∧
      (dev.gate 0 (R.HPC_PCTL_RETRAIN.off 3) true).1 = true ∧
      smFind dev.hostReads (3 * 1024 + 1023) = none ∧ smFind (s false).hostReads (3 * 1024 + 1023) = some (q false) ∧
      (s false).wqState 2047 = 1 ∧ (q false).flr = false ∧ smFind (s true).hostReads (3 * 1024 + 1023) = some (q true) ∧
      (s true).wqState 2047 = 1 ∧ (q true).flr = true ∧
      smFind c.hostReads (3 * 1024 + 1023) = some { who := .cmd 4, fn := 127, flr := false } ∧ c.getCmd 4 = some m ∧
      m.wait = .hostRead ∧ m.tag = 1023 := by decide +kernel

/-! ## DMA -/

/-- DMA channel 15 in STATE `st`, holding `x`. -/
def chan (st : Nat) (x : Chan) : State := { (dev.wr R.DMA_CSTAT_STATE st 15).wr R.DMA_CTL_EN 1 with dma := { chan := [(15, x)] } }
theorem witness_DmaChannelControl :
    let d : Chan := { desc := some [], was := 1 }
    let h := (chan 4 d).wr R.DMA_STAT_HALT 1
    let k := ((chan 4 { d with met := true }).wr R.DMA_STAT_HALT 1).wr R.DMA_CCTL_SKIP 1 15
    let p := ((chan 2 {}).wr R.DMA_CCFG_POLL 1 15).setTime (BitVec.ofNat 80 (100 * 2 ^ 16))
    (chan 0 {}).ownsChan 0 15 = true ∧ ((chan 0 {}).gate 0 (R.DMA_CCTL_START.off 15) true).1 = true ∧
      (chan 0 {}).rd R.DMA_STAT_HALT = 0 ∧ (chan 0 {}).chanState 15 = 0 ∧ h.ownsChan 0 15 = true ∧
      (h.gate 0 (R.DMA_CCTL_START.off 15) true).1 = true ∧ h.rd R.DMA_STAT_HALT = 1 ∧ (chan 2 {}).chanState 15 = 2 ∧
      ((chan 2 {}).gate 0 (R.DMA_CCTL_KICK.off 15) true).1 = true ∧ ((chan 2 {}).gate 0 (R.DMA_CCTL_STOP.off 15) true).1 = true ∧
      (chan 1 d).chanState 15 = 1 ∧ ((chan 1 d).getChan 15).desc ≠ none ∧ ((chan 1 {}).getChan 15).desc = none ∧
      ((chan 1 d).gate 0 (R.DMA_CCTL_ABORT.off 15) true).1 = true ∧ p.dmaGo = true ∧ p.chanState 15 = 2 ∧
      0 < p.rd R.DMA_CCFG_POLL 15 ∧ (p.getChan 15).idleAt + 100 * p.rd R.DMA_CCFG_POLL 15 ≤ p.ns.toNat ∧
      ((chan 2 {}).wr R.DMA_CTL_EN 0).dmaGo = false ∧ (dev.gate 0 R.DMA_CTL_EN.off true).1 = true ∧ h.mgr = 0 ∧ h.chanState 15 = 4 ∧
      (h.getChan 15).stop = false ∧ (h.getChan 15).met = false ∧ k.chanState 15 = 4 ∧ (k.getChan 15).met = true ∧
      k.rd R.DMA_CCTL_SKIP 15 = 1 ∧ (k.getChan 15).desc ≠ none ∧
      (((chan 4 { d with met := true }).wr R.DMA_STAT_HALT 1).rd R.DMA_CCTL_SKIP 15) = 0 := by decide +kernel
/-- A descriptor that copies 64 bytes of list memory to DRAM. -/
def copy (w0 w6 : Word) : List Word := [w0, 64, 0x20000100, 0x10, 0xFFFFFFC0, 0, w6, 0x12345678]
/-- Channel 0 has 4 GiB of DRAM; DMA channel 15 keeps its ring at address 0. -/
def dram (s : State) : State := s.wr R.MEM_DDRSIZE_SIZE 4 0
def ring (s : State) (ws : List Word) : State := (ws.foldl (fun (n : Nat × State) w => (n.1 + 4, n.2.putRaw n.1 w)) (saDdr 0 0, s)).2
def storedB (s : State) (a : Nat) (d : List Word) : Bool :=
  decide (s.dmaFailure a 32 = none) && !meets a 32 0x1020700000 0x1020800000 && decide (d.length = 8) &&
    (List.range 8).all (fun k => match s.globalSa (a + 4 * k) with | some b => s.rawWord b == d.getD k 0 | none => false)
/-- A descriptor with OWN = 0, one that is malformed (PTGT = 3), and one that is good. -/
theorem witness_DmaDescriptorsAndBeats_read :
    let s (w0 : Word) : State := ring (dram (chan 1 {})) (copy w0 0)
    let l : State := chan 1 {}
    (s 0).dmaGo = true ∧ (s 0).chanState 15 = 1 ∧ ((s 0).getChan 15).desc = none ∧ (s 0).instStopped ((s 0).chanOwner 15) = false ∧
      storedB (s 0) ((s 0).chanDescAddr 15) (copy 0 0) = true ∧
      storedB (s 0x98000000) ((s 0x98000000).chanDescAddr 15) (copy 0x98000000 0) = true ∧ bits 0x98000000 31 31 ≠ 0 ∧
      DmaDesc.malformed (copy 0x98000000 0) = true ∧
      storedB (s 0x80000000) ((s 0x80000000).chanDescAddr 15) (copy 0x80000000 0) = true ∧
      DmaDesc.malformed (copy 0x80000000 0) = false ∧ (s 0x80000000).dmaSpoof 15 (copy 0x80000000 0) = none ∧
      (l.dmaGo = true ∧ l.chanState 15 = 1 ∧ (l.getChan 15).desc = none ∧ l.instStopped (l.chanOwner 15) = false ∧
        (l.dmaFailure (l.chanDescAddr 15) 32).isSome = true) := by decide +kernel
/-- A descriptor that names a cairn which its channel's owner does not own. -/
theorem witness_DmaDescriptorsAndBeats_spoof :
    let d := copy 0x88000000 9
    let s := (((ring (dram (chan 1 {})) d).wr R.VIM_IDMA_CHAN 0x8000 127).wr R.VIM_ISTATE_STATE 1 127)
    s.dmaGo = true ∧ s.chanState 15 = 1 ∧ (s.getChan 15).desc = none ∧ s.instStopped (s.chanOwner 15) = false ∧
      storedB s (s.chanDescAddr 15) d = true ∧ bits 0x88000000 31 31 ≠ 0 ∧ DmaDesc.malformed d = false ∧
      s.dmaSpoof 15 d ≠ none := by decide +kernel
/-- The read beat and the write beat of the copy; the last bytes it writes end at 4 GiB. -/
theorem witness_DmaDescriptorsAndBeats_beats :
    let d := copy 0x80000000 0
    let r := dram (chan 1 { desc := some d })
    let w := dram (chan 1 { desc := some d, rdN := 64, buf := List.replicate 64 (7, false) })
    let a := nextRead (r.mrrs (r.chanOwner 15)) d (r.getChan 15)
    r.dmaGo = true ∧ (r.getChan 15).desc = some d ∧ r.pickChan r.dma.rTurn ((List.range 16).filter r.mayRead) = some 15 ∧
      (∀ k, k < 16 → r.mayWrite k = false) ∧ DmaDesc.shost d = false ∧ r.dmaFailure a.1 a.2 = none ∧
      meets a.1 a.2 0x1020700000 0x1020800000 = false ∧
      w.pickChan w.dma.wTurn ((List.range 16).filter w.mayWrite) = some 15 ∧ (∀ k, k < 16 → w.mayRead k = false) ∧
      (w.getChan 15).rdN = DmaDesc.len d ∧ DmaDesc.dhost d = false ∧ DmaDesc.dfix d = false ∧ DmaDesc.swap d = 0 ∧
      DmaDesc.dst d % 64 = 0 ∧ (w.getChan 15).wrN % 64 = 0 ∧ (w.getChan 15).wrN + 64 ≤ DmaDesc.len d ∧
      DmaDesc.dst d + (w.getChan 15).wrN + 64 ≤ 0x1000000000 ∧
      (∀ b, b < 64 → w.globalSa (DmaDesc.dst d + (w.getChan 15).wrN + b) = some (saDdr 0 0xFFFFFFC0 + b)) ∧
      ∀ k, k < 64 → ((w.getChan 15).buf.getD k (0, false)).2 = false := by decide +kernel
/-- A completion without a pulse, with one to a channel that runs and to one that does not, with one to a cairn, and with one that
waits behind a marker; a descriptor that is skipped. -/
theorem witness_DmaDescriptorsAndBeats_done :
    let f (w0 : Word) (st : Nat) : State := dram (chan st { desc := some (copy w0 9), rdN := 64, wrN := 64 })
    let back (s : State) : Bool := decide (s.dmaGo = true ∧ s.chanDescAddr 15 + 32 ≤ 0x1000000000 ∧
      s.globalSa (s.chanDescAddr 15) = some (saDdr 0 0) ∧ s.dmaFailure (s.chanDescAddr 15) 4 = none)
    let c := f 0x80000000 1
    let k := dram (chan 1 { desc := some (copy 0x80000000 9), skip := true })
    let n := (f 0x90000000 3)
    let p := cairn (f 0x8F000000 3) 9 [0x50800000, 0, 1, 0, 0x10000000]
    let w := ((((p.wr R.TSC_MKROUTE_CAIRN 9 31).wr R.TSC_MKROUTE_SLOT 7 31).wr R.TSC_MKROUTE_EN 1 31).wr R.PTU_MKSTAT_PEND 1 31).setMarker 31 { nf := 1 }
    (c.getChan 15).desc = some (copy 0x80000000 9) ∧ c.chanState 15 = 1 ∧ (c.getChan 15).wrN = DmaDesc.len (copy 0x80000000 9) ∧
      back c = true ∧ DmaDesc.ptgt (copy 0x80000000 9) = 0 ∧ ((k.getChan 15).skip = true ∧ back k = true ∧ k.chanState 15 = 1) ∧
      (n.chanState 15 = 3 ∧ DmaDesc.ptgt (copy 0x90000000 9) = 2 ∧ DmaDesc.pchan (copy 0x90000000 9) ≠ 15 ∧ n.chanState 0 ≠ 1 ∧
        n.chanState 0 ≠ 2 ∧ (n.wr R.DMA_CSTAT_STATE 2 0).chanState 0 = 2 ∧ back n = true) ∧
      (p.chanState 15 = 3 ∧ back p = true ∧ DmaDesc.ptgt (copy 0x8F000000 9) = 1 ∧ DmaDesc.pcairn (copy 0x8F000000 9) = 9 ∧
        DmaDesc.pslot (copy 0x8F000000 9) = 7 ∧ p.outranked (.channel 15) 9 7 = false ∧ p.cst 9 = 5 ∧ p.cCnt 9 7 < p.cDepth 9 7) ∧
      (w.outranked (.channel 15) 9 7 = true ∧ w.drops 9 7 = false ∧ back w = true ∧ w.chanState 15 = 3) := by decide +kernel

/-! ## Event controller -/

/-- The device with the event controller on, at 1 µs. -/
def evts (e : Evc) (p : List Nat) : State :=
  let s := (dev.wr R.EVC_CTL_EN 1).setTime (BitVec.ofNat 80 (1000000 * 2 ^ 16))
  let s : State := { s with pba := p }
  { s with evc := { e with active := s.standing } }
theorem witness_EventsAndFaultRecords :
    let c := evts { vec := [(8191, { st := .collecting, cnt := 1, since := 0 }), (8255, { st := .fired })] } []
    let c := c.wr R.EVC_CVCFG_RPT 1 63
    let u := evts {} [8191]
    let h : HeldRep := ⟨0x1000, 2, 255⟩
    let f : State := { dev with evc := { held := [(65535, h)] } }
    let o : State := { dev.setTime (BitVec.ofNat 80 (1000000 * 2 ^ 16)) with evc := { recs := [(255, { valid := true, isOpen := true })] } }
    let r : FRec := { valid := true, isOpen := true, domain := h.domain, cause := h.cause }
    let j : State := { dev with evc := { held := [(65535, h)], recs := [(255, r)] } }
    (j.rd R.EVC_FCFG_FEN = 1 ∧ j.evc.held = [(65535, h)] ∧ (∀ u ∈ j.openRecs, j.ns.toNat < (smGet j.evc.recs {} u).first.toNat + j.mergeWin) ∧
        j.evc.recs.find? (fun e => e.2.isOpen && e.2.domain == h.domain && e.2.cause == h.cause) = some (255, r)) ∧
      (dev.gate 0 R.EVC_CTL_EN.off true).1 = true ∧ dev.mgr = 0 ∧ bits 0xC0001FFF 31 30 ≠ 2 ∧ dev.rd R.EVC_ROUTE_TYPE 1279 ≠ 2 ∧
      bits 0x80000000 31 30 = 2 ∧ c.rd R.EVC_CTL_EN = 1 ∧ c.evc.active = c.standing ∧ vecNum (.fn 127 63) = 8191 ∧
      (c.getVec 8191).st = .collecting ∧ (c.getVec 8191).since + c.ctime 8191 ≤ c.ns.toNat ∧ vecNum (.core 63) = 8255 ∧
      (c.getVec 8255).st = .fired ∧ c.rpt 8255 ≠ 0 ∧ (c.getVec 8255).since + c.rpt 8255 ≤ c.ns.toNat ∧ u.rd R.EVC_CTL_EN = 1 ∧
      u.evc.active = u.standing ∧ u.pba = [127 * 64 + 63] ∧ (u.getFunc 127).d3hot = false ∧ f.rd R.EVC_FCFG_FEN = 1 ∧
      f.evc.held = [(65535, h)] ∧ f.openRecs = [] ∧ (f.rd R.EVC_FHEAD_HEAD + 1) % 256 ≠ f.rd R.EVC_FTAIL_TAIL ∧
      (smGet o.evc.recs {} 255).isOpen = true ∧ (smGet o.evc.recs {} 255).first.toNat + o.mergeWin ≤ o.ns.toNat ∧
      (smGet dev.evc.recs {} 255).isOpen = false ∧ (dev.gate 0 (0x32000 + 255 * 32) false).1 = true := by decide +kernel

/-- A fault record keeps the pending bit of a vector while nothing is delivered. -/
theorem witness_EventsAndFaultRecords_held :
    let s := ((((dev.wr R.EVC_FSTAT_NEWREC 1).wr R.EVC_GEN_EN (2 ^ 22) 39).wr R.EVC_ROUTE_TYPE 1 1270).wr R.EVC_ROUTE_INST 127 1270).wr
      R.EVC_ROUTE_VEC 63 1270
    let s : State := { s with pba := [8191] }
    s.rd R.EVC_CTL_EN = 0 ∧ s.evc.vec = [] ∧ s.pba = [127 * 64 + 63] ∧ ∃ u ∈ s.standing, u % 16384 = 127 * 64 + 63 := by decide +kernel

/-! ## Commands -/

/-- A command of context 127, whose parameters from word 3 on are `ws`. -/
def cmdOf (op : Nat) (ws : List Word) : Cmd := { ctx := 127, idx := 65535, words := [w32 op, 0, 127] ++ ws, wait := .toAct }
/-- Core 3 has taken command `c`. -/
def given (s : State) (c : Cmd) : State := { s with cmds := { s.cmds with cmd := [(3, c)] } }
def givenB (s : State) (op : Nat) (c : Cmd) : Bool :=
  decide (s.phase = .running) && decide (s.getCmd 3 = some c) && decide (c.op = op ∧ c.wait = .toAct ∧ c.ctx < 128) && smSorted s.cmds.cmd
theorem given_of {s : State} {op : Nat} {c : Cmd} (h : givenB s op c = true) : s.commanded 3 op c := by
  unfold givenB at h
  unfold State.commanded
  simpa [and_assoc] using h
/-- Context 127, whose queue has the words `ws` staged in slot 15. -/
def staged (ws : List Word) : State :=
  let s : State := { (dev.wr R.CMD_STAT_FWRDY 1).setWq 127 { jobs := [⟨65535, 1, 15, .ready, 0⟩] } with cmds := { order := [127] } }
  (ws.foldl (fun (n : Nat × State) w => (n.1 + 4, n.2.putRaw n.1 w)) (slotSa 127 15, s)).2
def takenB (s : State) : Bool :=
  decide (s.phase = .running ∧ s.rd R.CMD_STAT_FWRDY = 1 ∧ s.rd R.CMD_CTL_HOLD = 0 ∧ s.getCmd 3 = none ∧
    s.rd R.HLT_CSLOT_STATE 3 = 0 ∧ s.nextCtx = some 127 ∧
    (s.getWq 127).jobs.find? (fun j => j.st == .ready) = some ⟨65535, 1, 15, .ready, 0⟩)
/-- The command that core 3 takes. -/
def taken (s : State) : Cmd := { ctx := 127, idx := 65535, words := (List.range 16).map (fun w => s.rawWord (slotSa 127 15 + 4 * w)), wait := .toAct }
/-- No opcode; a bit that no field uses; W3 out of range; a manager's command; another instance; a cairn of another instance; and a command
that passes. -/
theorem witness_CommandsTakenAndAnswered_take :
    let u := staged [0xFFFF]
    let r := staged [0x0103, 0, 127, 1]
    let o := staged [0x0101, 0, 127, 1]
    let d := staged [0x0205, 0, 127, 1]
    let f := staged [0x0103, 0, 126]
    let w := staged [0x0501, 0, 127, 9]
    let g := staged [0x0103, 0, 127]
    let all : List Word := [0xFFFFFFFF, 0xFFFFFFFF, 0xFFFFFFFF]
    takenB u = true ∧ opRow (taken u) = none ∧ takenB r = true ∧ opRow (taken r) = some (true, []) ∧ cmdReserved (taken r) [] = some 3 ∧
      r.cmdRange (taken r) = none ∧ takenB o = true ∧ opRow (taken o) = some (true, all) ∧
      cmdReserved (taken o) all = none ∧ o.cmdRange (taken o) = some 3 ∧ takenB d = true ∧
      opRow (taken d) = some (false, [0x7F]) ∧ cmdReserved (taken d) [0x7F] = none ∧ d.cmdRange (taken d) = none ∧ 127 ≠ d.mgr ∧
      takenB f = true ∧ opRow (taken f) = some (true, []) ∧ cmdReserved (taken f) [] = none ∧ f.cmdRange (taken f) = none ∧
      (taken f).f 2 6 0 ≠ 127 ∧ takenB g = true ∧ opRow (taken g) = some (true, []) ∧ cmdReserved (taken g) [] = none ∧
      g.cmdRange (taken g) = none ∧ (taken g).f 2 6 0 = 127 ∧ (∀ n ∈ g.cmdNames 127 (taken g), n.2 = true) ∧
      (takenB w = true ∧ opRow (taken w) = some (true, [0xFFFF]) ∧ cmdReserved (taken w) [0xFFFF] = none ∧ w.cmdRange (taken w) = none ∧
        (taken w).f 2 6 0 = 127 ∧ ∃ n ∈ w.cmdNames 127 (taken w), n.2 = false) ∧
      dev.rd R.CMD_STAT_FWRDY = 0 := by decide +kernel
theorem witness_CommandsTakenAndAnswered_clean (ws : List Word) (a : Nat) (h : (staged ws).upset = [] ∧ (staged ws).poison = []) :
    (staged ws).clean a := clean_of _ _ h.1 h.2
/-- A command that waits for an instance, for an enumeration that has ended, and for one whose port has not reached L0. -/
theorem witness_CommandsTakenAndAnswered_waits :
    let q : Cmd := { cmdOf 0x0201 [5, 100] with wait := .quiesce 5 }
    let e : Cmd := { cmdOf 0x0301 [15, 100] with wait := .enum 15 }
    let j : EnumJob := { core := some 3, hub := 0, hport := 0, step := 1, status := false, adelay := 0, resetAt := 0, own := none, key := [],
                         addr := 0, gen := 0, scan := [], found := none }
    let w := given (dev.setPort 15 { enum := some j }) e
    (given dev q).getCmd 3 = some q ∧ q.ctx < 128 ∧ (given dev e).getCmd 3 = some e ∧ ((given dev e).getPort 15).enum = none ∧
      (w.getCmd 3 = some e ∧ (w.getPort 15).enum = some j ∧ j.core = some 3 ∧ j.step = 1) ∧ dev.getCmd 3 = none := by decide +kernel
/-- Every command that reports what stands, each with its largest operand. -/
theorem witness_CommandsTakenAndAnswered_tells :
    let l := [(0x0102, []), (0x0103, []), (0x0205, [127]), (0x0306, [126 * 16 + 15]), (0x0405, [15]), (0x0506, [1023]),
      (0x0507, [4095]), (0x0601, []), (0x0602, [15]), (0x0803, []), (0x0903, []), (0x0101, [0, 0, 65536]), (0x0104, [0, 0, 0]),
      (0x0A01, [0, 0, 65536]), (0x0A02, [0x20700000 - 4, 0x10])]
    (∀ e ∈ l, givenB (given dev (cmdOf e.1 e.2)) e.1 (cmdOf e.1 e.2) = true) ∧
      (attached {}).rd R.EWZ_ADDRTAB0_VALID 15 126 = 1 ∧ givenB (given (attached {}) (cmdOf 0x0306 [126 * 16 + 15])) 0x0306 (cmdOf 0x0306 [126 * 16 + 15]) = true ∧ dev.rd R.EWZ_ADDRTAB0_VALID 15 126 = 0 ∧
      (cmdOf 0x0A02 [0x20700000 - 4, 0x10]).haddr = 0x1020700000 - 4 ∧ dev.globalSa (0x1020700000 - 4) = some (0x1020700000 - 4) ∧
      dev.globalSa 0xFFFFFFFFFF = none := by
  decide +kernel
theorem witness_CommandsTakenAndAnswered_summary :
    let s1 : State := { dev with cmds := { dev.cmds with cmd := [(3, cmdOf 0x0101 [0, 0, 65536])], seq := smIns dev.cmds.seq 127 1 } }
    (0 : Nat) < 4 * (s1.sumReport 127 1).length ∧ 4 * (s1.sumReport 127 1).length ≤ 65536 := by decide +kernel
theorem witness_CommandsOnInstancesPortsAndLists_instances :
    let c (op : Nat) := cmdOf op [126, 0]
    let w := cmdOf 0x0201 [126, 1]
    let i (st op : Nat) : State := given (dev.wr R.VIM_ISTATE_STATE st 126) (c op)
    (i 3 0x0201).inst 126 = 3 ∧ givenB (i 3 0x0201) 0x0201 (c 0x0201) = true ∧ (i 4 0x0201).inst 126 = 4 ∧
      givenB (i 4 0x0201) 0x0201 (c 0x0201) = true ∧ (i 1 0x0201).inst 126 = 1 ∧ (c 0x0201).ctx ≠ 126 ∧ (c 0x0201).w 4 = 0 ∧
      givenB (i 1 0x0201) 0x0201 (c 0x0201) = true ∧ (w.w 4 ≠ 0 ∧ givenB (given (dev.wr R.VIM_ISTATE_STATE 2 126) w) 0x0201 w = true) ∧
      (i 2 0x0201).inst 126 = 2 ∧ givenB (i 2 0x0201) 0x0201 (c 0x0201) = true ∧ (i 3 0x0202).inst 126 = 3 ∧
      (∀ n ∈ (i 3 0x0202).wqOf 126, (i 3 0x0202).wqf R.WQ_FCTL_PMODE n ≠ 1) ∧ givenB (i 3 0x0202) 0x0202 (c 0x0202) = true ∧
      (i 3 0x0202).legacy 126 = false ∧
      (i 1 0x0202).inst 126 ≠ 3 ∧ givenB (i 1 0x0202) 0x0202 (c 0x0202) = true ∧ givenB (i 1 0x0203) 0x0203 (c 0x0203) = true ∧
      givenB (i 1 0x0204) 0x0204 (c 0x0204) = true ∧ givenB (i 3 0x0203) 0x0203 (c 0x0203) = true ∧
      givenB (i 3 0x0204) 0x0204 (c 0x0204) = true := by decide +kernel
/-- No transfer, pair, transaction or cancel is under way on root port p. -/
def idleB (s : State) (p : Nat) : Bool :=
  decide ((s.getPort p).xfers = [] ∧ (s.getPort p).pairs = [] ∧ (s.getPort p).cur = none ∧ (s.getPort p).cur0 = none ∧
    s.rd R.SCH_CANCEL_GO p = 0)
/-- The root port Disabled, Disconnected and in L0; a hub port of a hub of four, a hub that is not there. -/
theorem witness_CommandsOnInstancesPortsAndLists_enable :
    let e := cmdOf 0x0301 [15, 100]
    let d := cmdOf 0x0302 [15]
    let hub (op : Nat) := cmdOf op [4 * 2048 + 126 * 16 + 15, 100]
    let st (n op : Nat) (c : Cmd) : Bool := let s := given (dev.wr R.EWZ_LSTAT_STATE n 15) c
      restsB s 15 && idleB s 15 && decide (s.lstate 15 = n) && givenB s op c
    let h (op : Nat) := given ((attached { ident := [(126, [0, 0x40])] }).wr R.EWZ_ADDRTAB0_HUB 1 15 126) (hub op)
    e.f 3 10 4 = 0 ∧ e.f 3 3 0 = 15 ∧ st lDISABLED 0x0301 e = true ∧ st lDISC 0x0301 e = true ∧ st lL0 0x0301 e = true ∧
      lDISC ≠ lDISABLED ∧ lDISC ≠ lL0 ∧ (hub 0x0301).f 3 10 4 ≠ 0 ∧
      ((h 0x0301).hubPortOk (hub 0x0301) = true ∧ (h 0x0301).linkUp 15 = true ∧ restsB (h 0x0301) 15 = true ∧
        givenB (h 0x0301) 0x0301 (hub 0x0301) = true) ∧
      st lDISABLED 0x0302 d = true ∧ (given (dev.wr R.EWZ_LSTAT_STATE lDISC 15) d).attached 15 = false ∧ st lDISC 0x0302 d = true ∧
      ((attached {}).attached 15 = true ∧ idleB (attached {}) 15 = true ∧ givenB (given (attached {}) d) 0x0302 d = true) ∧
      ((h 0x0302).hubPortOk (hub 0x0302) = true ∧ (h 0x0302).below 15 126 4 = [] ∧ restsB (h 0x0302) 15 = true ∧
        (h 0x0302).linkUp 15 = true ∧ givenB (h 0x0302) 0x0302 (hub 0x0302) = true) ∧
      dev.hubPortOk (hub 0x0301) = false ∧ givenB (given dev (hub 0x0301)) 0x0301 (hub 0x0301) = true := by decide +kernel
/-- A device on a root port in L0 and not in L0, behind a hub that is there and behind one that is gone; one LOST and one not. -/
theorem witness_CommandsOnInstancesPortsAndLists_devices :
    let a := cmdOf 0x0303 [126 * 16 + 15, 100]
    let at_ (st par : Nat) := given (((attached {}).wr R.EWZ_LSTAT_STATE st 15).wr R.EWZ_ADDRTAB0_PARENT par 15 126) a
    let hub := (at_ lL0 5).wr R.EWZ_ADDRTAB0_VALID 1 15 5
    let l (n : Nat) := given ((attached {}).wr R.EWZ_ADDRTAB0_LOST n 15 126) (cmdOf 0x0304 [126 * 16 + 15])
    a.f 3 10 4 = 126 ∧ (at_ lL1 0).rd R.EWZ_ADDRTAB0_VALID 15 126 = 1 ∧ restsB (at_ lL1 0) 15 = true ∧ (at_ lL1 0).parent 15 126 = 0 ∧
      (at_ lL1 0).lstate 15 ≠ lL0 ∧ givenB (at_ lL1 0) 0x0303 a = true ∧
      ((at_ lL0 0).lstate 15 = lL0 ∧ idleB (at_ lL0 0) 15 = true ∧ restsB (at_ lL0 0) 15 = true ∧ givenB (at_ lL0 0) 0x0303 a = true) ∧
      (hub.parent 15 126 = 5 ∧ hub.present 15 5 = true ∧ hub.linkUp 15 = true ∧ restsB hub 15 = true) ∧
      ((at_ lL0 5).parent 15 126 ≠ 0 ∧ (at_ lL0 5).present 15 5 = false) ∧
      dev.rd R.EWZ_ADDRTAB0_VALID 15 126 = 0 ∧ (l 0).rd R.EWZ_ADDRTAB0_VALID 15 126 = 1 ∧
      restsB (l 0) 15 = true ∧ restsB (l 1) 15 = true ∧ (l 1).rd R.EWZ_ADDRTAB0_LOST 15 126 = 1 ∧
      (l 0).rd R.EWZ_ADDRTAB0_LOST 15 126 = 0 ∧ idleB (l 0) 15 = true ∧
      ((List.range 64).find? (fun n => !(l 0).lostValid 15 n)).getD (((l 0).getPort 15).lostAge.headD 0) < 64 ∧
      givenB (l 0) 0x0304 (cmdOf 0x0304 [126 * 16 + 15]) = true := by decide +kernel
theorem witness_CommandsOnInstancesPortsAndLists_pipes :
    let c := cmdOf 0x0305 [15 * 4096 + 2048 + 126 * 16 + 15]
    let s := given (attached {}) c
    dev.present 15 126 = false ∧ givenB (given dev c) 0x0305 c = true ∧ s.present 15 126 = true ∧ restsB s 15 = true ∧
      s.linkUp 15 = true ∧ givenB s 0x0305 c = true := by decide +kernel
/-- LIST_WRITE of the last twelve words; links of the last descriptor. -/
theorem witness_CommandsOnInstancesPortsAndLists_lists :
    let w := cmdOf 0x0401 [12 * 2 ^ 24 + 0x6FFFD0]
    let k (op n a : Nat) := cmdOf op [0x6FFFC0, w32 (n * 2 ^ 30 + a), 511 * 16 + 15]
    let e := (dev.wr R.SCH_ANCHOR_EMPTY 0 15 31).wr R.SCH_ANCHOR_HEAD (0x6FFFC0 / 64) 15 31
    w.f 3 22 2 * 4 + 4 * w.f 3 27 24 ≤ 0x700000 ∧ givenB (given dev w) 0x0401 w = true ∧
      (∀ n ∈ [1, 3], givenB (given dev (k 0x0402 n 0)) 0x0402 (k 0x0402 n 0) = true) ∧ (k 0x0402 3 0).f 4 31 30 = 3 ∧
      (given dev (k 0x0402 0 0x6FFF80)).linkOf (k 0x0402 0 0x6FFF80) = .after 0x6FFF80 ∧
      (given dev (k 0x0402 2 0)).linkOf (k 0x0402 2 0) = .frame 2044 ∧ givenB (given dev (k 0x0402 2 0)) 0x0402 (k 0x0402 2 0) = true ∧
      (k 0x0402 2 0).f 3 22 6 * 64 = 0x6FFFC0 ∧ (given dev (k 0x0403 1 0)).rd R.SCH_BULKHEAD_EMPTY 15 ≠ 0 ∧
      givenB (given dev (k 0x0403 1 0)) 0x0403 (k 0x0403 1 0) = true ∧ e.rd R.SCH_ANCHOR_EMPTY 15 31 = 0 ∧
      e.rd R.SCH_ANCHOR_HEAD 15 31 = (k 0x0403 3 0).f 3 22 6 ∧ givenB (given e (k 0x0403 3 0)) 0x0403 (k 0x0403 3 0) = true := by
  decide +kernel
/-- DESC_UNLINK behind a descriptor and behind a slot of the frame list, which link to the last descriptor, or to another. -/
theorem witness_CommandsOnInstancesPortsAndLists_unlink :
    let k (n a : Nat) := cmdOf 0x0403 [0x6FFFC0, w32 (n * 2 ^ 30 + a), 511 * 16 + 15]
    let s (b : Nat) (c : Cmd) : State := given (dev.putRaw (saList b) 0x006FFFC0) c
    (∀ e ∈ [(0x6FFF80, k 0 0x6FFF80), (2044, k 2 0)],
      ((s e.1 e.2).linkOf e.2 = .after e.1 ∨ (s e.1 e.2).linkOf e.2 = .frame e.1) ∧ e.1 % 4 = 0 ∧
      ((s e.1 e.2).rawWord (saList e.1)).getLsbD 31 = false ∧ bits ((s e.1 e.2).rawWord (saList e.1)) 22 6 = 0x6FFFC0 / 64 ∧
      bits ((given dev e.2).rawWord (saList e.1)) 22 6 ≠ 0x6FFFC0 / 64 ∧ givenB (s e.1 e.2) 0x0403 e.2 = true) := by decide +kernel
/-- DESC_CANCEL of a descriptor that is in service, is not active, and is active. -/
theorem witness_CommandsOnInstancesPortsAndLists_cancel :
    let c := cmdOf 0x0404 [64, 15]
    let t := txn .inn true (descOf 0x9FFE7000 256)
    let s := given (held t) c
    let a := given (desc dev 64 (descOf 0x9FFE7000 256)) c
    (∀ e ∈ s.cmds.cmd, e.2.wait ≠ .cancel 15) ∧ givenB s 0x0404 c = true ∧ (s.getPort 15).cur = some t ∧ t.desc = c.f 3 22 6 * 64 ∧
      t.kind = .inn ∧ (Desc.active ((given dev c).peekDesc 64) = false ∧ ((given dev c).getPort 15).cur = none ∧
        ((given dev c).getPort 15).cur0 = none ∧ ((given dev c).getPort 15).pairs = [] ∧ givenB (given dev c) 0x0404 c = true) ∧
      (Desc.active (a.peekDesc 64) = true ∧ Desc.cop (a.peekDesc 64) = false ∧ (a.getPort 15).cur = none ∧ givenB a 0x0404 c = true) := by
  decide +kernel
theorem witness_CommandsOnInstancesPortsAndLists_clean (a : Nat) (h : a % 64 = 0) : dev.descClean a := ⟨h, fun _ _ => clean_of _ _ rfl rfl⟩

/-! ## Memory maintenance, clocks, power and health -/

/-- Cairn 65535 stands, with a timer and without, with a free timer place and with none; one that instance 1 does not own; RUNNING; and
IDLE. -/
theorem witness_CommandsOnCairnsMaintenanceAndHealth_cairns :
    let a := cairn dev 65535 [0x00010000, 0, 1, 0, 1]
    let i := cairn dev 65535 [0x10010000, 0, 1, 0, 1]
    let r := cairn dev 65535 [0x50010000, 0, 1, 0, 1]
    let t := cairn dev 65535 [0x00010000, 0, 1, 0, 1, 0, 0, 0x8000]
    let f : State := { t with tsc := { t.tsc with tmrP := List.replicate 16384 9 } }
    let o := cairn dev 65535 [0x00010001, 0, 1, 0, 1]
    let c (op : Nat) := cmdOf op [0xFFFF]
    let w (op : Nat) := cmdOf op [0x00C4FFFF]
    a.cst 65535 = 0 ∧ a.cw 65535 5 = 0 ∧ smGet a.heldJobs [] 65535 = [] ∧ a.cairnMalformed 65535 = false ∧
      a.cairnSpoof 65535 = none ∧ a.cTmode 65535 = false ∧ givenB (given a (c 0x0501)) 0x0501 (c 0x0501) = true ∧
      (∀ s ∈ [t, f], s.cst 65535 = 0 ∧ s.cw 65535 5 = 0 ∧ s.cairnMalformed 65535 = false ∧ s.cairnSpoof 65535 = none ∧
        s.cTmode 65535 = true) ∧ t.tmrCount < 16384 ∧ 16384 ≤ f.tmrCount ∧
      (o.cst 65535 = 0 ∧ o.cairnMalformed 65535 = false ∧ o.cairnSpoof 65535 = some (0x02, 65535)) ∧
      dev.cst 65535 = 0 ∧ dev.cairnMalformed 65535 = true ∧ givenB (given dev (c 0x0501)) 0x0501 (c 0x0501) = true ∧
      r.cst 65535 = 5 ∧ givenB (given r (c 0x0501)) 0x0501 (c 0x0501) = true ∧ givenB (given r (w 0x0503)) 0x0503 (w 0x0503) = true ∧
      i.cst 65535 = 1 ∧ i.cw 65535 5 = 0 ∧ smGet i.heldJobs [] 65535 = [] ∧ givenB (given i (c 0x0502)) 0x0502 (c 0x0502) = true ∧
      givenB (given a (c 0x0502)) 0x0502 (c 0x0502) = true ∧ (w 0x0503).f 3 19 16 = 4 ∧ (w 0x0503).f 3 23 20 + 1 = 13 - 0 ∧
      (cmdOf 0x0503 [0x00B4FFFF]).f 3 19 16 + ((cmdOf 0x0503 [0x00B4FFFF]).f 3 23 20 + 1) = 16 ∧
      givenB (given a (cmdOf 0x0503 [0x00B4FFFF])) 0x0503 (cmdOf 0x0503 [0x00B4FFFF]) = true ∧
      givenB (given a (cmdOf 0x0504 [0x00C3FFFF])) 0x0504 (cmdOf 0x0504 [0x00C3FFFF]) = true := by decide +kernel
theorem witness_CommandsOnCairnsMaintenanceAndHealth_clean (l : List Word) (h : (cairn dev 65535 l).upset = [] ∧ (cairn dev 65535 l).poison = []) :
    (cairn dev 65535 l).cairnClean 65535 := cairnClean_of _ _ h.1 h.2
/-- CODE_LOAD into engine 1023; the maintenance commands of group 0x23, idle and busy. -/
theorem witness_CommandsOnCairnsMaintenanceAndHealth_tokens :
    let tok : Token := ⟨2, 127, 0, true, []⟩
    let busy : State := { dev with cmds := { token := [(0x23, tok)] } }
    let done : State := { dev with cmds := { result := [(0x23, ⟨0, 0, [1]⟩)] } }
    let c (op : Nat) := cmdOf op [0x123, 0, 0, 64]
    let l := cmdOf 0x0505 [1023, 0xFFFFFFFC, 0xFFFFFFFF, 16384, 0]
    (dev.readsAt (127 / 32) < 256 ∧ (∀ r ∈ (given dev l).cmds.cmd, r.2.wait = .toAct)) ∧ l.pos = 0 ∧
      givenB (given dev l) 0x0505 l = true ∧ (dev.getEng 1023).thr = none ∧
      256 ≤ ({ dev with hostReads := (List.range 256).map (fun t => (3 * 1024 + t, { who := .dma 0, fn := 127, flr := false })) } : State).readsAt 3 ∧ ((run []).getEng 0).thr ≠ none ∧
      givenB (given (run []) (cmdOf 0x0505 [0, 0, 0, 4])) 0x0505 (cmdOf 0x0505 [0, 0, 0, 4]) = true ∧
      (∀ op ∈ [0x0701, 0x0703, 0x0702, 0x0704, 0x0705], givenB (given dev (c op)) op (c op) = true ∧ givenB (given busy (c op)) op (c op) = true ∧
        givenB (given done (c op)) op (c op) = true) ∧
      dev.tokenBusy 0x23 = none ∧ busy.tokenBusy 0x23 = some 2 ∧ smFind busy.cmds.token 0x23 = some tok ∧
      dev.canRepair 0x21 0 true = true ∧ ({ dev with fuse := { dev.fuse with spare := [(0x2100, (0, 2))] } } : State).canRepair 0x21 0 true = false ∧ dev.rd R.MEM_DDRCFG_EN 1 = 0 ∧
      (dev.wr R.MEM_DDRCFG_EN 1 1).rd R.MEM_DDRCFG_EN 1 = 1 ∧ smFind done.cmds.result 0x23 = some ⟨0, 0, [1]⟩ := by decide +kernel
theorem witness_CommandsOnCairnsMaintenanceAndHealth_rest :
    let s := (dev.wr R.CLK_PLLSTAT_READY 1 1).wr R.CLK_DSEL_CUR 1 0
    let k := cmdOf 0x0801 [0x200]
    let p := cmdOf 0x0802 [0x1F00, 7]
    let e := cmdOf 0x0901 [1023]
    let r := (((dev.wr R.ENG_RSTAT_RESV 32 31).wr R.HLT_PSLOT_PSTATE 0 (33 * 31 + 31)).wr R.HLT_PSLOT_LOGICAL 1023 (33 * 31 + 31)).wr
      R.ENG_STAT_PHYS 31 31 31
    let w : State := { dev with swap := [(31, ⟨31, 3, 32⟩)] }
    let b := cmdOf 0x0902 [32 * 32 + 31]
    let q := dev.wr R.HLT_PSLOT_PSTATE 2 (33 * 31 + 32)
    let n := q.wr R.ENG_RSTAT_RESV 0x3F 31
    s.srcAllowed 0 2 = true ∧ s.srcReady 0 2 = true ∧ s.rd R.CLK_DSEL_SWPEND 0 = 0 ∧ 2 ≠ s.rd R.CLK_DSEL_CUR 0 ∧
      (let u := s.wr R.CLK_DSEL_CUR 2 0
       u.srcAllowed 0 2 = true ∧ u.srcReady 0 2 = true ∧ u.rd R.CLK_DSEL_SWPEND 0 = 0 ∧ 2 = u.rd R.CLK_DSEL_CUR 0) ∧
      givenB (given s k) 0x0801 k = true ∧ s.srcAllowed 0 15 = false ∧ (s.wr R.CLK_DSEL_SWPEND 1 0).rd R.CLK_DSEL_SWPEND 0 = 1 ∧
      dev.srcAllowed 0 2 = true ∧ dev.srcReady 0 2 = false ∧ p.w 4 < 8 ∧ givenB (given dev p) 0x0802 p = true ∧ w.swapping 1023 = true ∧
      givenB (given w e) 0x0901 e = true ∧ r.swapping 1023 = false ∧ (r.wr R.ENG_RSTAT_RESV 0x3F 31).hasReserve 31 = false ∧
      r.hasReserve 31 = true ∧ r.physOf 1023 ≠ none ∧ givenB (given r e) 0x0901 e = true ∧ dev.rd R.HLT_PSLOT_PSTATE (physIdx 31 32) ≠ 2 ∧
      givenB (given q b) 0x0902 b = true ∧ q.rd R.HLT_PSLOT_PSTATE (physIdx 31 32) = 2 ∧ q.rd R.ENG_RSTAT_RESV 31 ≠ 0x3F ∧
      n.rd R.ENG_RSTAT_RESV 31 = 0x3F ∧ n.fuse.left ≠ 0 ∧ ({ n with fuse := { n.fuse with left := 0 } } : State).fuse.left = 0 ∧
      (n.wr R.HLT_STAT_RESLEFT 31).rd R.HLT_STAT_RESLEFT = 31 := by decide +kernel

/-- The last word of the cairn store in error. -/
theorem witness_MaintenanceAndDdrChannels :
    let t (n : Nat) (l : List Word) : Token := ⟨n, 127, 0, false, l⟩
    let h (g : Nat) (k : Token) (u : SMap Nat) : State := { dev with cmds := { token := [(g, k)] }, upset := u }
    let r : List Word := [0x21, 0x3FFFC0, 0, 64]
    let up (n : Nat) : State := h 0x21 (t 1 r) [((0x1020C00000 - 4) / 4, n)]
    let on := (dev.wr R.MEM_DDRCFG_EN 1 1).wr R.MEM_DDRCFG_RANKS 1 1
    let tr := (on.wr R.MEM_DDRSTAT_TRAINED 1 1)
    smFind (h 0x21 (t 1 r) []).cmds.token 0x21 = some (t 1 r) ∧ (h 0x21 (t 1 r) []).oddWords 0x21 = [] ∧
      (∀ n ∈ [1, 2], ((up n).oddWords 0x21).filter (fun e => decide (0x3FFFC0 ≤ e.1) && decide (e.1 < 0x3FFFC0 + 64)) =
        [(0x3FFFFC, 0x1020C00000 - 4)] ∧ (up n).poisoned (0x1020C00000 - 4) = false ∧ smGet (up n).upset 0 ((0x1020C00000 - 4) / 4) = n) ∧
      (h 0x21 (t 2 [0x221, 0]) []).canRepair 0x21 0 true = true ∧ ({ h 0x21 (t 2 [0x221, 0]) [] with fuse := { dev.fuse with spare := [(0x2100, (0, 2))] } } : State).canRepair 0x21 0 true = false ∧
      smFind (h 0x23 (t 3 []) []).cmds.token 0x23 = some (t 3 []) ∧ smFind (h 0x23 (t 4 []) []).cmds.token 0x23 = some (t 4 []) ∧
      0 < dev.fieldLeft 0x21 ∧ smFind dev.cmds.token 0x23 = none ∧ smFind dev.swap 0x23 = none ∧
      ([(0x21, 7, 300)] : List (Nat × Nat × Nat)).find? (fun e => e.1 == 0x21) = some (0x21, 7, 300) ∧
      dev.cmds.healthWait.find? (fun e => e.1 == 0x21) = none ∧ (dev.wr R.CMD_STAT_FWRDY 1).rd R.CMD_STAT_FWRDY = 1 ∧
      (dev.gate 0 (R.MEM_DDRCFG_EN.off 1) true).1 = true ∧ dev.rd R.MEM_DDRCFG_EN 1 = 0 ∧ bits 0x3301 10 8 ≤ 3 ∧ 3 < bits 0x400 10 8 ∧
      (on.gate 0 (R.MEM_DDRCFG_EN.off 1) true).1 = true ∧ on.rd R.MEM_DDRCFG_EN 1 = 1 ∧ bits 0x3300 0 0 = 0 ∧ bits 0x3301 0 0 = 1 ∧
      dev.ddr.train = [] ∧ (on.wr R.CLK_PLLCTL_N (dpllN 0) 3).dpllFits 1 = true ∧ (on.wr R.CLK_PLLCTL_N 0 3).dpllFits 1 = false ∧
      tr.rankRuns 1 1 = true ∧ smFind tr.ddr.osc 3 = none ∧ dev.rankRuns 1 1 = false := by decide +kernel
theorem witness_ClocksAndPlls :
    let e := dev.wr R.CLK_PLLCTL_EN 1 1
    let u := (dev.wr R.CLK_PLLCTL_EN 1 7).wr R.CLK_DSEL_CUR 5 11
    let l := ((dev.wr R.CLK_PLLCTL_EN 1 7).wr R.CLK_PLLSTAT_LOCK 1 7).wr R.CLK_DSEL_CUR 0 11
    let p := { (e.wr R.CLK_PLLSTAT_LOCK 1 1) with hlt := { dev.hlt with prep := true } }
    let w := (dev.wr R.CLK_DSEL_SWPEND 1 3).wr R.CLK_DSEL_CUR 0 3
    (dev.gate 0 (R.CLK_PLLCTL_EN.off 7) true).1 = true ∧ (e.gate 0 (R.CLK_PLLCTL_EN.off 1) true).1 = true ∧ (dev.wr R.CLK_PLLCTL_EN 0 7).rd R.CLK_PLLCTL_EN 7 = 0 ∧
      dev.rd R.CLK_PLLCTL_EN 1 = 0 ∧ e.rd R.CLK_PLLCTL_EN 1 = 1 ∧ bits 0x7FFFFFFF 31 31 = 0 ∧ bits 0x80000000 31 31 = 1 ∧
      bits 0x00FF0000 23 16 ≠ dev.rd R.CLK_PLLCTL_N 1 ∧ u.rd R.CLK_PLLCTL_EN 7 = 1 ∧ u.pllUsed 7 = true ∧
      l.pllUsed 7 = false ∧ l.rd R.CLK_PLLSTAT_LOCK 7 = 1 ∧ p.rd R.CLK_PLLSTAT_LOCK 1 = 1 ∧ p.hlt.prep = true ∧
      dev.rd R.CLK_PLLSTAT_LOCK 7 = 0 ∧ (dev.wr R.CLK_PLLSTAT_LOCK 1 0).rd R.CLK_PLLSTAT_LOCK 0 = 1 ∧
      (dev.wr R.CLK_PLLCTL_EN 1 0).rd R.CLK_PLLCTL_EN 0 = 1 ∧ (dev.wr R.CLK_PLLCTL_EN 0 0).rd R.CLK_PLLCTL_EN 0 = 0 ∧
      (dev.gate 0 (R.CLK_DSEL_SRC.off 11) true).1 = true ∧ (dev.gate 0 (R.CLK_DSEL_SRC.off 15) true).1 = true ∧
      u.srcAllowed 11 0 = true ∧ u.srcReady 11 0 = true ∧ u.rd R.CLK_DSEL_SWPEND 11 = 0 ∧ (0 : Nat) ≠ u.rd R.CLK_DSEL_CUR 11 ∧
      (5 : Nat) = u.rd R.CLK_DSEL_CUR 11 ∧ dev.srcAllowed 11 15 = false ∧
      ((dev.wr R.CLK_DSEL_CUR 0 11).srcAllowed 11 0 = true ∧ (dev.wr R.CLK_DSEL_CUR 0 11).srcReady 11 0 = true) ∧
      w.rd R.CLK_DSEL_SWPEND 3 = 1 ∧ (dev.wr R.CLK_DSEL_SWPEND 1 0).rd R.CLK_DSEL_SWPEND 0 = 1 ∧ dev.powerMoves = false ∧
      dev.rd R.CLK_DSEL_SWPEND 11 = 0 := by decide +kernel
theorem witness_PowerPlannerAndOff_planner :
    let on := dev.wr R.PWR_CTL_PEN 1
    let x : ExitRec := ⟨3, 7, 0⟩
    let rope (st lim : Nat) : State := (on.wr R.PWR_RCTL_STATE st 31).wr R.PWR_RCTL_LIMIT lim 31
    let h := ((rope 2 3).wr R.PWR_RPORTS_PORTS 0x8000 31).wr R.PTU_PNEXT_NEXT 2000 15
    let e : State := { on with pwr := { on.pwr with rope := [(31, x)] } }
    let port (l : Nat) : State := (((on.wr R.PWR_PCTL_STATE 1 15).wr R.PWR_PCTL_LIMIT l 15).wr R.SCH_PSTAT_WSTATE 4 15).wr R.EWZ_LSTAT_STATE 2 15
    let w : Eng := { wait := some ⟨5, none⟩, exit := some x }
    let r := (dev.wr R.EWZ_LSTAT_STATE 2 15).setPort 15 { exitFrom := 3 }
    (dev.wr R.PWR_CTL_PEN 0).rd R.PWR_CTL_PEN = 0 ∧ (∀ k, k < 32 → dev.rd R.PWR_RCTL_STATE k ≤ 1) ∧ on.rd R.PWR_CTL_PEN = 1 ∧
      smSorted on.eng = true ∧ smFind e.pwr.rope 31 = some x ∧ smFind on.pwr.rope 31 = none ∧ (rope 3 2).rd R.PWR_RCTL_STATE 31 = 3 ∧
      limitOf ((rope 3 2).rd R.PWR_RCTL_LIMIT 31) = 2 ∧ limitOf ((rope 1 0).rd R.PWR_RCTL_LIMIT 31) = 0 ∧ smFind h.swap 31 = none ∧
      hLe (h.ropeH 31) (ropeExit 2 + h.rd R.PWR_GUARD_GUARD) = true ∧ hLe ((rope 2 3).ropeH 31) (ropeExit 2) = false ∧
      (rope 2 3).tsc.ready = [] ∧ (port 0).rd R.PWR_PCTL_STATE 15 = 1 ∧ limitOf ((port 0).rd R.PWR_PCTL_LIMIT 15) = 0 ∧
      limitOf ((port 3).rd R.PWR_PCTL_LIMIT 15) = 3 ∧
      2 ≤ (port 3).target (min 2 3) ((port 3).portExit 15 2) ((port 3).portExit 15 3) ((port 3).portH 15) ∧ (port 3).portMay 15 = true ∧
      ((dev.setEng 1023 { exit := some x }).getEng 1023).exit = some x ∧ ((dev.setEng 1023 { exit := some x }).getEng 1023).wait = none ∧
      ((dev.setEng 1023 w).getEng 1023).wait ≠ none ∧ ((dev.setEng 1023 w).getEng 1023).nudge = false ∧ x.cause = 7 ∧
      (((dev.setEng 1023 { w with nudge := true }).getEng 1023).nudge = true ∧ (dev.setEng 1023 { w with nudge := true }).getEng 1023 ≠ {}) ∧
      (smFind (dev.wr R.PWR_RCTL_STATE 2 31).pwr.rope 31 = none ∧ 2 ≤ (dev.wr R.PWR_RCTL_STATE 2 31).rd R.PWR_RCTL_STATE 31) ∧
      (dev.getEng 1023).exit = none ∧ (r.getPort 15).exitFrom ≠ 0 ∧ r.lstate 15 = lL0 ∧ (dev.getPort 15).exitFrom = 0 := by decide +kernel
theorem witness_PowerPlannerAndOff_off :
    let s := ((dev.wr R.PWR_CTL_PEN 1).wr R.PWR_DCTL_LIMIT 4)
    let s := (List.range 32).foldl (fun (s : State) r => s.wr R.PWR_RCTL_STATE 3 r) s
    let s := { s.setTime (BitVec.ofNat 80 (100000000 * 2 ^ 16)) with pwr := { s.pwr with offFrom := some 0 } }
    let o : State := { dev with phase := .off }
    s.pwr.offFrom = some 0 ∧ s.rd R.PWR_CTL_PEN = 1 ∧ s.offReady = true ∧ 0 + max 1 (s.rd R.PWR_DCTL_OFFDLY) * 1000000 ≤ s.ns.toNat ∧
      dev.pwr.offFrom = none ∧ dev.phase = .running ∧ dev.wakeOn .wakeN = true ∧ o.wakeOn .wakeN = true ∧ (o.wr R.PWR_WAKEEN_GPIO 0x7FFF).wakeOn (.gpio 15) = false ∧
      o.boot.warmPin = false := by decide +kernel
theorem witness_HealthAndReserves_heartbeats :
    let j (n : Nat) (l : List Beat) : State := (dev.wr R.HLT_CTL_EN 1).setJudge 1023 { last := some 255, got := l, miss := n }
    let lim (s : State) := (s.wr R.HLT_JUDGE_MISSLIM 3).wr R.HLT_CTL_AUTOSWAP 1
    let b : Beat := { seq := 0, phys := 31 }
    (dev.wr R.HLT_CTL_EN 0).rd R.HLT_CTL_EN = 0 ∧ (j 0 []).rd R.HLT_CTL_EN = 1 ∧ (j 0 []).inService 1023 = true ∧
      (j 0 []).erd R.ENG_DBG_HALTED 1023 = 0 ∧ ((j 0 []).getEng 1023).hbHalt = false ∧
      (j 0 [b]).getJudge 1023 = { last := some 255, got := [b] } ∧ gaps (some 255) [b] = (0, some 0) ∧ b.cls = 0 ∧
      ({ b with chk := true } : Beat).cls = 1 ∧ ({ b with par := true } : Beat).cls = 2 ∧ ((j 1 []).getJudge 1023).got.isEmpty = true ∧ (lim (j 1 [])).judgeLim R.HLT_JUDGE_MISSLIM = 3 ∧ ¬3 ≤ 1 + 1 ∧
      ((j 2 []).getJudge 1023).miss = 2 ∧ (lim (j 2 [])).rd R.HLT_CTL_AUTOSWAP = 1 ∧ (j 2 []).rd R.HLT_JUDGE_FAILLIM ≠ 1 ∧
      (((j 2 []).wr R.HLT_CTL_AUTOSWAP 0).rd R.HLT_CTL_AUTOSWAP) = 0 := by decide +kernel
theorem witness_HealthAndReserves_swaps :
    let x (n : Nat) : SwapSt := ⟨31, n, 32⟩
    let s (n : Nat) : State := { dev with swap := [(31, x n)] }
    smFind (s 3).swap 31 = some (x 3) ∧ smFind (s 3).cmds.token 31 = none ∧ smFind dev.swap 31 = none ∧ smFind (s 4).swap 31 = some (x 4) ∧
      (s 4).erd R.ENG_STAT_PHYS 1023 < 33 ∧ (x 4).newPhys < 33 ∧ (x 4).newPhys ≠ (s 4).erd R.ENG_STAT_PHYS 1023 ∧
      (s 4).rd R.HLT_PSLOT_PSTATE (physIdx 31 32) = 1 ∧ smFind (s 6).swap 31 = some (x 6) ∧ 32 * 31 + (x 6).slot < 1024 ∧ (x 6).slot < 32 ∧
      (dev.wr R.HLT_CTL_COPY 1).rd R.HLT_CTL_COPY = 1 := by decide +kernel
theorem witness_HealthAndReserves_rest :
    let q (n : Nat) : State := { dev with hlt := { fuseQ := [.retire 1055 1023 (some 32)] }, fuse := { dev.fuse with left := n } }
    let z := dev.wr R.HLT_PSLOT_PSTATE 3 (physIdx 31 32)
    let a := (dev.wr R.HLT_AGECFG_MTH 255).wr R.HLT_CTL_AUTOGB 1
    let c := dev.wr R.CMD_STAT_FWRDY 1
    let l := c.setTime (BitVec.ofNat 80 (3000000 * 2 ^ 16))
    let k : State := { dev with hlt := { coreStart := true } }
    dev.hlt.fuseQ = [] ∧ (q 0).hlt.fuseQ = [.retire 1055 1023 (some 32)] ∧ (q 0).fuse.left = 0 ∧ 0 < (q 9).fuse.left ∧
      2 ≤ z.rd R.HLT_PSLOT_PSTATE (physIdx 31 32) ∧ dev.rd R.HLT_PSLOT_PSTATE (physIdx 31 32) < 2 ∧ ¬255 < a.rd R.HLT_AGECFG_MTH ∧
      254 < a.rd R.HLT_AGECFG_MTH ∧ a.rd R.HLT_GBAND_STEP ≠ 7 ∧ (a.wr R.HLT_GBAND_STEP 7).rd R.HLT_GBAND_STEP = 7 ∧
      max 1 ((a.wr R.HLT_AGECFG_HOLD 1).rd R.HLT_AGECFG_HOLD) ≤ (a.wr R.HLT_AGECFG_HOLD 1).hlt.low + 1 ∧ a.rd R.HLT_CTL_AUTOGB = 1 ∧
      a.hlt.settling = false ∧ (a.wr R.HLT_CTL_AUTOGB 0).rd R.HLT_CTL_AUTOGB ≠ 1 ∧ (dev.gate 0 R.HLT_PLL_RETIRE0.off true).1 = true ∧
      (dev.wr R.CLK_DSEL_CUR 2 0).rd R.CLK_DSEL_CUR 0 = 2 ∧ dev.rd R.HLT_PLL_RETIRE0 = 0 ∧ dev.rd R.CLK_DSEL_CUR 0 ≠ 2 ∧
      c.rd R.CMD_STAT_FWRDY = 1 ∧ c.rd R.HLT_CSLOT_STATE 3 = 0 ∧ dev.rd R.CMD_STAT_FWRDY ≠ 1 ∧
      smGet l.hlt.beat 0 3 + 3000000 ≤ l.ns.toNat ∧ l.rd R.HLT_CSLOT_STATE 3 = 0 ∧ k.hlt.coreStart = true ∧ dev.hlt.coreStart = false ∧
      (dev.wr R.HLT_CSLOT_STATE 2 4).rd R.HLT_CSLOT_STATE 4 = 2 ∧ dev.rd R.HLT_CSLOT_STATE 4 ≠ 2 := by
  decide +kernel

/-! ## Start-up, accesses, every command -/

theorem witness_StartUpAndResets :
    let p (x : Phase) (w : Bool) : State := { State.reset with phase := x, boot := { warmPin := w } }
    let b : BootInput := ⟨0xFFFF, 3, 0, [], 0, 3, none, none⟩
    let e := { dev with swap := [(31, ⟨31, 3, 32⟩)] }
    let i : State := { dev with boot := { i2cIdx := 0x11, i2cLatch := [(0x11, 7)] } }
    State.reset.phase = .held ∧ dev.phase ≠ .held ∧ (p .oscDelay true).boot.warmPin = true ∧ (p .oscDelay false).boot.warmPin = false ∧
      dev.phase ≠ .oscDelay ∧ (p .warmHeld true).phase = .warmHeld ∧ (b.gfail.toNat % 4 ≠ 0 ∧ b.chk1.toNat % 4 ≠ 0) ∧
      dev.imageCode none = some 1 ∧ dev.bootBarred = false ∧ (dev.wr R.GLB_BIST_GFAIL 2).bootBarred = true ∧
      (∀ r ∈ [R.GLB_CTL_WARMRST.off, R.GLB_CTL_FWRST.off, R.GLB_ENGRST_GO.off, R.GLB_PORTRST_GO.off], (dev.gate 0 r true).1 = true) ∧
      smFind e.swap (ropeOf 1023) ≠ none ∧ smFind dev.swap (ropeOf 1023) = none ∧ dev.physOf 1023 ≠ none ∧ (dev.getEng 1023).thr = none ∧
      (dev.getEng 1023).pref = none ∧ (dev.getEng 1023).stalled = none ∧ (dev.wr R.EWZ_CTL_EN 1 15).rd R.EWZ_CTL_EN 15 = 1 ∧
      dev.rd R.EWZ_CTL_EN 15 = 0 ∧ dev.rd R.SCH_CTL_EN 15 = 0 ∧ nbit ((dev.wr R.GLB_PORTRST_GO 0x8000).rd R.GLB_PORTRST_GO) 15 = true ∧
      (dev.wr R.GLB_PORTRST_GO 0x8000).portHeld 15 = false ∧ nbit (dev.rd R.GLB_PORTRST_GO) 15 = false ∧ dev.i2cOn = true ∧
      dev.i2cField 0x28 0 0 = none ∧ i.i2cField 0x11 0xFFFF 7 = some (0x10, 2, 0xFFFF) ∧ smFind i.boot.i2cLatch 0x11 = some 7 ∧
      ({ dev with phase := .off } : State).i2cField 0 0 0 ≠ none ∧ offReads 0x1F = true ∧ offReads 0x20 = false ∧
      State.reset.i2cOn = false := by decide +kernel
/-- An image passes in a device with the hash of its key, as soon as its signature is one that is accepted. -/
def image : BootImage := ⟨[0x544B4657, 0x00010200, 64, 9, 1], List.replicate 16 0⟩
theorem witness_StartUpAndResets_image
    (h : Config.ecdsaOk ((image.header.drop 16).take 24) ((image.header.drop 40).take 24)
      (Config.sha384 (wordsBytes (image.header.take 40 ++ image.body.take (64 / 4)))) = true) :
    ({ dev with fuse := { dev.fuse with keyHash := Config.sha384 (wordsBytes ((image.header.drop 16).take 24)) } } : State).imageCode
      (some image) = none := by
  have k : headerOk image.header = true := by decide
  have n : (image.header.getD 2 0).toNat = 64 := by decide
  have v : ¬bits (image.header.getD 4 0) 7 0 < (0 : Nat) := by decide
  unfold State.imageCode
  simp only [k, Bool.not_true, Bool.false_eq_true, if_false, ne_eq, not_true_eq_false]
  rw [if_neg (show ¬bits (image.header.getD 4 0) 7 0 < dev.fuse.svnFloor.toNat from v)]
  rw [if_neg]
  rw [n]
  simp only [h, Bool.not_true, Bool.false_eq_true, not_false_eq_true]
/-- A register, a 64-bit pair, a counter of 32 bits and its next word, a word that a latch holds, both apertures, and two accesses of one
cycle. -/
theorem witness_RegisterAccesses :
    let o := R.PTU_TINC_INC.off
    let one : RegAcc := ⟨true, 127, 0, .b4, some 1, false, 0, 0⟩
    let two : RegAcc := ⟨false, 127, 0, .b4, some 2, false, 0, 0⟩
    let l : State := { dev with latch := [(R.PTU_TIMEHI_NS_HI.off, 7)] }
    (busOff 127 0xFFFF = some 0x47FFFFF ∧ busOff 127 0x10000 = none ∧ busOff 96 0x3F00000 = some 0x4600000) ∧
      busOff 0 o = some o ∧ o % 8 = 0 ∧ (dev.gate 0 o true).1 = true ∧ (dev.gate 0 (o + 4) true).1 = true ∧
      (busOff 0 (o + 4) = some (o + 4) ∧ (o + 4) % 8 ≠ 0) ∧ (busOff 0 (o + 1) = some (o + 1) ∧ (o + 1) % 4 ≠ 0 ∧ (o + 1) % 2 ≠ 0) ∧
      accRank two < accRank one ∧ one.val = some 1 ∧ two.val = some 2 ∧ (dev.gate 0 o false).1 = true ∧ (dev.gate 0 (o + 4) false).1 = true ∧ smFind dev.latch o = none ∧
      (regAt o).map (fun e => e.1.base) = some R.PTU_TINC.base ∧
      ((regAt R.VIM_CNT_VIOL.off).any (fun e => e.1.fields.any (fun f => f.ty == .cnt)) = true ∧
        (regAt (R.VIM_CNT_VIOL.off + 4)).isSome = true ∧ (dev.gate 0 R.VIM_CNT_VIOL.off false).1 = true) ∧
      ((regAt R.SCH_RFXMAX_MAXLAT.off).any (fun e => e.1.fields.any (fun f => f.ty == .rc)) = true ∧
        (dev.gate 0 R.SCH_RFXMAX_MAXLAT.off false).1 = true) ∧
      (smFind l.latch (0 * 2 ^ 26 + R.PTU_TIMEHI_NS_HI.off) = some 7 ∧ (l.gate 0 R.PTU_TIMEHI_NS_HI.off false).1 = true) ∧
      (dev.gate 0 (0x2000000 + 0x6FFFFC) true).1 = true ∧ (dev.gate 0 (0x2000000 + 0x6FFFFC) false).1 = true ∧
      (dev.gate 0 (0x2000000 + 0x7FFFFC) true).1 = true ∧ (dev.gate 0 (0x3000000 + (65535 * 64 + 60)) true).1 = true ∧
      dev.cst 65535 = 0 ∧ (cairn dev 65535 [0x50010000, 0, 1, 0, 1]).cst 65535 = 5 := by decide +kernel
theorem witness_EngineWordsRoundTrip :
    decodeEngineWord 1023 0x35000002 = some (.lui 1023 ⟨8, 0, 2⟩) ∧ encodeEngineInstr (.lui 1023 ⟨8, 0, 2⟩) = some (1023, 0x35000002) := by
  decide +kernel
theorem witness_NothingActsUnlessRunning : State.reset.phase ≠ .running := by decide
theorem witness_StepsGoOnAndKeepMemoryCanonical : Memory.wf State.reset.mem ∧ Memory.wf ((cairn dev 65535 [1]).mem) := by decide +kernel
theorem witness_StepTakesTheFront :
    ({ dev with pending := [.ptuClockTick] } : State).pending = [.ptuClockTick] ∧ dev.pending = [] := by decide +kernel


/-! ## Single steps, with what the rules say of them -/

/-- The state after one command. -/
def after (s : State) (c : Instr) : State := match step { s with pending := [c] } with | .next t => t | _ => s
/-- 0xFFFFFFFF + 1 is 0 with Z and C (R318, R323); bits 4–0 of the flags are DZ V C N Z. -/
theorem test_add_wraps :
    let x := (after (run [(1, 0xFFFFFFFF), (2, 1)]) (.add 0 ⟨3, 1, 2, 0, 0⟩)).getEng 0
    x.gr 3 = 0 ∧ x.flags = 0b00101 ∧ x.pc = 4 := by decide +kernel
/-- A posted store is not seen before MFENCE, and is after it (R278, R279); an engine reset drops it (R611). -/
theorem test_posted_store :
    let t := windowed [posted]
    t.rawWord 0x1000080000 = 0 ∧ (after t (.mfence 0 ⟨0, 0, 0, 0, 0⟩)).rawWord 0x1000080000 = 7 ∧
      ((after t (.mfence 0 ⟨0, 0, 0, 0, 0⟩)).getEng 0).wbuf = [] ∧ ((after t (.engineReset 0 0)).getEng 0).wbuf = [] ∧
      (after t (.engineReset 0 0)).rawWord 0x1000080000 = 0 := by decide +kernel
/-- A load of the bytes of a posted store waits for it and returns it (R277). -/
theorem test_load_after_posted_store :
    ((after (windowed [posted]) (.lw 0 ⟨3, 1, 0⟩)).getEng 0).gr 3 = 7 ∧
      ((after (windowed [posted]) (.lw 0 ⟨3, 1, 0⟩)).getEng 0).wbuf = [] := by decide +kernel
/-- The destination may be a source; a write of g0 is discarded (R316). -/
theorem test_add_in_place :
    ((after (run [(1, 21)]) (.add 0 ⟨1, 1, 1, 0, 0⟩)).getEng 0).gr 1 = 42 ∧
      ((after (run [(1, 21)]) (.add 0 ⟨0, 1, 1, 0, 0⟩)).getEng 0).gr 0 = 0 := by decide +kernel
/-- A signed byte with bit 7 set extends (R328). -/
theorem test_lb_extends :
    let s := (run [(1, 0x10000)]).putRaw (saEngine 0 + 0x8000) 0x7F80
    ((after s (.lb 0 ⟨3, 1, 0⟩)).getEng 0).gr 3 = 0xFFFFFF80 ∧ ((after s (.lb 0 ⟨3, 1, 1⟩)).getEng 0).gr 3 = 0x7F := by decide +kernel
/-- A tick advances device time by PTU_TINC, 2 ns at reset (R19). -/
theorem test_tick : (after (dev.wr R.PTU_CTL_EN 1) .ptuClockTick).time = 0x20000 := by decide +kernel
/-- A command that finds nothing to do leaves everything as it was; a step takes the command from the queue. -/
theorem test_queue : after dev (.porstRelease 5 1) = dev ∧ (after dev .ptuClockTick).pending = [] := by decide +kernel
/-- A poisoned register write changes no register but POISONRX of its port. -/
theorem test_poisoned_write : (after dev (.registerWrite 32 0 .b4 1 true ⟨false, 0, 0, []⟩)).rd R.HPC_ERR_POISONRX 1 = 1 := by decide +kernel
/-- STOP wins over START in one write of DMA_CCTL (R520). -/
theorem test_dma_start_stop :
    let w (v : BitVec 64) : State := after (chan 0 {}) (.registerWrite 0 0x7004C4 .b4 v false ⟨false, 0, 0, []⟩)
    (w 3).chanState 15 = 0 ∧ (w 1).chanState 15 = 1 := by decide +kernel
/-- A PF that does not own channel 15 leaves a record of KIND 0x07 without a grant, and no SREFUSE (R509, R523). -/
theorem test_dma_not_owned :
    let t := after (chan 0 {}) (.dmaStart 32 15)
    t.chanState 15 = 0 ∧ t.rd R.DMA_CSTAT_SREFUSE 15 = 0 ∧ t.rd R.VIM_FVLAST_KIND 32 = 7 := by decide +kernel
/-- EVC_GSTAT shows a source that is not enabled, EVC_GACT does not (R526): source 1,270 is bit 22 of group 39. -/
theorem test_group_levels :
    let s := dev.wr R.EVC_FSTAT_NEWREC 1
    s.softWord R.EVC_GSTAT 39 0 = 0x400000 ∧ s.softWord R.EVC_GACT 39 0 = 0 ∧
      (s.wr R.EVC_GEN_EN 0xFFFFFFFF 39).softWord R.EVC_GACT 39 0 = 0x400000 := by decide +kernel
/-- The examples below the table of R639, and that no two signals share a ball. -/
theorem test_balls : (Signal.ddrDq 0 13).place = (2, 9) ∧ (Signal.peTxp 2 1).place = (12, 42) := by decide
theorem test_balls_distinct : (Signal.all.map Signal.place).Nodup := by decide +kernel
/-- Power-on reset leaves a device that is held (R601). -/
theorem test_power_on : (after dev .powerOnReset).phase = .held ∧ (after (after dev .powerOnReset) (.porstRelease 5 1)).phase = .oscDelay := by decide +kernel

end Sys2Proof.Tests
end

section
/-! SUPPORT. Accesses that reach their block, and the frames of a write of one register field and of a read that latches. -/

namespace Sys2Proof.Machine

/-! ## Accesses that reach their block (R14–R17, R366) -/

/-- An access that reaches its block leaves no violation. -/
theorem State.gate_of_passed {s : State} {fn off : Nat} {write : Bool} (h : (s.gate fn off write).1 = true) :
    s.gate fn off write = (true, s) := by
  generalize hr : s.gate fn off write = r at h ⊢
  have passed {b : Bool} (hb : (b, s) = r) : r = (true, s) := by
    subst hb
    exact Prod.ext h rfl
  have refused {u : State} (hb : (false, u) = r) : r = (true, s) := by
    subst hb
    exact absurd h Bool.false_ne_true
  unfold State.gate at hr
  dsimp only at hr
  split at hr
  · exact passed hr
  · split at hr
    · exact passed hr
    · split at hr
      · exact passed hr
      · split at hr
        · exact passed hr
        · split at hr
          · split at hr
            · exact passed hr
            · split at hr
              · split at hr
                · exact refused hr
                · exact passed hr
              · exact passed hr
          · exact refused hr
theorem State.gated_of_reaches {s : State} {fn off : Nat} (f : State → State) (h : s.reaches fn off) :
    s.gated fn off f = f s := by
  simp only [State.gated, State.gate_of_passed h]
theorem State.gatedRead_of_readable {s : State} {fn off : Nat} (f : State → Word × Bool × State) (h : s.readable fn off) :
    s.gatedRead fn off f = (f s).2.2.answerRead fn (f s).1 (f s).2.1 := by
  simp only [State.gatedRead, State.gate_of_passed h]

/-- A write command that reaches its block does what it does there, and the command ends. -/
theorem State.answers_gated {s : State} {i : Instr} {fn off : Nat} {f : State → State} {P : State → Prop}
    (hrun : s.phase = .running) (hreach : s.reaches fn off) (hi : exec i s = act s (fun s => s.gated fn off f))
    (hP : P (f s).settle) : s.answers i P :=
  ⟨_, by rw [hi, act_running s _ hrun, State.gated_of_reaches f hreach], hP⟩

/-! ## One register field -/

/-- The event controller's keys stand below the PTU. -/
theorem evcKey_of_base {f : Field} (i j : Nat) (h : 0x40000 ≤ f.base) : evcKey (f.key i j) = false := by
  have hk : 0x40000 ≤ f.key i j / 32 := by
    simp only [Field.key]
    omega
  generalize f.key i j = k at hk
  simp only [evcKey, Bool.or_eq_false_iff, Bool.and_eq_false_iff, beq_eq_false_iff_ne, decide_eq_false_iff_not]
  omega

/-- The end of a command that wrote nothing. -/
theorem State.onlyRegs_settle (s : State) (l : List Nat) : s.onlyRegs s.settle l :=
  ⟨s.settle_still, State.regsKept_settle (s.regsKept_refl l)⟩
/-- The end of a command that wrote one field: the field holds the value, and nothing else changed. -/
theorem State.settle_wr (s : State) (f : Field) (v i j : Nat) (hk : evcKey (f.key i j) = false) (hv : v < f.span) :
    (s.wr f v i j).settle.rd f i j = v ∧ s.onlyRegs (s.wr f v i j).settle [f.key i j] := by
  refine ⟨?_, State.settle_still _, State.regsKept_settle (State.regsKept_wr (s.regsKept_refl _) f v i j (by simp))⟩
  rw [State.settle_rd _ f i j hk, State.rd_wr_same, Nat.mod_eq_of_lt hv]

/-! ## Reads that latch (R22, R63) -/

theorem State.find_latchFor_same (s : State) (fn off : Nat) (v : Word) :
    smFind (s.latchFor fn off v).latch (fn * 2 ^ 26 + off) = some v := smFind_ins_same ..
theorem State.find_latchFor_ne (s : State) (fn off o : Nat) (v : Word) (h : o ≠ off) :
    smFind (s.latchFor fn off v).latch (fn * 2 ^ 26 + o) = smFind s.latch (fn * 2 ^ 26 + o) :=
  smFind_ins_ne _ v (by omega)

/-- `s` after a read by function fn that returns `w` and latches `v` and `v'` at the places `o` and `o'`. -/
def State.readLatched (s : State) (fn : Nat) (w : Word) (o o' : Nat) (v v' : Word) : State :=
  (((s.latchFor fn o v).latchFor fn o' v').answerRead fn w false).settle

section
variable (s : State) (fn : Nat) (w : Word) (o o' : Nat) (v v' : Word)

theorem State.readLatched_latch : (s.readLatched fn w o o' v v').latch = ((s.latchFor fn o v).latchFor fn o' v').latch :=
  State.settle_latch _
theorem State.readLatched_still :
    (s.readLatched fn w o o' v v').still = { s with latch := (s.readLatched fn w o o' v v').latch }.still := by
  rw [State.readLatched_latch, State.readLatched, State.settle_still]
  rfl
theorem State.readLatched_regsKept : s.regsKept (s.readLatched fn w o o' v v') [] :=
  State.regsKept_settle (State.regsKept_congr (s.regsKept_refl []) rfl)
theorem State.readLatched_puts : s.puts (s.readLatched fn w o o' v v') [.readData fn w false] :=
  (Settled.settle _).out

end

/-- A read that reaches its block and latches at two places returns the word, latches both, and changes nothing else. -/
theorem State.answers_readLatch {s : State} {fn off o o' : Nat} {w v v' : Word} {i : Instr}
    {f : State → Word × Bool × State} (hrun : s.phase = .running) (hread : s.readable fn off)
    (hi : exec i s = act s (fun s => s.gatedRead fn off f))
    (hf : f s = (w, false, (s.latchFor fn o v).latchFor fn o' v')) (hne : o ≠ o') :
    s.answers i (fun u =>
      smFind u.latch (fn * 2 ^ 26 + o) = some v ∧ smFind u.latch (fn * 2 ^ 26 + o') = some v' ∧
      s.puts u [.readData fn w false] ∧ u.still = { s with latch := u.latch }.still ∧ s.regsKept u []) := by
  refine ⟨s.readLatched fn w o o' v v', ?_, ?_, ?_, s.readLatched_puts .., s.readLatched_still ..,
    s.readLatched_regsKept fn w o o' v v'⟩
  · rw [hi, act_running s _ hrun, State.gatedRead_of_readable f hread, hf, State.readLatched]
  · rw [State.readLatched_latch, State.find_latchFor_ne _ fn o' o v' hne, State.find_latchFor_same]
  · rw [State.readLatched_latch, State.find_latchFor_same]

/-- Settles O26: each read is one that latches at two places. -/
theorem readsLatchWhatBelongsTogether : Obligations.ReadsLatchWhatBelongsTogether := by
  intro s fn k at_ t hrun
  refine ⟨fun h => State.answers_readLatch hrun h rfl rfl (by decide),
    fun h => State.answers_readLatch hrun h rfl rfl ?_⟩
  simp only [Field.off, R.PTU_TRKPOSH_POSH, R.PTU_TRKVEL_VEL]
  omega

end Sys2Proof.Machine
end

section
/-! SUPPORT. What the prediction of the next commit and a move between gangs may change (R52, R57–R60). -/

namespace Sys2Proof.Machine

/-- `t` is `s` with free values drawn. -/
def State.drewTo (s t : State) : Prop := ∃ n, t = { s with free := n }

theorem State.drewTo.refl (s : State) : s.drewTo s := ⟨s.free, rfl⟩
theorem State.drewTo.trans {s t u : State} (h : s.drewTo t) (g : t.drewTo u) : s.drewTo u := by
  obtain ⟨n, rfl⟩ := h
  obtain ⟨m, rfl⟩ := g
  exact ⟨m, rfl⟩
theorem State.drewTo.foldl {α β : Type} {f : β × State → α → β × State} (hf : ∀ (a : β × State) x, a.2.drewTo (f a x).2) (l : List α)
    (a : β × State) : a.2.drewTo (l.foldl f a).2 := by
  induction l generalizing a with
  | nil => exact .refl _
  | cons x l ih => exact (hf a x).trans (ih _)

theorem State.quot_drewTo (s : State) (n d : Nat) : s.drewTo (s.quot n d).2 := by
  unfold State.quot
  split
  · exact ⟨_, rfl⟩
  · split
    · exact .refl s
    · exact ⟨_, rfl⟩
theorem State.mkEta_drewTo (s : State) (m : Nat) : s.drewTo (s.mkEta m).2 := by
  unfold State.mkEta
  dsimp only
  split
  · split
    · exact .refl s
    · split
      · exact s.quot_drewTo _ _
      · split
        · exact s.quot_drewTo _ _
        · exact .refl s
  · exact .refl s

/-- A prediction sets PTU_PNEXT and PREWARN of its port. -/
theorem State.predict_eq (s : State) (p : Nat) : ∃ n next warn,
    s.predict p = ({ s with free := n }.wr R.PTU_PNEXT_NEXT next p).wr R.PTU_PSTAT_PREWARN warn p := by
  unfold State.predict
  dsimp only
  split
  · generalize hfold : List.foldl _ _ _ = r
    have hdrew : s.drewTo r.2 := by
      rw [← hfold]
      refine State.drewTo.foldl (fun a m => ?_) _ (_, s)
      have heta := a.2.mkEta_drewTo m
      split <;> rename_i heq <;> rw [heq] at heta <;> exact heta
    obtain ⟨n, hn⟩ := hdrew
    exact ⟨n, _, _, by rw [hn]⟩
  · exact ⟨s.free, _, _, rfl⟩

/-- A fold whose every step changes frames alone changes frames alone. -/
theorem State.forL_frame {α : Type} {f : α → State → State} (hf : ∀ x (u : State), ∃ fr, f x u = { u with frame := fr })
    (l : List α) (s : State) : ∃ fr, s.forL l f = { s with frame := fr } := by
  unfold State.forL
  induction l generalizing s with
  | nil => exact ⟨s.frame, rfl⟩
  | cons x l ih =>
    obtain ⟨fr, hx⟩ := hf x s
    obtain ⟨fr', hl⟩ := ih (f x s)
    exact ⟨fr', by rw [List.foldl_cons, hl, hx]⟩
/-- A port that changes its gang or FEN changes frames alone. -/
theorem State.gangMove_eq (s : State) (p : Nat) (l : List Nat) : ∃ fr, s.gangMove p l = { s with frame := fr } := by
  unfold State.gangMove
  obtain ⟨fr, h⟩ := State.forL_frame
    (f := fun m s => s.setFrame m { s.getFrame m with led := if s.on R.PTU_PFRM_FEN p then some p else none })
    (fun m u => ⟨_, rfl⟩) l s
  dsimp only
  rw [h]
  exact ⟨_, rfl⟩

end Sys2Proof.Machine
end

section
/-! SUPPORT. The writes of the time base. -/

namespace Sys2Proof.Machine

/-- A command that writes one register field of the PTU, once it reaches its block: the field holds the value, and nothing else
changed. -/
theorem State.answers_ptuWrite {s : State} {c : Instr} {fn off : Nat} {g : State → State} {f : Field} {v : Nat} {i j : Nat}
    (hrun : s.phase = .running) (hreach : s.reaches fn off) (hc : exec c s = act s (fun s => s.gated fn off g))
    (hg : g s = s.wr f v i j) (hf : 0x40000 ≤ f.base) (hv : v < f.span) :
    s.answers c (fun u => u.rd f i j = v ∧ s.onlyRegs u [f.key i j]) :=
  State.answers_gated hrun hreach hc (by rw [hg]; exact s.settle_wr f v i j (evcKey_of_base i j hf) hv)
/-- A write that its block discards changes nothing. -/
theorem State.answers_discard {s : State} {c : Instr} {fn off : Nat} {g : State → State} (hrun : s.phase = .running)
    (hreach : s.reaches fn off) (hc : exec c s = act s (fun s => s.gated fn off g)) (hg : g s = s) :
    s.answers c (fun u => s.onlyRegs u []) :=
  State.answers_gated hrun hreach hc (by rw [hg]; exact s.onlyRegs_settle [])

/-! ## Legal frame limits (R44, R52) -/

/-- Frame limits and FEN of port p written, with the frames, free values and prediction that the write leaves. -/
def State.limitsSet (s : State) (p fmin fmax fen : Nat) (fr : SMap FrameSt) (n next warn : Nat) : State :=
  ((((({ s with frame := fr, free := n }.wr R.PTU_PFRM_FMIN fmin p).wr R.PTU_PFRM_FMAX fmax p).wr R.PTU_PFRM_FEN fen p).wr
    R.PTU_PNEXT_NEXT next p).wr R.PTU_PSTAT_PREWARN warn p).settle

section
variable (s : State) (p fmin fmax fen : Nat) (fr : SMap FrameSt) (n next warn : Nat)

theorem State.limitsSet_still : (s.limitsSet p fmin fmax fen fr n next warn).still =
    { s with frame := (s.limitsSet p fmin fmax fen fr n next warn).frame }.still := by
  rw [State.limitsSet, State.settle_still, State.settle_frame]
  rfl
theorem State.limitsSet_regsKept : s.regsKept (s.limitsSet p fmin fmax fen fr n next warn)
    ([R.PTU_PFRM_FMIN, R.PTU_PFRM_FMAX, R.PTU_PFRM_FEN, R.PTU_PNEXT_NEXT, R.PTU_PSTAT_PREWARN].map (fun f => f.key p)) := by
  refine State.regsKept_settle ?_
  iterate 5 refine State.regsKept_wr ?_ _ _ _ _ (by simp)
  exact State.regsKept_congr (s.regsKept_refl _) rfl

/-- PTU_PNEXT and PTU_PSTAT are registers of their own. -/
theorem State.limitsSet_rd (f : Field) (hf : f ∈ [R.PTU_PFRM_FMIN, R.PTU_PFRM_FMAX, R.PTU_PFRM_FEN]) :
    (s.limitsSet p fmin fmax fen fr n next warn).rd f p =
      ((({ s with frame := fr, free := n }.wr R.PTU_PFRM_FMIN fmin p).wr R.PTU_PFRM_FMAX fmax p).wr R.PTU_PFRM_FEN fen p).rd f p := by
  have hbase : f.base = 0x43004 ∧ f.s1 = 0x40 ∧ f.s2 = 0 ∧ f.lo < 32 := by
    revert f
    decide
  obtain ⟨hb, hs1, hs2, hlo⟩ := hbase
  rw [State.limitsSet, State.settle_rd _ _ _ _ (evcKey_of_base _ _ (by omega)), State.rd_wr_ne, State.rd_wr_ne] <;>
    simp only [Field.key, hb, hs1, hs2, R.PTU_PNEXT_NEXT, R.PTU_PSTAT_PREWARN] <;> omega
theorem State.limitsSet_fen : (s.limitsSet p fmin fmax fen fr n next warn).rd R.PTU_PFRM_FEN p = fen % R.PTU_PFRM_FEN.span := by
  rw [State.limitsSet_rd _ _ _ _ _ _ _ _ _ _ (by decide), State.rd_wr_same]
theorem State.limitsSet_fmax :
    (s.limitsSet p fmin fmax fen fr n next warn).rd R.PTU_PFRM_FMAX p = fmax % R.PTU_PFRM_FMAX.span := by
  rw [State.limitsSet_rd _ _ _ _ _ _ _ _ _ _ (by decide), State.rd_wr_ne, State.rd_wr_same]
  simp [Field.key, R.PTU_PFRM_FMAX, R.PTU_PFRM_FEN]
theorem State.limitsSet_fmin :
    (s.limitsSet p fmin fmax fen fr n next warn).rd R.PTU_PFRM_FMIN p = fmin % R.PTU_PFRM_FMIN.span := by
  rw [State.limitsSet_rd _ _ _ _ _ _ _ _ _ _ (by decide), State.rd_wr_ne, State.rd_wr_ne, State.rd_wr_same] <;>
    simp [Field.key, R.PTU_PFRM_FMAX, R.PTU_PFRM_FMIN, R.PTU_PFRM_FEN]

end

/-- A legal write of PTU_PFRM: whether FEN moves or not, the port's prediction follows the write. -/
theorem exec_pfrmWrite_legal {s : State} {fn : InstNo} {p : PortNo} {v : Word} (hrun : s.phase = .running)
    (hreach : s.reaches fn.toNat (R.PTU_PFRM_FEN.off p.toNat))
    (hlegal : 125 ≤ bits v 12 0 ∧ bits v 12 0 ≤ bits v 28 16 ∧ bits v 28 16 ≤ 8000) :
    ∃ fr n next warn, exec (.pfrmWrite fn p v) s =
      .next (s.limitsSet p.toNat (bits v 12 0) (bits v 28 16) (bits v 31 31) fr n next warn) := by
  have htaken : ¬(bits v 12 0 < 125 ∨ 8000 < bits v 28 16 ∨ bits v 28 16 < bits v 12 0) := by omega
  rw [exec_pfrmWrite, execPfrmWrite, act_running s _ hrun, State.gated_of_reaches _ hreach]
  simp only [if_neg htaken]
  split
  · obtain ⟨n, next, warn, h⟩ := State.predict_eq
      (((s.wr R.PTU_PFRM_FMIN (bits v 12 0) p.toNat).wr R.PTU_PFRM_FMAX (bits v 28 16) p.toNat).wr
        R.PTU_PFRM_FEN (bits v 31 31) p.toNat) p.toNat
    exact ⟨s.frame, n, next, warn, by rw [h]; rfl⟩
  · obtain ⟨fr, hg⟩ := State.gangMove_eq (State.setFrame _ p.toNat _) p.toNat (s.followers p.toNat)
    rw [hg]
    obtain ⟨n, next, warn, h⟩ := State.predict_eq { State.setFrame _ p.toNat _ with frame := fr } p.toNat
    exact ⟨fr, n, next, warn, by rw [h]; rfl⟩

/-- Bits of a word read no more than their width. -/
theorem bits_lt (w : Word) (hi lo : Nat) : bits w hi lo < 2 ^ (hi + 1 - lo) := Nat.mod_lt _ (Nat.two_pow_pos _)

/-- What a legal write of PTU_PFRM leaves: limits and FEN as written, and nothing else changed but the port's frame, PTU_PNEXT and
PREWARN. -/
theorem answers_pfrmWrite_legal {s : State} {fn : InstNo} {p : PortNo} {v : Word} (hrun : s.phase = .running)
    (hreach : s.reaches fn.toNat (R.PTU_PFRM_FEN.off p.toNat))
    (hlegal : 125 ≤ bits v 12 0 ∧ bits v 12 0 ≤ bits v 28 16 ∧ bits v 28 16 ≤ 8000) :
    s.answers (.pfrmWrite fn p v) (fun u =>
      u.rd R.PTU_PFRM_FMIN p.toNat = bits v 12 0 ∧ u.rd R.PTU_PFRM_FMAX p.toNat = bits v 28 16 ∧
      u.rd R.PTU_PFRM_FEN p.toNat = bits v 31 31 ∧ u.still = { s with frame := u.frame }.still ∧
      s.regsKept u ([R.PTU_PFRM_FMIN, R.PTU_PFRM_FMAX, R.PTU_PFRM_FEN, R.PTU_PNEXT_NEXT, R.PTU_PSTAT_PREWARN].map
        (fun f => f.key p.toNat))) := by
  obtain ⟨fr, n, next, warn, hexec⟩ := exec_pfrmWrite_legal hrun hreach hlegal
  refine ⟨_, hexec, ?_, ?_, ?_, State.limitsSet_still .., State.limitsSet_regsKept _ _ _ _ _ _ _ _ _⟩
  · rw [State.limitsSet_fmin]
    exact Nat.mod_eq_of_lt (bits_lt v 12 0)
  · rw [State.limitsSet_fmax]
    exact Nat.mod_eq_of_lt (bits_lt v 28 16)
  · rw [State.limitsSet_fen]
    exact Nat.mod_eq_of_lt (bits_lt v 31 31)

/-- Settles O24: each write that is taken writes one field, but for a legal PTU_PFRM, which also moves the port's frame and
prediction. -/
theorem timeBaseWrites : Obligations.TimeBaseWrites := by
  intro s fn t p v n fmin fmax hrun
  have hn : bits v 23 0 = n := by simp [bits, n]
  have hmin : bits v 12 0 = fmin := by simp [bits, fmin]
  have hmax : bits v 28 16 = fmax := rfl
  have hfen : bits v 31 31 = v.toNat / 2 ^ 31 := Nat.mod_eq_of_lt (by omega)
  rw [← hmin, ← hmax, ← hn, ← hfen]
  refine ⟨fun hr => ⟨fun h => ?_, fun h => ?_⟩, fun hr => ?_, fun hr => ?_, fun hr => ?_, fun hr => ⟨fun h => ?_, fun h => ?_⟩,
    fun hr => ⟨fun h => ?_, fun h => ?_⟩⟩
  -- PTU_TINC inside and outside its trim range (R20)
  · exact State.answers_ptuWrite hrun hr rfl (if_pos h) (by decide) (bits_lt v 23 0)
  · exact State.answers_discard hrun hr rfl (if_neg h)
  -- TLOAD, TSTEP (R21) and PRESET (R34)
  · exact State.answers_ptuWrite hrun hr rfl rfl (by decide) (by decide)
  · exact State.answers_ptuWrite hrun hr rfl rfl (by decide) (by decide)
  · exact State.answers_ptuWrite hrun hr rfl rfl (by decide) (by decide)
  -- PTU_PFNUM without and with frames (R51)
  · have hoff : s.on R.PTU_PFRM_FEN p.toNat = false := by simp [State.on, h]
    refine State.answers_ptuWrite hrun hr rfl ?_ (by decide) (Nat.mod_lt _ (by decide))
    simp [hoff, bits]
  · have hon : s.on R.PTU_PFRM_FEN p.toNat = true := by simp [State.on, h]
    exact State.answers_discard hrun hr rfl (if_pos hon)
  -- PTU_PFRM with legal limits and with others (R44, R46)
  · exact answers_pfrmWrite_legal hrun hr h
  · exact State.answers_ptuWrite hrun hr rfl (if_pos (by omega)) (by decide) (by decide)

end Sys2Proof.Machine
end

section
/-! SUPPORT. The integer register and immediate forms: their results and flags as the tables give them, and how they retire. -/

namespace Sys2Proof.Machine

/-! ## Flag codes (R318, R323, R325) -/

theorem Eng.flagsA_false (x : Eng) (a b : Word) : x.flagsA a b false =
    x.flagged (a + b) (decide (2 ^ 32 ≤ a.toNat + b.toNat)) (a.msb == b.msb && (a + b).msb != a.msb) := by
  simp [Eng.flagsA, Eng.flagged, w32, b2n]
theorem Eng.flagsS_false (x : Eng) (a b : Word) : x.flagsS a b false =
    x.flagged (a - b) (decide (a.toNat < b.toNat)) (a.msb != b.msb && (a - b).msb != a.msb) := by
  simp [Eng.flagsS, Eng.flagged, w32, b2n]

/-- Only the minimum is negative and stays negative when it is negated. -/
theorem msb_and_msb_neg (a : Word) : (a.msb && (0 - a).msb) = (a == 0x80000000) := by
  have hlt := a.isLt
  rw [Bool.eq_iff_iff]
  simp only [Bool.and_eq_true, BitVec.msb_eq_decide, decide_eq_true_eq, beq_iff_eq, ← BitVec.toNat_inj, BitVec.toNat_sub,
    BitVec.ofNat_eq_ofNat, BitVec.toNat_ofNat]
  omega
/-- The flags of NEG: flag code S of 0 − ra, but C = 0 for the minimum (R325; log entry 34). -/
theorem Eng.negFlags_eq (x : Eng) (a : Word) :
    (if a = 0x80000000 then x.flagsV a true else x.flagsS 0 a false) =
      x.flagged (0 - a) (decide (a ≠ 0 ∧ a ≠ 0x80000000)) (a == 0x80000000) := by
  by_cases h : a = 0x80000000
  · subst h
    rfl
  · have hpos : 0 < a.toNat ↔ a ≠ 0 := Nat.pos_iff_ne_zero.trans (not_congr (BitVec.toNat_inj (y := 0)))
    have hC : decide ((0 : Word).toNat < a.toNat) = decide (a ≠ 0 ∧ a ≠ 0x80000000) :=
      decide_eq_decide.mpr (hpos.trans (and_iff_left h).symm)
    have hV : ((0 : Word).msb != a.msb && (0 - a).msb != (0 : Word).msb) = (a == 0x80000000) := by
      rw [← msb_and_msb_neg, show (0 : Word).msb = false from rfl, Bool.false_bne, Bool.bne_false]
    rw [if_neg h, Eng.flagsS_false, hC, hV]

/-! ## Results (R323, R327) -/

/-- Of two equal words it does not matter which is taken: a choice by ≤ is the choice by <. -/
theorem ite_le_eq_ite_lt {le lt : Prop} [Decidable le] [Decidable lt] {a b : Word} (h : le ↔ lt ∨ a = b) :
    (if le then a else b) = (if lt then a else b) ∧ (if le then b else a) = if lt then b else a := by
  by_cases hlt : lt
  · simp only [h.mpr (.inl hlt), hlt, if_true, and_self]
  · by_cases hab : a = b
    · subst hab
      simp only [ite_self, and_self]
    · have hle : ¬le := fun g => (h.mp g).elim hlt hab
      simp only [hle, hlt, if_false, and_self]
theorem toInt_le_iff (a b : Word) : a.toInt ≤ b.toInt ↔ a.slt b = true ∨ a = b := by
  rw [Int.le_iff_lt_or_eq, BitVec.slt_iff_toInt_lt, BitVec.toInt_inj]
theorem word_le_iff (a b : Word) : a ≤ b ↔ a.ult b = true ∨ a = b := by
  rw [BitVec.le_def, Nat.le_iff_lt_or_eq, BitVec.ult_iff_toNat_lt, BitVec.toNat_inj]
theorem smin_eq (a b : Word) : smin a b = if a.slt b then a else b := (ite_le_eq_ite_lt (toInt_le_iff a b)).1
theorem smax_eq (a b : Word) : smax a b = if a.slt b then b else a := (ite_le_eq_ite_lt (toInt_le_iff a b)).2
/-- LUI's immediate in the upper half. -/
theorem append_zero_eq_shiftLeft (imm : BitVec 16) : imm ++ (0 : BitVec 16) = imm.setWidth 32 <<< 16 := by
  simpa using BitVec.setWidth_append_eq_shiftLeft_setWidth_or (b := imm) (b' := 0#16) (w'' := 32)

/-! ## How the shapes retire -/

/-- Nothing that `v` reads from an engine depends on its cycle count. -/
def Eng.steady {α : Type} (v : Eng → α) : Prop := ∀ (x : Eng) (m : BitVec 33), v { x with lcyc := m, hbRet := true } = v x

theorem Eng.uniform_setG (n : Nat) {v : Eng → Word} (hv : Eng.steady v) : Eng.uniform fun x => x.setG n (v x) := by
  intro x m
  simp only [hv x m, Eng.setG_lcyc]

section
variable {s : State} {i : Instr} {e : EngNo} {rd ra rb : BitVec 5}

/-- A register form of two operands: rd takes its result, then the flags follow. -/
theorem State.leaves_alu3 {res : Eng → Word → Word → Word} {fl : Eng → Word → Word → Eng} {y : Eng}
    (hx : exec i s = act s (alu3 e ⟨rd, ra, rb, 0, 0⟩ res fl)) (hres : ∀ a b, Eng.steady fun x => res x a b)
    (hfl : ∀ a b, Eng.uniform fun x => fl x a b) (h : s.runs e.toNat true [ra.toNat, rb.toNat])
    (hy : let x := s.getEng e.toNat
      let a := x.gr ra.toNat
      let b := x.gr rb.toNat
      fl (x.setG rd.toNat (res x a b)) a b = y) : s.leaves i e.toNat y.next := by
  refine State.leaves_of hx (fun x m => ?_) h (congrArg Eng.next hy)
  simp only [Eng.gr_lcyc, hres _ _ x m, Eng.setG_lcyc, hfl _ _ _ m]
/-- A register form of two operands and flag code L. -/
theorem State.leaves_aluL {res : Word → Word → Word} {r : Word} (hx : exec i s = act s (aluL e ⟨rd, ra, rb, 0, 0⟩ res))
    (h : s.runs e.toNat true [ra.toNat, rb.toNat])
    (hr : let x := s.getEng e.toNat
      res (x.gr ra.toNat) (x.gr rb.toNat) = r) :
    s.leaves i e.toNat (((s.getEng e.toNat).setG rd.toNat r).flagged r false false).next := by
  subst hr
  exact State.leaves_alu3 (res := fun _ => res) (fl := fun x a b => x.flagsL (res a b)) hx (fun _ _ _ _ => rfl)
    (fun _ _ _ _ => rfl) h rfl
/-- A register form of one operand. -/
theorem State.leaves_alu2 {res : Word → Word} {fl : Eng → Word → Eng} {y : Eng}
    (hx : exec i s = act s (alu2 e ⟨rd, ra, 0, 0, 0⟩ res fl))
    (hfl : ∀ a, Eng.uniform fun x => fl x a) (h : s.runs e.toNat true [ra.toNat])
    (hy : let x := s.getEng e.toNat
      let a := x.gr ra.toNat
      fl (x.setG rd.toNat (res a)) a = y) : s.leaves i e.toNat y.next := by
  refine State.leaves_of hx (fun x m => ?_) h (congrArg Eng.next hy)
  simp only [Eng.gr_lcyc, Eng.setG_lcyc, hfl _ _ m]
/-- A register form of one operand and flag code L. -/
theorem State.leaves_alu2L {res : Word → Word} {r : Word}
    (hx : exec i s = act s (alu2 e ⟨rd, ra, 0, 0, 0⟩ res fun x a => x.flagsL (res a)))
    (h : s.runs e.toNat true [ra.toNat]) (hr : res ((s.getEng e.toNat).gr ra.toNat) = r) :
    s.leaves i e.toNat (((s.getEng e.toNat).setG rd.toNat r).flagged r false false).next := by
  subst hr
  exact State.leaves_alu2 hx (fun _ _ _ => rfl) h rfl
/-- An immediate form that writes rd. -/
theorem State.leaves_immOp {imm : BitVec 16} {ok : Bool} {res : Word → Word} {r : Word}
    (hx : exec i s = act s (immOp e ⟨rd, ra, imm⟩ ok res)) (hok : ok = true) (h : s.runs e.toNat true [ra.toNat])
    (hr : res ((s.getEng e.toNat).gr ra.toNat) = r) :
    s.leaves i e.toNat ((s.getEng e.toNat).setG rd.toNat r).next := by
  subst hok hr
  exact State.leaves_of hx (Eng.uniform_setG _ fun _ _ => rfl) h rfl
/-- An immediate shift: an amount of IMM[7:0] alone is never refused (R326). -/
theorem State.leaves_immShift {amount : BitVec 8} {op : Word → Nat → Word} {r : Word}
    (hx : exec i s = act s (immShift e ⟨rd, ra, amount.setWidth 16⟩ op)) (h : s.runs e.toNat true [ra.toNat])
    (hr : op ((s.getEng e.toNat).gr ra.toNat) amount.toNat = r) :
    s.leaves i e.toNat ((s.getEng e.toNat).setG rd.toNat r).next := by
  have hamt : (amount.setWidth 16).toNat = amount.toNat := BitVec.toNat_setWidth_of_le (by decide)
  exact State.leaves_immOp (res := fun a => op a (amount.setWidth 16).toNat) hx
    (decide_eq_true (Nat.lt_of_le_of_lt (Nat.le_of_eq hamt) amount.isLt)) h (by rw [hamt, hr])

end

/-- Settles O1: each form is of one of the shapes above, and the model's result and flags are those of its row. -/
theorem aluRegisterForms : Obligations.AluRegisterForms := by
  intro s e rd ra rb cond x a b c f one none codeA codeS codeL put logic
  refine ⟨fun h => ⟨?add, ?sub, ?adc, ?sbc,
      -- AND, OR, XOR, ANDN
      State.leaves_aluL rfl h rfl, State.leaves_aluL rfl h rfl, State.leaves_aluL rfl h rfl, State.leaves_aluL rfl h rfl,
      -- SLL, SRL, SRA, ROR
      State.leaves_aluL rfl h rfl, State.leaves_aluL rfl h rfl, State.leaves_aluL rfl h rfl, State.leaves_aluL rfl h rfl,
      -- MIN, MAX, MINU, MAXU
      State.leaves_aluL rfl h (smin_eq a b), State.leaves_aluL rfl h (smax_eq a b),
      State.leaves_aluL rfl h (ite_le_eq_ite_lt (word_le_iff a b)).1,
      State.leaves_aluL rfl h (ite_le_eq_ite_lt (word_le_iff a b)).2,
      ?cmp, ?tst, ?sel⟩,
    fun h => ⟨?neg, ?abs,
      -- CLZ, POPC, BSWAP, SEXTB, SEXTH
      State.leaves_alu2L rfl h rfl, State.leaves_alu2L rfl h rfl, State.leaves_alu2L rfl h rfl,
      State.leaves_alu2L rfl h rfl, State.leaves_alu2L rfl h rfl⟩⟩
  case add => exact State.leaves_alu3 rfl (fun _ _ _ _ => rfl) (fun _ _ _ _ => rfl) h (Eng.flagsA_false _ a b)
  case sub => exact State.leaves_alu3 rfl (fun _ _ _ _ => rfl) (fun _ _ _ _ => rfl) h (Eng.flagsS_false _ a b)
  case adc =>
    -- the carry that goes in is the one before rd is written
    exact State.leaves_alu3 rfl (fun _ _ _ _ => rfl) (fun _ _ _ _ => rfl) h (congrArg _ (x.setG_flagC _ _))
  case sbc => exact State.leaves_alu3 rfl (fun _ _ _ _ => rfl) (fun _ _ _ _ => rfl) h (congrArg _ (x.setG_flagC _ _))
  case cmp => exact State.leaves_of rfl (fun _ _ => rfl) h (congrArg Eng.next (x.flagsS_false a b))
  case tst => exact State.leaves_of rfl (fun _ _ => rfl) h rfl
  case sel => exact State.leaves_of rfl (Eng.uniform_setG _ fun _ _ => rfl) h rfl
  case neg =>
    refine State.leaves_alu2 rfl (fun a y m => ?_) h (Eng.negFlags_eq _ a)
    simp only [Eng.negFlags_eq]
    rfl
  case abs => exact State.leaves_alu2 rfl (fun _ _ _ => rfl) h rfl

/-- Settles O3: each form but CMPI, TSTI and LUI is of one of the shapes above, with the result of its row. -/
theorem immediateForms : Obligations.ImmediateForms := by
  intro s e rd ra imm amount x a f sh sx zx gives d
  refine ⟨fun h => ⟨
      -- ADDI, ANDI, ORI, XORI
      State.leaves_immOp rfl rfl h rfl, State.leaves_immOp rfl rfl h rfl, State.leaves_immOp rfl rfl h rfl,
      State.leaves_immOp rfl rfl h rfl,
      -- SLLI, SRLI, SRAI, RORI
      State.leaves_immShift (op := shl) rfl h rfl, State.leaves_immShift (op := shr) rfl h rfl,
      State.leaves_immShift (op := sar) rfl h rfl, State.leaves_immShift (op := ror) rfl h rfl,
      ?cmpi, ?tsti⟩, fun h => ?lui⟩
  case cmpi => exact State.leaves_of rfl (fun _ _ => rfl) h (congrArg Eng.next (x.flagsS_false a sx))
  case tsti => exact State.leaves_of rfl (fun _ _ => rfl) h rfl
  case lui =>
    refine State.leaves_of rfl (Eng.uniform_setG _ fun _ _ => rfl) h ?_
    rw [append_zero_eq_shiftLeft]

end Sys2Proof.Machine
end
